-- ==== Sys2Proof/Word.lean ====
section
/-!
DEFINITION. The words of the block and their plainest arithmetic (00 R4, R5).
-/

namespace Sys2Proof

abbrev Byte := BitVec 8
abbrev U2 := BitVec 2
abbrev U8 := BitVec 8
abbrev U16 := BitVec 16
abbrev U32 := BitVec 32
abbrev U64 := BitVec 64

end Sys2Proof
end

