-- ==== Sys2Proof/Wire.lean ====
section
/-!
DEFINITION. The plain data that travels: configuration items, wire frames, and the operands of the commands.
Bits a rule numbers are bit vectors; counts, sizes and indices are Nat. Docstrings name the rule of spec/ by chapter.
-/

namespace Sys2Proof

/-- The two local host buses (05 Table 5.1, transport codes 1 and 2). -/
inductive Bus where
  | pcie
  | qspi
  deriving DecidableEq, Repr

/-- The part numbers of 00 Table 0.3. -/
inductive Variant where
  | e30
  | a30
  deriving DecidableEq, Repr

/-- The module states of 01 Table 1.7. -/
inductive Mode where
  | off
  | boot
  | quarantine
  | commissioning
  | declarer
  | dummy
  | update
  | standby
  | failLit
  deriving DecidableEq, Repr

/-- The kinds of ante-gated store of 03 Table 3.4. -/
inductive StoreKind where
  | nand
  | key
  | fuse
  | image
  | closing
  deriving DecidableEq, Repr

/-- Commissioned settings item 0x0104 (15 Table 15.15). -/
structure CommRec where
  /-- segment number (10 R264). -/
  segment : U32
  /-- nominal frequency, 50 or 60 Hz (07 R161). -/
  nominal : Nat
  /-- declared voltage of supply A, V (0 until computed) (07 R165). -/
  uDinA : Nat
  /-- declared voltage of supply B, V (0 until computed) (07 R165). -/
  uDinB : Nat
  deriving DecidableEq, Repr

/-- One correction point of a channel (07 Table 7.2). -/
structure CorrPoint where
  /-- BREAK (07 R156). -/
  brk : Nat
  /-- GAIN (07 R156). -/
  gain : Int
  /-- PHASE, 10^-6 degree (07 R156). -/
  phase : Int
  deriving DecidableEq, Repr

/-- `CorrPoint` at reset. -/
def CorrPoint.reset : CorrPoint where
  brk := 0
  gain := 0
  phase := 0

/-- Correction of one channel as commissioned (07 Table 7.2). -/
structure ChanCorr where
  /-- BREAK_0.INTEG (07 R156). -/
  integ : Bool
  /-- the eight points (07 R156). -/
  points : List CorrPoint
  deriving DecidableEq, Repr

/-- `ChanCorr` at reset. -/
def ChanCorr.reset : ChanCorr where
  integ := false
  points := List.replicate 8 CorrPoint.reset

/-- One coefficient bank (08 Table 8.5). -/
structure Bank where
  /-- KP (08 Table 8.5). -/
  kp : Int
  /-- KI (08 Table 8.5). -/
  ki : Int
  /-- KD (08 Table 8.5). -/
  kd : Int
  /-- N1_F (08 Table 8.5). -/
  n1f : Nat
  /-- N1_Q (08 Table 8.5). -/
  n1q : Nat
  /-- N2_F (08 Table 8.5). -/
  n2f : Nat
  /-- N2_Q (08 Table 8.5). -/
  n2q : Nat
  /-- KFF (08 Table 8.5). -/
  kff : Int
  /-- OUT_MIN (08 Table 8.5). -/
  outMin : Int
  /-- OUT_MAX (08 Table 8.5). -/
  outMax : Int
  deriving DecidableEq, Repr

/-- `Bank` at reset. -/
def Bank.reset : Bank where
  kp := 0
  ki := 0
  kd := 0
  n1f := 0
  n1q := 100
  n2f := 0
  n2q := 100
  kff := 0
  outMin := 0
  outMax := 10000

/-- A configured loop instance (08 Table 8.4). -/
structure LoopCfg where
  /-- loop index, 0 to 63 (08 Table 8.4). -/
  idx : Nat
  /-- KIND (08 Table 8.2). -/
  kind : Nat
  /-- OUTPUT (08 Table 8.1). -/
  output : Nat
  /-- OPTS.D_EN (08 Table 8.4). -/
  dEn : Bool
  /-- OPTS.SP_HOST (08 Table 8.4). -/
  spHost : Bool
  /-- OPTS.SAT_ACT (08 Table 8.4). -/
  satAct : Nat
  /-- OPTS.P_ONLY (08 Table 8.4). -/
  pOnly : Bool
  /-- PV_SRC (08 Table 8.3). -/
  pvSrc : Nat
  /-- FF_SRC (08 Table 8.3). -/
  ffSrc : Nat
  /-- RAMP_UP (08 Table 8.4). -/
  rampUp : Nat
  /-- RAMP_DN (08 Table 8.4). -/
  rampDn : Nat
  /-- SAT_MS (08 Table 8.4). -/
  satMs : Nat
  /-- GROUP (08 Table 8.4). -/
  group : Nat
  /-- bank A (08 R190). -/
  bankA : Bank
  /-- bank B (08 R190). -/
  bankB : Bank
  /-- bank B is active (08 Table 8.8 BANK). -/
  activeB : Bool
  deriving DecidableEq, Repr

/-- An output stage as configured (09 R225). -/
structure StageCfg where
  /-- LINK (09 R225). -/
  link : Nat
  /-- ADDR (09 R225). -/
  addr : Nat
  /-- FEEDER (09 R225). -/
  feeder : Nat
  /-- road class, MODE[3:0] (09 R225). -/
  cls : Nat
  deriving DecidableEq, Repr

/-- A string as configured (09 R233). -/
structure StringCfg where
  /-- CH (09 R233). -/
  ch : Nat
  /-- MAX_MA (09 R233). -/
  maxMa : Nat
  /-- VF_MAX, mV (09 R233). -/
  vfMax : Nat
  /-- PROBE, s (0 means 10) (09 R233). -/
  probe : Nat
  deriving DecidableEq, Repr

/-- A lantern or sensor node record (10 R278, R279, 15 Table 15.15 item 0x0501). -/
structure NodeRec where
  /-- NODE reference (06 R137). -/
  node : U32
  /-- EUI-64 (10 Table 10.13). -/
  eui : List Byte
  /-- TYPE word (10 Table 10.12). -/
  typ : U16
  /-- FEEDER (06 Table 6.11). -/
  feeder : Nat
  /-- PORT: 0 any, 1 RF-A, 2 RF-B (06 Table 6.11). -/
  port : Nat
  /-- CLASS, road class (13 R340). -/
  cls : Nat
  /-- SLEEPY (06 Table 6.11). -/
  sleepy : Bool
  /-- 0 own, 1 adopted (06 Table 6.11 ORIGIN). -/
  origin : Nat
  /-- home segment of an adopted node (10 R291). -/
  home : U32
  /-- short address once assigned (10 R260). -/
  short : Option Nat
  /-- port on which the node first joined; 0 none (15 R395). -/
  joinPort : Nat
  /-- peer preference: 1 SEG1, 2 SEG2, 0 none yet (10 R290). -/
  prefer : Nat
  /-- SEGMENT and RSSI of the beacons in the node's last STATUS (10 R286, R290). -/
  beacons : List (U32 × Int)
  deriving DecidableEq, Repr

/-- An Ethernet port as configured (11 R303). -/
structure PortCfg where
  /-- SPEED (11 R303). -/
  speed : Nat
  /-- MAXF (11 R302). [reset: DESIGN CHOICE, log 20] -/
  maxf : Nat
  /-- PFLAGS; ENABLE, PREEMPT and PAUSE_RX reset to 1 on P1 and P2 (11 Table 11.4). -/
  pflags : U32
  deriving DecidableEq, Repr

/-- `PortCfg` at reset. -/
def PortCfg.reset : PortCfg where
  speed := 0
  maxf := 1522
  pflags := 0x0D

/-- IEEE 1588 as configured (11 R312). -/
structure PtpCfg where
  /-- CLOCK: 0 ordinary, 1 boundary (11 R312). [reset: DESIGN CHOICE, log 9] -/
  clock : Nat
  /-- STEPS (11 R312). [reset: DESIGN CHOICE, log 20] -/
  steps : Nat
  /-- DOMAIN (11 R312). [reset: DESIGN CHOICE, log 9] -/
  domain : Nat
  /-- PORTS (11 R312). [reset: DESIGN CHOICE, log 20] -/
  ports : Nat
  deriving DecidableEq, Repr

/-- `PtpCfg` at reset. -/
def PtpCfg.reset : PtpCfg where
  clock := 0
  steps := 2
  domain := 0
  ports := 1

/-- A tell (11 Table 11.7). -/
structure TellCfg where
  /-- ENABLE (11 Table 11.7). -/
  enable : Bool
  /-- CHECK (11 Table 11.7). [reset: DESIGN CHOICE, log 9] -/
  check : U16
  /-- MASK (11 Table 11.7). -/
  mask : List Byte
  deriving DecidableEq, Repr

/-- `TellCfg` at reset. -/
def TellCfg.reset : TellCfg where
  enable := false
  check := 0
  mask := List.replicate 16 0

/-- A date entry of a schedule (13 Table 13.4). -/
structure DateEntry where
  /-- YEAR, 0xFF every year (13 Table 13.4). -/
  year : Nat
  /-- MONTH (13 Table 13.4). -/
  month : Nat
  /-- DAY (13 Table 13.4). -/
  day : Nat
  /-- SPAN (13 Table 13.4). -/
  span : Nat
  /-- MODE 1, exclude (13 Table 13.4). -/
  excl : Bool
  deriving DecidableEq, Repr

/-- A step of a schedule (13 Table 13.5). -/
structure SchedStep where
  /-- REF (13 Table 13.5). -/
  ref : Nat
  /-- ACT (13 Table 13.5). -/
  act : Nat
  /-- OFFSET, minutes (13 Table 13.5). -/
  offset : Int
  /-- VALUE (13 Table 13.5). -/
  value : Nat
  /-- ARG (13 Table 13.5). -/
  arg : Nat
  deriving DecidableEq, Repr

/-- A schedule (13 R348). -/
structure Sched where
  /-- SCHED index (13 R348). -/
  sched : Nat
  /-- GROUP reference (13 Table 13.3). -/
  group : U32
  /-- PRIORITY (13 Table 13.3). -/
  priority : Nat
  /-- DAYS (13 Table 13.3). -/
  days : BitVec 7
  /-- LAT, 10^-6 degree (13 Table 13.3). -/
  lat : Int
  /-- LON, 10^-6 degree (13 Table 13.3). -/
  lon : Int
  /-- date entries (13 Table 13.4). -/
  dates : List DateEntry
  /-- steps (13 Table 13.5). -/
  steps : List SchedStep
  deriving DecidableEq, Repr

/-- A light wave (13 Table 13.6). -/
structure Wave where
  /-- WAVE (13 R360). -/
  wave : Nat
  /-- LEVEL (13 Table 13.6). -/
  level : Nat
  /-- KINDS (13 Table 13.6). -/
  kinds : Nat
  /-- LEAD (13 Table 13.6). -/
  lead : Nat
  /-- HOLD (13 Table 13.6). -/
  hold : Nat
  /-- FADE_UP (13 Table 13.6). -/
  fadeUp : Nat
  /-- FADE_DN (13 Table 13.6). -/
  fadeDn : Nat
  /-- REACH, mm (13 Table 13.6). -/
  reach : Nat
  /-- BACK, mm (13 Table 13.6). -/
  back : Nat
  /-- V_DEF (13 Table 13.6). -/
  vDef : Nat
  /-- sensors with path positions (13 Table 13.6). -/
  sensors : List (U32 × Int)
  /-- lanterns with path positions (13 Table 13.6). -/
  lanterns : List (U32 × Int)
  deriving DecidableEq, Repr

/-- One change rule of a POSIX TZ string (13 R354). -/
structure TzRule where
  /-- 0 Jn, 1 n, 2 Mm.w.d (13 R354). -/
  form : Nat
  /-- n, or m (13 R354). -/
  a : Nat
  /-- w (13 R354). -/
  b : Nat
  /-- d (13 R354). -/
  c : Nat
  /-- seconds after 00:00 local (13 R354). -/
  time : Int
  deriving DecidableEq, Repr

/-- The zone rule (13 R354). -/
structure Zone where
  /-- seconds to add to UTC in standard time; factory UTC0 (13 R354). -/
  std : Int
  /-- daylight offset with its start and end rules (13 R354). -/
  dst : Option (Int × TzRule × TzRule)
  /-- the TZ string as set (13 R354). -/
  text : List Byte
  deriving DecidableEq, Repr

/-- `Zone` at reset. -/
def Zone.reset : Zone where
  std := 0
  dst := none
  text := [0x55, 0x54, 0x43, 0x30]

/-- A configuration item (15 Table 15.15): the record that the command last setting it leaves. -/
inductive CfgItem where
  | comm (c : CommRec)
  | corr (ch : Nat) (c : ChanCorr)
  | accMode (reg : Nat) (abs : Bool)
  | suit (node : U32) (code : Nat)
  | loop (c : LoopCfg)
  | stage (c : StageCfg)
  | term (link : Nat) (on : Bool)
  | aiMode (n : Nat) (mode : Nat)
  | string (c : StringCfg)
  | chain (port : Nat) (expect : Nat)
  | safe (target : Nat) (index : Nat) (level : Nat)
  | node (n : NodeRec)
  | profile (p : Nat) (maxA : Int) (maxB : Int)
  | peers (seg1 seg2 : U32) (addr1 addr2 : List Byte)
  | port (n : Nat) (c : PortCfg)
  | ptp (c : PtpCfg)
  | tell (n : Nat) (c : TellCfg)
  | tai (offset : Int) (since : Nat)
  | group (n : Nat) (members : List U32)
  | sched (c : Sched)
  | zone (c : Zone)
  | wave (c : Wave)
  | dealer (d : Nat)
  deriving DecidableEq, Repr

/-- Peer seats as configured (06 Table 6.11). -/
structure PeersCfg where
  /-- SEG1 (06 Table 6.11). -/
  seg1 : U32
  /-- SEG2 (06 Table 6.11). -/
  seg2 : U32
  /-- ADDR1 (06 Table 6.11). -/
  addr1 : List Byte
  /-- ADDR2 (06 Table 6.11). -/
  addr2 : List Byte
  deriving DecidableEq, Repr

/-- The configuration records of Table 15.15, item by item (15 R421). -/
structure Cfg where
  /-- commissioned settings (15 Table 15.15 item 0x0104). -/
  comm : Option CommRec
  /-- correction segments (15 Table 15.15 item 0x0204). -/
  corr : List ChanCorr
  /-- absolute mode per register (15 Table 15.15 item 0x0206). -/
  accModes : List Bool
  /-- suit code per lantern (15 Table 15.15 item 0x0209). -/
  suit : List (U32 × Nat)
  /-- loops with their banks (15 Table 15.15 items 0x0301, 0x0303, 0x0304). -/
  loops : List LoopCfg
  /-- output stages (15 Table 15.15 item 0x0401). -/
  stages : List StageCfg
  /-- link termination (15 Table 15.15 item 0x0401, 09 R225). -/
  term : List Bool
  /-- analogue input modes (15 Table 15.15 item 0x0401, 09 R225). -/
  aiModes : List Nat
  /-- strings (15 Table 15.15 item 0x0404). -/
  strings : List StringCfg
  /-- EXPECT of each chain port (15 Table 15.15 item 0x0406). -/
  chains : List Nat
  /-- safe levels: TARGET, INDEX, SAFE (15 Table 15.15 item 0x040A). -/
  safes : List (Nat × Nat × Nat)
  /-- own node records (15 Table 15.15 item 0x0501). -/
  nodes : List NodeRec
  /-- PROFILE, MAX_A, MAX_B once confirmed (15 Table 15.15 item 0x0505). -/
  profile : Option (Nat × Int × Int)
  /-- peer seats (15 Table 15.15 item 0x0508). -/
  peers : Option PeersCfg
  /-- Ethernet ports; PREEMPT and PAUSE_RX 0 on P3 (15 Table 15.15 item 0x0602). [reset: DESIGN CHOICE, log 20] -/
  ports : List PortCfg
  /-- IEEE 1588 (15 Table 15.15 item 0x0603). [reset: DESIGN CHOICE, log 20] -/
  ptp : PtpCfg
  /-- tells (15 Table 15.15 item 0x0604). -/
  tells : List TellCfg
  /-- commanded TAI-UTC: OFFSET, FROM (15 Table 15.15 item 0x0605). -/
  tai : Option (Int × Nat)
  /-- groups with their members (15 Table 15.15 item 0x0701). -/
  groups : List (Nat × List U32)
  /-- schedules (15 Table 15.15 item 0x0703). -/
  scheds : List Sched
  /-- zone rule (15 Table 15.15 item 0x0705). -/
  zone : Zone
  /-- light waves (15 Table 15.15 item 0x0706). -/
  waves : List Wave
  /-- DEALER (15 Table 15.15 item 0x0803). -/
  dealer : Nat
  deriving DecidableEq, Repr

/-- `Cfg` at reset. -/
def Cfg.reset : Cfg where
  comm := none
  corr := List.replicate 40 ChanCorr.reset
  accModes := List.replicate 20 false
  suit := []
  loops := []
  stages := []
  term := [true, true]
  aiModes := List.replicate 8 0
  strings := []
  chains := [0, 0]
  safes := []
  nodes := []
  profile := none
  peers := none
  ports := [PortCfg.reset, PortCfg.reset, { PortCfg.reset with pflags := 1, maxf := 2000 }]
  ptp := PtpCfg.reset
  tells := List.replicate 8 TellCfg.reset
  tai := none
  groups := []
  scheds := []
  zone := Zone.reset
  waves := []
  dealer := 0

/-- A loop entry of a tick-state frame (14 Table 14.4). -/
structure LoopEntry where
  /-- LOOP (14 Table 14.4). -/
  idx : Nat
  /-- INTEG, 10^-6 % (14 Table 14.4). -/
  integ : Int
  /-- PV_PREV, source unit (14 Table 14.4). -/
  pvPrev : Int
  /-- SP, or none with NO_SP (14 Table 14.4). -/
  sp : Option Int
  /-- saturation timer, ticks (14 Table 14.4). -/
  sat : Nat
  /-- NSTATE (14 Table 14.4). -/
  notches : List Int
  deriving DecidableEq, Repr

/-- The content of a tick-state frame (14 Table 14.3). -/
structure TickState where
  /-- commanded contactor states (14 Table 14.3). -/
  ct : BitVec 8
  /-- sender's claim (14 Table 14.3). -/
  claim : U32
  /-- TICK (14 Table 14.3). -/
  tick : Nat
  /-- EPOCH (14 Table 14.3). -/
  epoch : U32
  /-- STAGE_LIVE (14 Table 14.3). -/
  stageLive : U32
  /-- CFG_DIGEST (14 Table 14.3). -/
  digest : U64
  /-- CAP (14 Table 14.3). -/
  caps : List Nat
  /-- OUTPUT codes with y_prev, 10^-9 % (14 Table 14.3). -/
  outs : List (Nat × Int)
  /-- loop entries (14 Table 14.3). -/
  loops : List LoopEntry
  deriving DecidableEq, Repr

/-- Connection parameters (10 Table 10.7). -/
structure ConnParams where
  /-- ANCHOR, tick of event 0 (10 Table 10.7). -/
  anchor : Nat
  /-- MAP (10 Table 10.7). -/
  map : U64
  /-- SEED (10 Table 10.7). -/
  seed : U32
  /-- INTERVAL, 1.25 ms (10 Table 10.7). -/
  interval : Nat
  /-- TIMEOUT, 10 ms (10 Table 10.7). -/
  timeout : Nat
  /-- LATENCY (10 Table 10.7). -/
  latency : Nat
  /-- RATE (10 Table 10.7). -/
  rate : Nat
  /-- TXP, dBm (10 Table 10.7). -/
  txp : Int
  /-- PSCA, ppm (10 Table 10.7). -/
  psca : Nat
  deriving DecidableEq, Repr

/-- An association as round data carries it (14 Table 14.11). -/
structure AssocRep where
  /-- SHORT (14 Table 14.11). -/
  short : Nat
  /-- PORT (14 Table 14.11). -/
  port : Nat
  /-- NSTATE (14 Table 14.11). -/
  nstate : Nat
  /-- NODE (14 Table 14.11). -/
  node : U32
  /-- PARENT (14 Table 14.11). -/
  parent : Nat
  /-- HOPS (14 Table 14.11). -/
  hops : Nat
  /-- the 28 bytes of Table 10.7 (14 Table 14.11). -/
  params : ConnParams
  /-- HI per network-key generation (14 Table 14.11). -/
  his : List Nat
  deriving DecidableEq, Repr

/-- Edge-action ledger entry (13 R356). -/
structure Ledger where
  /-- schedule index (13 R356). -/
  sched : Nat
  /-- step index (13 R356). -/
  step : Nat
  /-- last schedule day that ran, days from 2000-01-01 (13 R356). -/
  day : Int
  deriving DecidableEq, Repr

/-- A section of round data (14 Table 14.11). -/
inductive Section where
  | assocs (l : List AssocRep)
  | assocsGone (shorts : List Nat)
  | counter (gen : Nat) (e : Nat) (restart : U32)
  | ledger (l : List Ledger)
  | changes (msgs : List (List Byte))
  | config (items : List CfgItem)
  | configGone (keys : List (U32 × U32 × U16))
  | done
  deriving DecidableEq, Repr

/-- A GMP request as SUP reads it from a channel's ring: header fields of Table 5.4 (05 R109). -/
structure Req where
  /-- channel whose ring holds the message (05 R109). -/
  ch : BitVec 3
  /-- TXN_ID (05 Table 5.4). -/
  txn : U32
  /-- LEN (05 Table 5.4). -/
  len : U16
  /-- CHANNEL field (05 Table 5.4). -/
  chan : U8
  /-- FLAGS byte (05 Table 5.4). -/
  flags : U8
  /-- COMPAT (05 Table 5.4). -/
  compat : U16
  /-- reserved word (05 Table 5.4). -/
  rsv : U32
  deriving DecidableEq, Repr

/-- What the boot sequence finds outside the chip (03 Table 3.3). -/
structure BootEnv where
  /-- SLOT_ID pins (02 R47). -/
  straps : U2
  /-- first boot check that fails; 0 none (03 R65). -/
  failed : Nat
  /-- VIN, mV (02 R42). -/
  vinMv : Nat
  /-- VHU, mV (03 R69). -/
  vhuMv : Nat
  /-- MAINS_OK (03 R67). -/
  mainsOk : Bool
  /-- level of BID_HBI; low from an absent or unpowered partner (02 R50). -/
  hbi : Bool
  /-- the backup domain has kept its supply since it last ran (12 R321). -/
  rtcOk : Bool
  /-- the CRC of the event-recorder ring is correct (used after a warm reset) (03 R61). -/
  ringOk : Bool
  deriving DecidableEq, Repr

/-- What is sampled at a tick boundary (04 Table 4.2). -/
structure TickEnv where
  /-- DI0 to DI15 (09 R231). -/
  di : U16
  /-- voltage between AIn and AIn_RET, AI0 to AI7, uV (09 R231, 02 Table 2.10). -/
  ai : List Int
  /-- MAINS_OK (03 R67). -/
  mainsOk : Bool
  /-- VHU, mV (03 R69). -/
  vhuMv : Nat
  /-- VCT, mV (02 R43). -/
  vctMv : Nat
  /-- VLED_SNS, mV (08 Table 8.3). -/
  vledMv : Nat
  /-- contactor drivers that are on and see an open load (02 Table 2.10). -/
  ctOpen : U8
  /-- SUP has committed the next deal (used at a round boundary) (04 R93). -/
  dealOk : Bool
  deriving DecidableEq, Repr

/-- A host bus access to the register map or the window (05 R101, R103). -/
structure BusAccess where
  /-- PCI Express or Quad-SPI (05 Table 5.1). -/
  bus : Bus
  /-- the window instead of the HIF_ registers (05 R103). -/
  bar2 : Bool
  /-- byte offset (05 R101, R103). -/
  addr : BitVec 20
  /-- write, or read (05 R101). -/
  write : Bool
  /-- bytes written (05 R101). -/
  data : List Byte
  /-- bytes read (05 R101). -/
  len : Nat
  deriving DecidableEq, Repr

/-- One Quad-SPI transaction framed by QS_CS_N (05 R108). -/
structure QspiTx where
  /-- instruction byte (05 Table 5.3). -/
  instr : U8
  /-- byte address (05 Table 5.3). -/
  addr : BitVec 24
  /-- data bytes written (05 Table 5.3). -/
  data : List Byte
  /-- data bytes clocked in a read (05 Table 5.3). -/
  len : Nat
  deriving DecidableEq, Repr

/-- Handshake step 1 (05 Table 5.8). -/
structure HsReq where
  /-- sender's address (05 R127). -/
  addr : List Byte
  /-- sender's UDP port (15 Table 15.13). -/
  udp : U16
  /-- P1 or P2 (15 Table 15.13). -/
  port : Nat
  /-- to port 47322 (10 R289). -/
  peer : Bool
  /-- the credential chain verifies (signatures, root slot, form) (16 R426). -/
  chainOk : Bool
  /-- root slot the chain ends at (16 R426). -/
  root : Nat
  /-- identity of the credential (05 R127). -/
  cred : U32
  /-- the chain names the owner in force (16 R426). -/
  ownerOk : Bool
  /-- n of SCM8-PRIV-n (16 R426). -/
  priv : Nat
  /-- earliest expiry of the chain, UTC (16 R426). -/
  expiry : Nat
  /-- ephemeral ECDH share (05 Table 5.8). -/
  share : List Byte
  /-- nonce (05 Table 5.8). -/
  nonce : List Byte
  deriving DecidableEq, Repr

/-- Handshake step 3 (05 Table 5.8). -/
structure HsProof where
  /-- SESSION_ID (05 Table 5.8). -/
  sid : U32
  /-- sender's address (05 R127). -/
  addr : List Byte
  /-- the signature verifies (05 R127). -/
  sigOk : Bool
  deriving DecidableEq, Repr

/-- Handshake step 2 from a peer (10 R289). -/
structure PeerHs where
  /-- peer segment the session was opened to (10 R288). -/
  seg : U32
  /-- SESSION_ID (05 Table 5.8). -/
  sid : U32
  /-- the peer's chain and signature verify (10 R289). -/
  ok : Bool
  /-- ephemeral ECDH share of the peer (05 Table 5.8). -/
  share : List Byte
  /-- nonce of the peer (05 Table 5.8). -/
  nonce : List Byte
  deriving DecidableEq, Repr

/-- A remote or peer datagram (05 Table 5.9). -/
structure Datagram where
  /-- SESSION_ID (05 Table 5.9). -/
  sid : U32
  /-- SEQ (05 Table 5.9). -/
  seq : U64
  /-- GCM tag correct (05 R128). -/
  authOk : Bool
  /-- sender's address (05 R127). -/
  addr : List Byte
  /-- decrypted BODY (05 Table 5.9). -/
  body : List Byte
  deriving DecidableEq, Repr

/-- An IP fragment of a GMP or peer datagram (05 R126). -/
structure IpFrag where
  /-- datagram identification (05 R126). -/
  key : U32
  /-- offset in the UDP payload (05 R126). -/
  off : Nat
  /-- more fragments follow (05 R126). -/
  more : Bool
  /-- bytes (05 R126). -/
  data : List Byte
  /-- the datagram as authenticated once whole (05 R126). -/
  body : Datagram
  deriving DecidableEq, Repr

/-- An uncorrectable ECC error (01 R16). -/
structure EccErr where
  /-- MEMORY: 0 SRAM, 1 DRAM, 2 NOR, 3 NAND, 4 MRAM (15 Table 15.13). -/
  mem : Nat
  /-- bank, sector, block or copy (15 Table 15.3). -/
  index : Nat
  /-- address (15 Table 15.13). -/
  addr : U64
  /-- object reference (15 Table 15.13). -/
  obj : U32
  /-- another copy of the object is good (01 R16). -/
  copyOk : Bool
  /-- the word is running code (01 R16). -/
  code : Bool
  deriving DecidableEq, Repr

/-- A block read for retention (15 Table 15.4). -/
structure NandRead where
  /-- days since the block was programmed (15 Table 15.4). -/
  days : Nat
  /-- object that stands in it (01 R16). -/
  obj : U32
  /-- another copy of the object reads well (01 R16). -/
  copyOk : Bool
  deriving DecidableEq, Repr

/-- One AFE strobe (07 R154). -/
structure Sample where
  /-- cycle of the strobe in the tick (07 R154). -/
  cycle : Nat
  /-- words of converters 0 to 41 (07 R154). -/
  codes : List Int
  deriving DecidableEq, Repr

/-- Readings of a stack test (03 R69). -/
structure StackMeas where
  /-- voltage fall over 1 s of the 0.5 A load, mV (03 R69). -/
  dropMv : Nat
  /-- voltage step in the first 10 us, mV (03 R69). -/
  stepMv : Nat
  deriving DecidableEq, Repr

/-- Readings of a hot-calibration slot (07 R158). -/
structure CalMeas where
  /-- offset measured on the spare, in codes (07 Table 7.4). -/
  spOffset : Int
  /-- gain measured on the spare, as a fraction of its factory value (07 Table 7.4). -/
  spGain : Rat
  /-- at 4 to 6 s at least half of the sample pairs were not clipped (07 R158). -/
  usable1 : Bool
  /-- at 4 to 6 s the difference is at most 0.02 % of full scale (07 R158). -/
  match1 : Bool
  /-- offset measured on the channel's own converter, in codes (07 Table 7.4). -/
  offset : Int
  /-- gain measured on it, as a fraction of its factory value (07 Table 7.4). -/
  gain : Rat
  /-- at 14 to 16 s at least half of the sample pairs were not clipped (07 R158). -/
  usable2 : Bool
  /-- at 14 to 16 s the difference is at most 0.02 % of full scale (07 R158). -/
  match2 : Bool
  deriving DecidableEq, Repr

/-- What the sinks sense over one PWM period (09 R234). -/
structure PwmEnv where
  /-- sink current of each string while on, mA (09 R241). -/
  currents : List Nat
  /-- lowest sink-pin voltage of each string while on, mV (09 R240). -/
  sinkMv : List Nat
  deriving DecidableEq, Repr

/-- The status reply frame of a stage (09 R216). -/
structure StagePart where
  /-- the START edge arrived in the interval (09 R216). -/
  start : Bool
  /-- STAT[5:0] (09 Table 9.3). -/
  stat : BitVec 6
  /-- CRC4 (09 Table 9.3). -/
  crc : BitVec 4
  deriving DecidableEq, Repr

/-- What came back from a Sifichain frame (09 R247). -/
structure ChainRet where
  /-- nothing came back (09 R247). -/
  lineLow : Bool
  /-- blocks in front of the tail block (09 R247). -/
  blocks : Nat
  /-- the blocks are well formed (09 R247). -/
  crcOk : Bool
  deriving DecidableEq, Repr

/-- A received Lernas MAC frame with its PHR (10 Table 10.4). -/
structure LernasFrame where
  /-- 1 RF-A, 2 RF-B (10 Table 10.1). -/
  port : Nat
  /-- PSDU length (10 R261). -/
  octets : Nat
  /-- PHR FCS type 1 (10 R253). -/
  fcsType1 : Bool
  /-- FCS correct (10 R253). -/
  fcsOk : Bool
  /-- FC (10 Table 10.5). -/
  fc : U16
  /-- SEQ (10 Table 10.4). -/
  seq : U16
  /-- DST (10 Table 10.4). -/
  dst : U16
  /-- SRC (10 Table 10.4). -/
  src : U16
  /-- SEC_FC (10 Table 10.4). -/
  secFc : U32
  /-- KEY_ID (10 Table 10.4). -/
  keyId : U8
  /-- ORIGIN (10 Table 10.4). -/
  origin : U16
  /-- FINAL (10 Table 10.4). -/
  final : U16
  /-- HOPS byte (10 Table 10.4). -/
  hopsB : U8
  /-- PATH (10 Table 10.4). -/
  path : List U16
  /-- TAG (10 Table 10.4). -/
  tag : U16
  /-- INDEX (10 Table 10.4). -/
  index : U8
  /-- COUNT (10 Table 10.4). -/
  count : U8
  /-- PAYLOAD, decrypted (10 Table 10.4). -/
  payload : List Byte
  /-- MIC correct (10 R263). -/
  micOk : Bool
  /-- RSSI, dBm (06 Table 6.11). -/
  rssi : Int
  deriving DecidableEq, Repr

/-- A JOIN_REQ (10 Table 10.13). -/
structure JoinReq where
  /-- EUI64 (10 Table 10.13). -/
  eui : List Byte
  /-- HOME (10 Table 10.13). -/
  home : U32
  /-- TYPE (10 Table 10.13). -/
  typ : U16
  /-- CAP (10 Table 10.13). -/
  cap : U8
  /-- CSCA (10 Table 10.13). -/
  csca : U8
  /-- MAX_PSDU (10 Table 10.13). -/
  maxPsdu : U16
  /-- MAX_CHILD (10 Table 10.13). -/
  maxChild : U8
  /-- port it arrived on (10 R278). -/
  port : Nat
  /-- short address of the router it came through; 0 directly (10 R278). -/
  via : U16
  /-- its SEC_FC (10 R266). -/
  counter : Nat
  /-- RSSI, dBm (06 Table 6.11). -/
  rssi : Int
  deriving DecidableEq, Repr

/-- A STATUS message (10 Table 10.13). -/
structure NodeStatus where
  /-- sender (10 Table 10.13). -/
  node : U32
  /-- LEVEL (10 Table 10.13). -/
  level : Nat
  /-- NFLAGS (10 Table 10.13). -/
  flags : U16
  /-- TEMP (10 Table 10.13). -/
  temp : Int
  /-- SEGMENT, RSSI (10 Table 10.13). -/
  beacons : List (U32 × Int)
  deriving DecidableEq, Repr

/-- A PRESENCE message (10 Table 10.13). -/
structure Presence where
  /-- sender (10 Table 10.13). -/
  node : U32
  /-- KIND (13 R359). -/
  kind : U8
  /-- SPEED (13 R359). -/
  speed : U16
  /-- POS (13 R359). -/
  pos : BitVec 32
  /-- TICK (13 R359). -/
  tick : U64
  deriving DecidableEq, Repr

/-- A REPLICA part (10 Table 10.14). -/
structure ReplicaPart where
  /-- SESSION_ID of the peer session it arrived on (05 Table 5.9). -/
  sess : U32
  /-- SEGMENT (10 Table 10.14). -/
  seg : U32
  /-- OWNER_ID (10 Table 10.14). -/
  owner : List Byte
  /-- VERSION (10 Table 10.14). -/
  version : U32
  /-- PART (10 Table 10.14). -/
  part : Nat
  /-- COUNT (10 Table 10.14). -/
  count : Nat
  /-- sender's address (10 R289). -/
  addr : List Byte
  /-- configuration records (10 Table 10.14). -/
  items : List CfgItem
  deriving DecidableEq, Repr

/-- A received Ethernet frame (11 R300). -/
structure EthFrame where
  /-- P1 to P3 (11 Table 11.1). -/
  port : Nat
  /-- from the destination address to the FCS (11 R302). -/
  bytes : List Byte
  /-- no FCS, alignment or symbol error (11 R301). -/
  fcsOk : Bool
  /-- UDP destination port of an IP datagram to the module; 0 none (11 Table 11.2). -/
  udpPort : Nat
  /-- multicast address the module has joined (11 Table 11.2). -/
  joined : Bool
  /-- receive room for it (11 Table 11.5). -/
  room : Bool
  deriving DecidableEq, Repr

/-- A PAUSE frame (11 R307). -/
structure PauseFrame where
  /-- port (11 R307). -/
  port : Nat
  /-- pause quanta (11 R307). -/
  quanta : U16
  /-- cycle of its last bit in the present tick (11 Table 11.6). -/
  at_ : Nat
  /-- link speed, Mbit/s (11 R307). -/
  mbps : Nat
  /-- to 01-80-C2-00-00-01 or the module's address, 64 bytes, good FCS (11 R307). -/
  own : Bool
  deriving DecidableEq, Repr

/-- An IEEE 1588 message as received (11 Table 11.8). -/
structure PtpMsg where
  /-- port (11 R312). -/
  port : Nat
  /-- versionPTP (11 Table 11.8). -/
  version : Nat
  /-- domainNumber (11 R312). -/
  domain : Nat
  /-- source clock identity (11 R312). -/
  source : U64
  /-- sequenceId (11 R315). -/
  seqId : Nat
  /-- two-step flag (11 Table 11.8). -/
  twoStep : Bool
  /-- the message's timestamp field, TAI ns (11 R317). -/
  t : Nat
  /-- correctionField, ns (11 R317). -/
  corr : Int
  /-- receive timestamp (11 R314). -/
  rx : U32
  /-- its epoch bits (11 R314). -/
  rxEpoch : Nat
  deriving DecidableEq, Repr

/-- An Announce message (11 R320). -/
structure Announce where
  /-- port (11 R312). -/
  port : Nat
  /-- versionPTP (11 Table 11.8). -/
  version : Nat
  /-- domainNumber (11 R312). -/
  domain : Nat
  /-- identity of the clock that sends it (11 R312). -/
  source : U64
  /-- grandmaster identity (11 R312). -/
  gm : U64
  /-- priority1 (11 Table 11.8). -/
  prio1 : Nat
  /-- clockClass (11 Table 11.8). -/
  cls : Nat
  /-- clockAccuracy (11 Table 11.8). -/
  acc : Nat
  /-- offsetScaledLogVariance (11 Table 11.8). -/
  variance : Nat
  /-- priority2 (11 Table 11.8). -/
  prio2 : Nat
  /-- stepsRemoved (11 Table 11.8). -/
  steps : Nat
  /-- the profile uses peer delay (11 Table 11.8). -/
  p2p : Bool
  /-- Announce interval of the sender, ms (11 R312). -/
  intervalMs : Nat
  /-- currentUtcOffset (11 R320). -/
  utcOffset : Int
  /-- currentUtcOffsetValid (11 R320). -/
  utcValid : Bool
  /-- 1 leap61, 2 leap59 (11 R320). -/
  leap : Nat
  deriving DecidableEq, Repr

/-- A bid word from the partner (14 Table 14.2). -/
structure BidWordIn where
  /-- CRC8 and framing correct (14 R367). -/
  crcOk : Bool
  /-- CLAIM (14 Table 14.2). -/
  claim : U32
  /-- ROLE (14 Table 14.2). -/
  role : Nat
  /-- P3_OK (14 Table 14.2). -/
  p3Ok : Bool
  /-- SWAP_ACK (14 Table 14.2). -/
  swapAck : Bool
  /-- MAINS (14 Table 14.2). -/
  mains : Bool
  /-- CFG_MATCH (14 Table 14.2). -/
  cfgMatch : Bool
  /-- cycle of its STOP bit in the present tick (14 R367). -/
  cyc : Nat
  deriving DecidableEq, Repr

/-- A module-to-dealer word (14 Table 14.6). -/
structure DealerWordIn where
  /-- position B (BID_CLI), else A (DLR_RX) (14 Table 14.8). -/
  pos : Bool
  /-- CRC8 and framing correct (14 Table 14.6). -/
  crcOk : Bool
  /-- CLAIM (14 Table 14.6). -/
  claim : U32
  /-- ROLE (14 Table 14.6). -/
  role : Nat
  /-- OUT_OK (14 Table 14.6). -/
  outOk : Bool
  /-- HB_OK (14 Table 14.6). -/
  hbOk : Bool
  /-- REQ (14 Table 14.6). -/
  req : Bool
  /-- cycle of its STOP bit in the present tick (14 R379). -/
  cyc : Nat
  deriving DecidableEq, Repr

/-- A round-data frame (14 Table 14.10). -/
structure RoundData where
  /-- FLAGS.SWAP (14 Table 14.10). -/
  swap : Bool
  /-- FLAGS.FULL (14 Table 14.10). -/
  full : Bool
  /-- ROUND (14 Table 14.10). -/
  round : Nat
  /-- PART (14 Table 14.10). -/
  part : Nat
  /-- COUNT (14 Table 14.10). -/
  count : Nat
  /-- CLAIM (14 Table 14.10). -/
  claim : U32
  /-- the sections that end in this part (14 Table 14.11). -/
  sections : List Section
  deriving DecidableEq, Repr

/-- A finding of a scrub (15 Table 15.4). -/
structure ScrubHit where
  /-- bank, sector or block (15 Table 15.3). -/
  index : Nat
  /-- address (15 Table 15.4). -/
  addr : Nat
  /-- uncorrectable (15 Table 15.4). -/
  hard : Bool
  /-- object the word belongs to (01 R16). -/
  obj : U32
  /-- another copy is good (01 R16). -/
  copyOk : Bool
  deriving DecidableEq, Repr

/-- Request payload of command 0x0103 (06 Tables 6.5 to 6.17), in the order listed. -/
structure WarmResetCommandP where
  delay : U32
  deriving DecidableEq, Repr

/-- Request payload of command 0x0106 (06 Tables 6.5 to 6.17), in the order listed. -/
structure LifecycleAdvanceP where
  target : U8
  rsv : U8
  tlen : U16
  token : List Byte
  deriving DecidableEq, Repr

/-- Request payload of command 0x0107 (06 Tables 6.5 to 6.17), in the order listed. -/
structure RaiseCompatibilityLevelP where
  level : U16
  rsv : U16
  deriving DecidableEq, Repr

/-- Request payload of command 0x0110 (06 Tables 6.5 to 6.17), in the order listed. -/
structure SessionChallengeP where
  priv : U8
  rsv : BitVec 24
  deriving DecidableEq, Repr

/-- Request payload of command 0x0111 (06 Tables 6.5 to 6.17), in the order listed. -/
structure SessionProveP where
  clen : U16
  rsv : U16
  chain : List Byte
  sig : List Byte
  deriving DecidableEq, Repr

/-- Request payload of command 0x0112 (06 Tables 6.5 to 6.17), in the order listed. -/
structure SessionLowerP where
  priv : U8
  rsv : BitVec 24
  deriving DecidableEq, Repr

/-- Request payload of command 0x0201 (06 Tables 6.5 to 6.17), in the order listed. -/
structure FeederQuantitiesP where
  feeder : U8
  rsv : BitVec 24
  deriving DecidableEq, Repr

/-- Request payload of command 0x0202 (06 Tables 6.5 to 6.17), in the order listed. -/
structure EnergyRegistersP where
  set : U8
  rsv : BitVec 24
  deriving DecidableEq, Repr

/-- Request payload of command 0x0203 (06 Tables 6.5 to 6.17), in the order listed. -/
structure HarmonicsP where
  channel : U8
  first : U8
  count : U8
  rsv : U8
  deriving DecidableEq, Repr

/-- One entry of the list of command 0x0204. -/
structure CorrectionSegmentsE where
  brk : U32
  gain : BitVec 32
  phase : BitVec 32
  deriving DecidableEq, Repr

/-- Request payload of command 0x0204 (06 Tables 6.5 to 6.17), in the order listed. -/
structure CorrectionSegmentsP where
  channel : U8
  rsv : BitVec 24
  points : List CorrectionSegmentsE
  deriving DecidableEq, Repr

/-- Request payload of command 0x0206 (06 Tables 6.5 to 6.17), in the order listed. -/
structure AccumulationModeP where
  reg : U16
  mode : U8
  rsv : U8
  deriving DecidableEq, Repr

/-- Request payload of command 0x0208 (06 Tables 6.5 to 6.17), in the order listed. -/
structure PhasorStreamP where
  enable : U8
  ipv : U8
  port : U16
  addr : List Byte
  deriving DecidableEq, Repr

/-- One entry of the list of command 0x0209. -/
structure AssignSuitCodesE where
  node : U32
  code : U16
  rsv : U16
  deriving DecidableEq, Repr

/-- Request payload of command 0x0209 (06 Tables 6.5 to 6.17), in the order listed. -/
structure AssignSuitCodesP where
  feeder : U8
  rsv : U8
  n : U16
  items : List AssignSuitCodesE
  deriving DecidableEq, Repr

/-- Request payload of command 0x020A (06 Tables 6.5 to 6.17), in the order listed. -/
structure SuitEstimatesP where
  cursor : U64
  max : U16
  prsv : U16
  feeder : U8
  rsv : BitVec 24
  deriving DecidableEq, Repr

/-- Request payload of command 0x020B (06 Tables 6.5 to 6.17), in the order listed. -/
structure GapRecordsP where
  cursor : U64
  max : U16
  prsv : U16
  deriving DecidableEq, Repr

/-- Request payload of command 0x0301 (06 Tables 6.5 to 6.17), in the order listed. -/
structure ConfigureLoopP where
  loop : U32
  kind : U8
  output : U8
  opts : U16
  pvSrc : U16
  ffSrc : U16
  rampUp : U32
  rampDn : U32
  satMs : U32
  group : U16
  rsv : U16
  deriving DecidableEq, Repr

/-- Request payload of command 0x0302 (06 Tables 6.5 to 6.17), in the order listed. -/
structure RemoveLoopP where
  loop : U32
  deriving DecidableEq, Repr

/-- Request payload of command 0x0303 (06 Tables 6.5 to 6.17), in the order listed. -/
structure ShadowCoefficientsP where
  loop : U32
  kp : BitVec 32
  ki : BitVec 32
  kd : BitVec 32
  n1f : U16
  n1q : U16
  n2f : U16
  n2q : U16
  kff : BitVec 32
  outMin : BitVec 32
  outMax : BitVec 32
  deriving DecidableEq, Repr

/-- Request payload of command 0x0304 (06 Tables 6.5 to 6.17), in the order listed. -/
structure BankSwapP where
  group : U16
  rsv : U16
  deriving DecidableEq, Repr

/-- Request payload of command 0x0305 (06 Tables 6.5 to 6.17), in the order listed. -/
structure SetPointP where
  loop : U32
  sp : BitVec 32
  deriving DecidableEq, Repr

/-- Request payload of command 0x0306 (06 Tables 6.5 to 6.17), in the order listed. -/
structure LoopStateP where
  loop : U32
  deriving DecidableEq, Repr

/-- Request payload of command 0x0307 (06 Tables 6.5 to 6.17), in the order listed. -/
structure ConfigureTalonTraceP where
  cp : U8
  trace : U8
  src : U16
  loop : U32
  decim : U16
  trig : U8
  pre : U8
  level : BitVec 32
  deriving DecidableEq, Repr

/-- Request payload of command 0x0308 (06 Tables 6.5 to 6.17), in the order listed. -/
structure ArmTalonP where
  cp : U8
  mask : U8
  rsv : U16
  deriving DecidableEq, Repr

/-- Request payload of command 0x0309 (06 Tables 6.5 to 6.17), in the order listed. -/
structure ReadTalonP where
  cursor : U64
  max : U16
  prsv : U16
  cp : U8
  trace : U8
  rsv : U16
  deriving DecidableEq, Repr

/-- Request payload of command 0x0401 (06 Tables 6.5 to 6.17), in the order listed. -/
structure ConfigureOutputStageP where
  link : U8
  addr : U8
  feeder : U8
  mode : U8
  deriving DecidableEq, Repr

/-- Request payload of command 0x0402 (06 Tables 6.5 to 6.17), in the order listed. -/
structure StageStatusP where
  link : U8
  addr : U8
  rsv : U16
  deriving DecidableEq, Repr

/-- Request payload of command 0x0403 (06 Tables 6.5 to 6.17), in the order listed. -/
structure ContactorP where
  ct : U8
  on : U8
  rsv : U16
  deriving DecidableEq, Repr

/-- Request payload of command 0x0404 (06 Tables 6.5 to 6.17), in the order listed. -/
structure ConfigureStringP where
  ch : U8
  rsv : U8
  maxMa : U16
  vfMax : U16
  probe : U16
  deriving DecidableEq, Repr

/-- Request payload of command 0x0405 (06 Tables 6.5 to 6.17), in the order listed. -/
structure StringLevelP where
  ch : U8
  rsv : U8
  level : U16
  fade : U16
  rsv2 : U16
  deriving DecidableEq, Repr

/-- Request payload of command 0x0406 (06 Tables 6.5 to 6.17), in the order listed. -/
structure ConfigureChainPortP where
  port : U8
  enum : U8
  expect : U16
  deriving DecidableEq, Repr

/-- One entry of the list of command 0x0407. -/
structure ChainOutputsE where
  l0 : U16
  l1 : U16
  l2 : U16
  l3 : U16
  deriving DecidableEq, Repr

/-- Request payload of command 0x0407 (06 Tables 6.5 to 6.17), in the order listed. -/
structure ChainOutputsP where
  port : U8
  rsv : U8
  first : U16
  n : U16
  rsv2 : U16
  items : List ChainOutputsE
  deriving DecidableEq, Repr

/-- Request payload of command 0x0409 (06 Tables 6.5 to 6.17), in the order listed. -/
structure TestOutputP where
  target : U8
  rsv : U8
  index : U16
  value : U16
  hold : U16
  deriving DecidableEq, Repr

/-- Request payload of command 0x040A (06 Tables 6.5 to 6.17), in the order listed. -/
structure SafeLevelP where
  target : U8
  rsv : U8
  safe : U16
  index : U32
  deriving DecidableEq, Repr

/-- Request payload of command 0x0501 (06 Tables 6.5 to 6.17), in the order listed. -/
structure AddNodeP where
  node : U32
  eui : List Byte
  typ : U16
  feeder : U8
  port : U8
  cls : U8
  sleepy : U8
  rsv : U16
  deriving DecidableEq, Repr

/-- Request payload of command 0x0502 (06 Tables 6.5 to 6.17), in the order listed. -/
structure RemoveNodeP where
  node : U32
  deriving DecidableEq, Repr

/-- Request payload of command 0x0503 (06 Tables 6.5 to 6.17), in the order listed. -/
structure NodeStatusP where
  node : U32
  deriving DecidableEq, Repr

/-- Request payload of command 0x0504 (06 Tables 6.5 to 6.17), in the order listed. -/
structure AssociationsP where
  cursor : U64
  max : U16
  prsv : U16
  deriving DecidableEq, Repr

/-- Request payload of command 0x0505 (06 Tables 6.5 to 6.17), in the order listed. -/
structure ConfirmRegionalProfileP where
  profile : U16
  maxA : BitVec 8
  maxB : BitVec 8
  deriving DecidableEq, Repr

/-- Request payload of command 0x0506 (06 Tables 6.5 to 6.17), in the order listed. -/
structure DutyCycleAccountsP where
  port : U8
  rsv : BitVec 24
  deriving DecidableEq, Repr

/-- Request payload of command 0x0507 (06 Tables 6.5 to 6.17), in the order listed. -/
structure NodeLevelP where
  node : U32
  level : U16
  fade : U16
  atTick : U64
  deriving DecidableEq, Repr

/-- Request payload of command 0x0508 (06 Tables 6.5 to 6.17), in the order listed. -/
structure PeerSeatsP where
  seg1 : U32
  seg2 : U32
  addr1 : List Byte
  addr2 : List Byte
  deriving DecidableEq, Repr

/-- Request payload of command 0x0509 (06 Tables 6.5 to 6.17), in the order listed. -/
structure AdoptP where
  seg : U32
  action : U8
  rsv : BitVec 24
  deriving DecidableEq, Repr

/-- Request payload of command 0x0509 (06 Tables 6.5 to 6.17), in the order listed. -/
structure ReleaseAdoptedP where
  seg : U32
  action : U8
  rsv : BitVec 24
  deriving DecidableEq, Repr

/-- Request payload of command 0x0602 (06 Tables 6.5 to 6.17), in the order listed. -/
structure ConfigurePortP where
  port : U8
  speed : U8
  maxf : U16
  pflags : U32
  deriving DecidableEq, Repr

/-- Request payload of command 0x0603 (06 Tables 6.5 to 6.17), in the order listed. -/
structure ConfigureIeee1588P where
  clock : U8
  steps : U8
  domain : U8
  ports : U8
  rsv : U32
  deriving DecidableEq, Repr

/-- Request payload of command 0x0604 (06 Tables 6.5 to 6.17), in the order listed. -/
structure ConfigureTellP where
  tell : U8
  enable : U8
  check : U16
  mask : List Byte
  deriving DecidableEq, Repr

/-- Request payload of command 0x0605 (06 Tables 6.5 to 6.17), in the order listed. -/
structure TaiUtcOffsetP where
  offset : BitVec 16
  rsv : U16
  since : U64
  deriving DecidableEq, Repr

/-- Request payload of command 0x0606 (06 Tables 6.5 to 6.17), in the order listed. -/
structure SetRealTimeClockP where
  utc : U64
  deriving DecidableEq, Repr

/-- Request payload of command 0x0607 (06 Tables 6.5 to 6.17), in the order listed. -/
structure RealTimeClockAlarmP where
  alarm : U8
  enable : U8
  rsv : U16
  utc : U64
  deriving DecidableEq, Repr

/-- Request payload of command 0x0608 (06 Tables 6.5 to 6.17), in the order listed. -/
structure PortCountersP where
  port : U8
  clear : U8
  rsv : U16
  deriving DecidableEq, Repr

/-- One entry of the list of command 0x0701. -/
structure GroupMembersE where
  node : U32
  deriving DecidableEq, Repr

/-- Request payload of command 0x0701 (06 Tables 6.5 to 6.17), in the order listed. -/
structure GroupMembersP where
  group : U32
  mode : U8
  rsv : U8
  n : U16
  nodes : List GroupMembersE
  deriving DecidableEq, Repr

/-- Request payload of command 0x0702 (06 Tables 6.5 to 6.17), in the order listed. -/
structure DeleteGroupP where
  group : U32
  deriving DecidableEq, Repr

/-- Request payload of command 0x0703 (06 Tables 6.5 to 6.17), in the order listed. -/
structure DefineScheduleP where
  sched : U32
  rlen : U16
  rsv : U16
  rule : List Byte
  deriving DecidableEq, Repr

/-- Request payload of command 0x0704 (06 Tables 6.5 to 6.17), in the order listed. -/
structure DeleteScheduleP where
  sched : U32
  deriving DecidableEq, Repr

/-- Request payload of command 0x0705 (06 Tables 6.5 to 6.17), in the order listed. -/
structure ZoneRulesP where
  zlen : U8
  rsv : BitVec 24
  tz : List Byte
  deriving DecidableEq, Repr

/-- Request payload of command 0x0706 (06 Tables 6.5 to 6.17), in the order listed. -/
structure ConfigureLightWaveP where
  wave : U16
  rsv : U16
  wlen : U16
  rsv2 : U16
  rcd : List Byte
  deriving DecidableEq, Repr

/-- Request payload of command 0x0707 (06 Tables 6.5 to 6.17), in the order listed. -/
structure TrafficEventP where
  source : U32
  kind : U8
  rsv : U8
  speed : U16
  pos : BitVec 32
  atTick : U64
  deriving DecidableEq, Repr

/-- Request payload of command 0x0720 (06 Tables 6.5 to 6.17), in the order listed. -/
structure ClearGroupOverrideP where
  group : U16
  rsv : U16
  deriving DecidableEq, Repr

/-- Request payload of command 0x0721 (06 Tables 6.5 to 6.17), in the order listed. -/
structure GroupOverrideP where
  group : U16
  level : U16
  duration : U32
  fade : U16
  rsv : U16
  deriving DecidableEq, Repr

/-- Request payload of command 0x0722 (06 Tables 6.5 to 6.17), in the order listed. -/
structure GroupStateP where
  group : U16
  rsv : U16
  deriving DecidableEq, Repr

/-- Request payload of command 0x0803 (06 Tables 6.5 to 6.17), in the order listed. -/
structure ConfigurePairP where
  dealer : U8
  rsv : BitVec 24
  deriving DecidableEq, Repr

/-- Request payload of command 0x0901 (06 Tables 6.5 to 6.17), in the order listed. -/
structure SeatingReportP where
  cursor : U64
  max : U16
  prsv : U16
  deriving DecidableEq, Repr

/-- Request payload of command 0x0903 (06 Tables 6.5 to 6.17), in the order listed. -/
structure EventsP where
  cursor : U64
  max : U16
  prsv : U16
  deriving DecidableEq, Repr

/-- Request payload of command 0x0904 (06 Tables 6.5 to 6.17), in the order listed. -/
structure ScorecardP where
  cursor : U64
  max : U16
  prsv : U16
  deriving DecidableEq, Repr

/-- Request payload of command 0x0905 (06 Tables 6.5 to 6.17), in the order listed. -/
structure IntervalProfileP where
  cursor : U64
  max : U16
  prsv : U16
  obj : U32
  deriving DecidableEq, Repr

/-- Request payload of command 0x0906 (06 Tables 6.5 to 6.17), in the order listed. -/
structure ObjectSeatP where
  obj : U32
  deriving DecidableEq, Repr

/-- Request payload of command 0x0908 (06 Tables 6.5 to 6.17), in the order listed. -/
structure EraseSettingsP where
  confirm : U32
  deriving DecidableEq, Repr

/-- Request payload of command 0x0A02 (06 Tables 6.5 to 6.17), in the order listed. -/
structure LoadKeyPlaintextP where
  slot : U8
  typ : U8
  mask : U8
  usage : U8
  expiry : U64
  klen : U16
  rsv : U16
  key : List Byte
  deriving DecidableEq, Repr

/-- Request payload of command 0x0A03 (06 Tables 6.5 to 6.17), in the order listed. -/
structure StageKeyP where
  hand : U32
  wrapBy : U32
  wlen : U16
  rsv : U16
  wrapped : List Byte
  deriving DecidableEq, Repr

/-- Request payload of command 0x0A04 (06 Tables 6.5 to 6.17), in the order listed. -/
structure ConfirmKeyP where
  stage : U16
  rsv : U16
  proof : List Byte
  deriving DecidableEq, Repr

/-- Request payload of command 0x0A05 (06 Tables 6.5 to 6.17), in the order listed. -/
structure CommitKeyP where
  stage : U16
  rsv : U16
  deriving DecidableEq, Repr

/-- Request payload of command 0x0A06 (06 Tables 6.5 to 6.17), in the order listed. -/
structure DiscardStagedKeyP where
  stage : U16
  rsv : U16
  deriving DecidableEq, Repr

/-- Request payload of command 0x0A07 (06 Tables 6.5 to 6.17), in the order listed. -/
structure RevokeRootSlotP where
  slot : U8
  rsv : U8
  tlen : U16
  token : List Byte
  deriving DecidableEq, Repr

/-- Request payload of command 0x0A08 (06 Tables 6.5 to 6.17), in the order listed. -/
structure OwnershipTransferP where
  tlen : U16
  rsv : U16
  token : List Byte
  deriving DecidableEq, Repr

/-- Request payload of command 0x0A09 (06 Tables 6.5 to 6.17), in the order listed. -/
structure ClearTamperLatchP where
  sources : U16
  rsv : U16
  deriving DecidableEq, Repr

/-- Request payload of command 0x0A0B (06 Tables 6.5 to 6.17), in the order listed. -/
structure DebugUnlockP where
  scope : U32
  sig : List Byte
  deriving DecidableEq, Repr

/-- Request payload of command 0x0A0C (06 Tables 6.5 to 6.17), in the order listed. -/
structure ProveIdentityP where
  nonce : List Byte
  deriving DecidableEq, Repr

/-- Request payload of command 0x0B01 (06 Tables 6.5 to 6.17), in the order listed. -/
structure OpenUpdateSessionP where
  hash : List Byte
  size : U32
  rsv : U32
  deriving DecidableEq, Repr

/-- Request payload of command 0x0B02 (06 Tables 6.5 to 6.17), in the order listed. -/
structure ImageBlockP where
  session : U32
  offset : U32
  data : List Byte
  deriving DecidableEq, Repr

/-- Request payload of command 0x0B03 (06 Tables 6.5 to 6.17), in the order listed. -/
structure InstallP where
  session : U32
  window : U16
  rsv : U16
  deriving DecidableEq, Repr

/-- Request payload of command 0x0B04 (06 Tables 6.5 to 6.17), in the order listed. -/
structure AbortP where
  session : U32
  deriving DecidableEq, Repr

/-- Request payload of command 0x0B06 (06 Tables 6.5 to 6.17), in the order listed. -/
structure ReplaceLoaderP where
  session : U32
  deriving DecidableEq, Repr

/-- Request payload of command 0x0B07 (06 Tables 6.5 to 6.17), in the order listed. -/
structure RelayToPeerP where
  session : U32
  addr : List Byte
  deriving DecidableEq, Repr

end Sys2Proof
end

