-- ==== Sys2Proof/Syntax.lean ====
section
/-!
DEFINITION. The commands of the block: one constructor per row of spec/opcode_table.json, in its order.
A GMP command carries the header as read (`Req`) and its payload; an event carries what its rules read from outside.
-/

namespace Sys2Proof

/-- The commands the block takes, one per row of the table. -/
inductive Instr where
  /-- R144: Command 0x0101 returns the identity data of Table 6.6. -/
  | getIdentity (r : Req)
  /-- R144: Command 0x0102 returns the status data of Table 6.7. -/
  | getStatus (r : Req)
  /-- R143: Command 0x0103 answers and then schedules a warm reset at the round boundary after DELAY further rounds. -/
  | warmResetCommand (r : Req) (p : WarmResetCommandP)
  /-- R28: Command 0x0104 ends COMMISSIONING and enters DECLARER or DUMMY after arbitration, storing nominal frequency and the segment number. -/
  | commissioningComplete (r : Req)
  /-- R28: Command 0x0105 moves a declarer back to COMMISSIONING. -/
  | recommission (r : Req)
  /-- R142: Command 0x0106 advances the fused lifecycle one step after checking the target, privilege, transport and token. -/
  | lifecycleAdvance (r : Req) (p : LifecycleAdvanceP)
  /-- R476: Command 0x0107 raises the compatibility level as a fuse-counted change. -/
  | raiseCompatibilityLevel (r : Req) (p : RaiseCompatibilityLevelP)
  /-- R123: Command 0x0110 returns a fresh challenge for raising a session's privilege. -/
  | sessionChallenge (r : Req) (p : SessionChallengeP)
  /-- R144: Command 0x0111 verifies the credential chain and the signature over the challenge, and grants the capped privilege. -/
  | sessionProve (r : Req) (p : SessionProveP)
  /-- R144: Command 0x0112 lowers the session's privilege at once. -/
  | sessionLower (r : Req) (p : SessionLowerP)
  /-- R144: Command 0x0113 ends the session after its response is placed. -/
  | channelClose (r : Req)
  /-- R144: A session challenge becomes invalid 10 s after it was issued. -/
  | challengeExpiry (ch : BitVec 3)
  /-- R164: Command 0x0201 returns the latest complete 200 ms window of a feeder. -/
  | feederQuantities (r : Req) (p : FeederQuantitiesP)
  /-- R170: Command 0x0202 returns the accumulators and display values of an energy set. -/
  | energyRegisters (r : Req) (p : EnergyRegistersP)
  /-- R162: Command 0x0203 returns harmonic magnitudes and phases of a channel. -/
  | harmonics (r : Req) (p : HarmonicsP)
  /-- R156: Command 0x0204 sets the eight correction points of a channel while the metrology seal is open. -/
  | correctionSegments (r : Req) (p : CorrectionSegmentsP)
  /-- R145: Command 0x0205 opens the metrology seal and consumes one count in DEPLOYED. -/
  | metrologyUnseal (r : Req)
  /-- R169: Command 0x0206 sets a register to signed or absolute mode in all ten energy sets. -/
  | accumulationMode (r : Req) (p : AccumulationModeP)
  /-- R145: Command 0x0207 closes the metrology seal. -/
  | metrologyReseal (r : Req)
  /-- R145: The metrology seal closes 3,600 s after it opened. -/
  | sealTimeout
  /-- R173: Command 0x0208 enables or disables the phasor stream to an address. -/
  | phasorStream (r : Req) (p : PhasorStreamP)
  /-- R176: Command 0x0209 assigns, allocates or removes the suit codes of lanterns on a feeder. -/
  | assignSuitCodes (r : Req) (p : AssignSuitCodesP)
  /-- R181: Command 0x020A returns paged per-lantern suit estimates. -/
  | suitEstimates (r : Req) (p : SuitEstimatesP)
  /-- R78: Command 0x020B returns paged gap records keyed by gap number. -/
  | gapRecords (r : Req) (p : GapRecordsP)
  /-- R189: Command 0x0301 creates or replaces a loop instance, admitted against the deal. -/
  | configureLoop (r : Req) (p : ConfigureLoopP)
  /-- R91: Command 0x0302 removes a loop instance at the round boundary. -/
  | removeLoop (r : Req) (p : RemoveLoopP)
  /-- R190: Command 0x0303 writes every field of a loop's shadow coefficient bank. -/
  | shadowCoefficients (r : Req) (p : ShadowCoefficientsP)
  /-- R204: Command 0x0304 requests the exchange of active and shadow banks for a group at the next tick boundary. -/
  | bankSwap (r : Req) (p : BankSwapP)
  /-- R204: At the tick after the read of 0x0304 the banks are exchanged and the integrators are set so that no output steps. -/
  | bankSwapTakeForce
  /-- R200: Command 0x0305 sets a loop's set-point from the next control window. -/
  | setPoint (r : Req) (p : SetPointP)
  /-- R206: Command 0x0306 returns the state of a loop from the last control window. -/
  | loopState (r : Req) (p : LoopStateP)
  /-- R210: Command 0x0307 configures a talon trace's signal, decimation and trigger. -/
  | configureTalonTrace (r : Req) (p : ConfigureTalonTraceP)
  /-- R211: Command 0x0308 arms the selected traces from the next tick. -/
  | armTalon (r : Req) (p : ArmTalonP)
  /-- R212: Command 0x0309 returns the paged samples of a stopped trace. -/
  | readTalon (r : Req) (p : ReadTalonP)
  /-- R225: Command 0x0401 configures an output stage, a link's termination, or an analogue input mode. -/
  | configureOutputStage (r : Req) (p : ConfigureOutputStageP)
  /-- R226: Command 0x0402 returns the status of a configured output stage. -/
  | stageStatus (r : Req) (p : StageStatusP)
  /-- R228: Command 0x0403 energises or de-energises a contactor output, subject to dwell and the claim gate. -/
  | contactor (r : Req) (p : ContactorP)
  /-- R233: Command 0x0404 configures an LED string channel. -/
  | configureString (r : Req) (p : ConfigureStringP)
  /-- R235: Command 0x0405 sets a string's commanded level with a fade. -/
  | stringLevel (r : Req) (p : StringLevelP)
  /-- R248: Command 0x0406 sets a Sifichain port's expected device count, optionally enumerating. -/
  | configureChainPort (r : Req) (p : ConfigureChainPortP)
  /-- R248: Command 0x0407 writes host levels for a range of chain positions. -/
  | chainOutputs (r : Req) (p : ChainOutputsP)
  /-- R231: Command 0x0408 returns the digital and analogue input values. -/
  | inputs (r : Req)
  /-- R147: Command 0x0409 drives a test value on a stage, string, chain device, node or contactor in COMMISSIONING. -/
  | testOutput (r : Req) (p : TestOutputP)
  /-- R147: A test output returns to its safe level when HOLD expires. -/
  | testHoldExpiry (target : Nat) (index : Nat)
  /-- R147: Command 0x040A sets the stored safe level of a stage, string, chain device or lantern node. -/
  | safeLevel (r : Req) (p : SafeLevelP)
  /-- R224: No valid report shows the new SAFE within 32 ticks, so the store sequence is rerun or ends BUSY. -/
  | stageStoreTimeout (link : Nat) (addr : Nat)
  /-- R279: Command 0x0501 creates a lantern or sensor node record. -/
  | addNode (r : Req) (p : AddNodeP)
  /-- R281: Command 0x0502 removes a node, sending LEAVE if it is connected. -/
  | removeNode (r : Req) (p : RemoveNodeP)
  /-- R281: Command 0x0503 returns a node's state, port, depth, parent and level. -/
  | nodeStatus (r : Req) (p : NodeStatusP)
  /-- R281: Command 0x0504 returns the paged list of associations. -/
  | associations (r : Req) (p : AssociationsP)
  /-- R255: Command 0x0505 confirms the regional profile and the maximum conducted outputs. -/
  | confirmRegionalProfile (r : Req) (p : ConfirmRegionalProfileP)
  /-- R257: Command 0x0506 returns the duty-cycle limit and use of each sub-band. -/
  | dutyCycleAccounts (r : Req) (p : DutyCycleAccountsP)
  /-- R345: Command 0x0507 gives a lantern a momentary node level. -/
  | nodeLevel (r : Req) (p : NodeLevelP)
  /-- R288: Command 0x0508 names the two peer-seat segments and opens peer sessions to them. -/
  | peerSeats (r : Req) (p : PeerSeatsP)
  /-- R291: Command 0x0509 with ACTION 1 adopts the nodes of a neighbour segment from its replica. -/
  | adopt (r : Req) (p : AdoptP)
  /-- R293: Command 0x0509 with ACTION 0 sends LEAVE to the adopted nodes of a segment and removes their records. -/
  | releaseAdopted (r : Req) (p : ReleaseAdoptedP)
  /-- R319: Command 0x0601 returns lock state, offset, rate and holdover time. -/
  | timeStatus (r : Req)
  /-- R303: Command 0x0602 sets an Ethernet port's speed, frame limit and flags. -/
  | configurePort (r : Req) (p : ConfigurePortP)
  /-- R312: Command 0x0603 selects the IEEE 1588 clock type, step mode, domain and ports. -/
  | configureIeee1588 (r : Req) (p : ConfigureIeee1588P)
  /-- R310: Command 0x0604 sets a tell's mask, check value and enable. -/
  | configureTell (r : Req) (p : ConfigureTellP)
  /-- R320: Command 0x0605 sets the commanded TAI-UTC offset from a given time. -/
  | taiUtcOffset (r : Req) (p : TaiUtcOffsetP)
  /-- R332: Command 0x0606 sets the real-time clock, and steps network time, at a round boundary when not locked. -/
  | setRealTimeClock (r : Req) (p : SetRealTimeClockP)
  /-- R335: Command 0x0607 sets an RTC alarm to off, once or daily. -/
  | realTimeClockAlarm (r : Req) (p : RealTimeClockAlarmP)
  /-- R304: Command 0x0608 returns, and optionally clears, a port's 16 counters. -/
  | portCounters (r : Req) (p : PortCountersP)
  /-- R338: Command 0x0701 creates a group or replaces, adds or removes its members. -/
  | groupMembers (r : Req) (p : GroupMembersP)
  /-- R337: Command 0x0702 deletes a group and every schedule that names it. -/
  | deleteGroup (r : Req) (p : DeleteGroupP)
  /-- R348: Command 0x0703 defines a schedule from its header, date entries and steps. -/
  | defineSchedule (r : Req) (p : DefineScheduleP)
  /-- R348: Command 0x0704 deletes a schedule. -/
  | deleteSchedule (r : Req) (p : DeleteScheduleP)
  /-- R354: Command 0x0705 sets the POSIX TZ rule that maps UTC to civil time. -/
  | zoneRules (r : Req) (p : ZoneRulesP)
  /-- R360: Command 0x0706 defines or deletes a light wave. -/
  | configureLightWave (r : Req) (p : ConfigureLightWaveP)
  /-- R359: Command 0x0707 injects a traffic event that plans wave terms. -/
  | trafficEvent (r : Req) (p : TrafficEventP)
  /-- R346: Command 0x0720 ends a group override at the earliest allowed round. -/
  | clearGroupOverride (r : Req) (p : ClearGroupOverrideP)
  /-- R346: Command 0x0721 sets a group override with level, fade and duration. -/
  | groupOverride (r : Req) (p : GroupOverrideP)
  /-- R347: Command 0x0722 returns a group's level, source and next change. -/
  | groupState (r : Req) (p : GroupStateP)
  /-- R346: A group override's counted rounds run out and the group returns to its lower tiers. -/
  | overrideExpiry (group : Nat)
  /-- R388: Command 0x0801 returns role, partner state, links, claims and last takeover. -/
  | pairStatus (r : Req)
  /-- R149: Command 0x0802 starts a planned role swap. -/
  | plannedRoleSwap (r : Req)
  /-- R47: Command 0x0803 configures the dealer of a strapped pair. -/
  | configurePair (r : Req) (p : ConfigurePairP)
  /-- R90: Command 0x0901 returns each engine's admitted and measured cycle counts. -/
  | seatingReport (r : Req) (p : SeatingReportP)
  /-- R398: Command 0x0902 returns in-service, spare and retired counts of each kitty kind. -/
  | kittyTelemetry (r : Req)
  /-- R416: Command 0x0903 returns paged event records from NAND and the ring. -/
  | events (r : Req) (p : EventsP)
  /-- R417: Command 0x0904 returns paged scorecard entries. -/
  | scorecard (r : Req) (p : ScorecardP)
  /-- R407: Command 0x0905 returns paged records of an interval profile. -/
  | intervalProfile (r : Req) (p : IntervalProfileP)
  /-- R393: Command 0x0906 returns an object's tier and serving engine. -/
  | objectSeat (r : Req) (p : ObjectSeatP)
  /-- R413: Command 0x0907 starts an event-ring flush at the next tick boundary. -/
  | flushEventRing (r : Req)
  /-- R419: Command 0x0908 erases configuration and commissioning records. -/
  | eraseSettings (r : Req) (p : EraseSettingsP)
  /-- R433: Command 0x0A01 returns lifecycle, roots, rollback, debug, remaining counts, tamper and occupied slots. -/
  | securityStatus (r : Req)
  /-- R442: Command 0x0A02 loads a plaintext key and seals it in PROVISIONING. -/
  | loadKeyPlaintext (r : Req) (p : LoadKeyPlaintextP)
  /-- R443: Command 0x0A03 unwraps a key into a stage and returns a nonce. -/
  | stageKey (r : Req) (p : StageKeyP)
  /-- R443: Command 0x0A04 confirms a staged key by its HMAC proof. -/
  | confirmKey (r : Req) (p : ConfirmKeyP)
  /-- R444: Command 0x0A05 commits a confirmed stage by the two-phase key commit. -/
  | commitKey (r : Req) (p : CommitKeyP)
  /-- R150: Command 0x0A06 discards an open key stage. -/
  | discardStagedKey (r : Req) (p : DiscardStagedKeyP)
  /-- R150: An uncommitted key stage expires 600 s after it was opened. -/
  | keyStageExpiry (stage : U16)
  /-- R430: Command 0x0A07 revokes a root slot by token. -/
  | revokeRootSlot (r : Req) (p : RevokeRootSlotP)
  /-- R431: Command 0x0A08 replaces the owner record by token as a fuse-counted change. -/
  | ownershipTransfer (r : Req) (p : OwnershipTransferP)
  /-- R449: Command 0x0A09 clears the named latched tamper sources that are no longer active. -/
  | clearTamperLatch (r : Req) (p : ClearTamperLatchP)
  /-- R450: Command 0x0A0A returns a debug challenge valid once for 60 s. -/
  | debugChallenge (r : Req)
  /-- R451: Command 0x0A0B opens debug by signed challenge after zeroising keys and entering QUARANTINE. -/
  | debugUnlock (r : Req) (p : DebugUnlockP)
  /-- R440: Command 0x0A0C signs the identity content with the device key. -/
  | proveIdentity (r : Req) (p : ProveIdentityP)
  /-- R151: Command 0x0B01 opens or joins the single update session. -/
  | openUpdateSession (r : Req) (p : OpenUpdateSessionP)
  /-- R454: Command 0x0B02 writes a block of the image into the update buffers. -/
  | imageBlock (r : Req) (p : ImageBlockP)
  /-- R457: Command 0x0B03 starts verification, staging and copying of a received image. -/
  | install (r : Req) (p : InstallP)
  /-- R455: Command 0x0B04 ends the update session for all members. -/
  | abort (r : Req) (p : AbortP)
  /-- R469: Command 0x0B05 returns the update phase, result and versions. -/
  | updateStatus (r : Req)
  /-- R472: Command 0x0B06 installs a resident loader copy as a fuse-counted change. -/
  | replaceLoader (r : Req) (p : ReplaceLoaderP)
  /-- R456: Command 0x0B07 relays a complete image to a peer seat. -/
  | relayToPeer (r : Req) (p : RelayToPeerP)
  /-- R151: An update session with no block for 600 s is dropped. -/
  | updateSessionDrop
  /-- R457: A phase of an install (verification, staging, copying) completes and the next begins. -/
  | updatePhaseComplete (readOk : Bool)
  /-- R459: At a round boundary with copying done and the image-write ante passed, the module leaves service for UPDATE. -/
  | leaveService (vhuMv : Nat)
  /-- R467: The new image confirms itself after 240 qualifying rounds and raises ROLLBACK. -/
  | updateConfirm
  /-- R467: WINDOW_LEFT reaches 0 before confirmation and a fall-back starts. -/
  | windowExpiry
  /-- R99: A write of 1 to HIF_CHn_CTRL.CLAIM takes a free channel for PCI Express or Quad-SPI. -/
  | channelClaim (bus : Bus) (ch : BitVec 3)
  /-- R122: A write of 0 to HIF_CHn_CTRL.CLAIM releases the channel and ends its session. -/
  | channelRelease (bus : Bus) (ch : BitVec 3)
  /-- R104: A write to HIF_CHn_REQ_PI advances the request producer index or is refused with OVERRUN. -/
  | doorbell (bus : Bus) (ch : BitVec 3) (v : U32)
  /-- R104: A write to HIF_CHn_RSP_CI frees response slots or is refused with OVERRUN. -/
  | responseConsumed (bus : Bus) (ch : BitVec 3) (v : U32)
  /-- R107: A W1C write to HIF_IRQ_STATUS clears interrupt flags. -/
  | irqStatusClear (v : U32)
  /-- R102: A W1C write to HIF_CHn_STATUS clears RESYNC, OVERRUN or FOREIGN. -/
  | channelStatusClear (bus : Bus) (ch : BitVec 3) (v : U32)
  /-- R102: A read of HIF_TICK_LO returns the low tick bits and latches HIF_TICK_HI. -/
  | tickLoRead
  /-- R7: A write to a register without behaviour of its own stores or ignores the value per its access code. -/
  | registerWrite (a : BusAccess)
  /-- R108: A Quad-SPI transaction framed by QS_CS_N reads or writes the register map and window. -/
  | qspiTransaction (q : QspiTx)
  /-- R102: PERST_N resets the PCI Express endpoint and releases its channels. -/
  | perstN
  /-- R106: SUP polls every channel's doorbell and reads at most one request from each. -/
  | doorbellPoll
  /-- R116: An asynchronous operation finishes and its single completion notice is placed. -/
  | completionNotice (ch : BitVec 3) (session : U16) (txn : U32)
  /-- R117: Waiting completion notices are placed once four response slots are free. -/
  | noticeWaitRelease (ch : BitVec 3)
  /-- R121: A duplicate-cache entry expires 60 s after its response was placed. -/
  | cacheEntryExpiry (ch : BitVec 3) (txn : U32)
  /-- R127: Handshake step 1 arrives and the module answers with step 2. -/
  | remoteHandshakeRequest (h : HsReq)
  /-- R127: Handshake step 3 arrives and the remote session opens on a channel. -/
  | remoteHandshakeProof (h : HsProof)
  /-- R127: A handshake not completed within 2 s is dropped and recorded. -/
  | handshakeTimeout (sid : U32)
  /-- R128: An authenticated remote datagram is checked for replay and its GMP message placed in the ring. -/
  | remoteDatagram (d : Datagram)
  /-- R129: A remote session ends after 900 s without an authenticated datagram. -/
  | remoteSessionTimeout (sid : U32)
  /-- R129: A remote session ends when its credential expires. -/
  | credentialExpiry (sid : U32)
  /-- R126: An IP fragment of a GMP or peer datagram is reassembled. -/
  | ipFragment (f : IpFrag)
  /-- R126: An IP reassembly is dropped after 2 s. -/
  | reassemblyTimeout (key : U32)
  /-- R99: A service-port connection takes the highest free channel from 2 to 7. -/
  | servicePortConnect
  /-- R122: A service-port connection ends and releases its channel. -/
  | servicePortDisconnect (ch : BitVec 3)
  /-- R62: VIN rises above 18.5 V and the module runs the boot sequence. -/
  | powerOn (e : BootEnv)
  /-- R62: BOOT ends at the first round boundary at least 200 ms after the AFE starts, in the state chosen by the boot checks. -/
  | bootEnd
  /-- R46: RESET_N held low for 8 samples puts the module in warm reset. -/
  | resetN (samples : Nat)
  /-- R62: The release of reset starts BOOT. -/
  | resetRelease (e : BootEnv)
  /-- R73: VIN falls below 18.0 V and the module rides through on hold-up and writes the final checkpoint. -/
  | powerFailWarning (vinMv : Nat)
  /-- R74: VIN returns above 18.5 V before V_stop and service continues. -/
  | warningClear (vinMv : Nat)
  /-- R74: The stack reaches V_stop and the module stops outputs, writes the closing set and halts. -/
  | stopThreshold (vhuMv : Nat)
  /-- R67: MAINS_OK reads low for 5 s and the module enters BATTERY_STANDBY. -/
  | mainsLoss
  /-- R68: MAINS_OK reads high for 2 s in BATTERY_STANDBY and the module wakes into BOOT. -/
  | mainsReturn (ok : Bool)
  /-- R68: A break of MAINS_OK shorter than the debounce restarts the count and may record an event. -/
  | mainsBreak (ms : Nat)
  /-- R66: A module in FAIL_LIT after a fatal fault restarts by warm reset, subject to the limit of three per hour. -/
  | automaticRestart
  /-- R60: SUP misses building or confirming the deal at two consecutive round boundaries and the module warm-resets. -/
  | roundWatchdog
  /-- R13: A lockstep comparator detects a miscompare in SUP or a slice pair and the module responds per Table 1.2. -/
  | lockstepMiscompare (engine : Nat)
  /-- R16: An uncorrectable ECC error faults the object and it is recovered from another copy or lost. -/
  | uncorrectableEcc (e : EccErr)
  /-- R25: An engine without a spare is lost and the module enters FAIL_LIT or fails silent. -/
  | engineLost (engine : Nat)
  /-- R89: A foreground item reaches its admitted worst case and is stopped, its result discarded. -/
  | itemStopped (engine : Nat) (item : Nat)
  /-- R44: VHU stays below 1.0 V after 10 s of charging and charging stops with an event. -/
  | stackChargeTimeout (vhuMv : Nat)
  /-- R44: Charging of an absent or shorted stack is retried once a minute. -/
  | stackChargeRetry (vhuMv : Nat)
  /-- R69: A charge passing from 10.0 V to 12.0 V yields a capacitance measurement. -/
  | stackChargeMeasure (ticks : Nat)
  /-- R69: Once per TAI day the module measures the stack's capacitance and ESR by a 0.5 A load. -/
  | stackTest (m : StackMeas)
  /-- R72: A store deferred for more than 60 s raises an alarm. -/
  | anteAlarm
  /-- R136: An ante-gated store completes, letting the command's notice be placed. -/
  | storeComplete (kind : StoreKind)
  /-- R434: At the first tick boundary after the response, a fuse-counted change takes its ante and runs its five steps. -/
  | fuseCountedChange (vhuMv : Nat)
  /-- R82: A tick of 25,000 TCLK begins and its fixed points are scheduled. -/
  | tickBoundary (e : TickEnv)
  /-- R154: The AFE strobe takes a sample on every channel and metering processes it. -/
  | sampleInstant (x : Sample)
  /-- R159: A zero-crossing detector reaches its timeout and enters NO_ZC. -/
  | zcTimeout (ch : Nat)
  /-- R163: At cycle 1,824 the control input buffer is published and the control window starts. -/
  | controlInputPublish
  /-- R94: At cycle 14,000 loop outputs are released to links, caps, sinks and contactors. -/
  | outputRelease
  /-- R218: A command frame is sent in a slot to a configured stage on an actuator link. -/
  | actuatorSlot (link : Nat) (slot : Nat)
  /-- R216: A stage's status reply is received and its nibble and flags are taken. -/
  | statusReply (link : Nat) (slot : Nat) (f : StagePart)
  /-- R197: An output with every loop excluded for 16,000 ticks moves toward its safe level. -/
  | safeReleaseTimer (output : Nat)
  /-- R203: A loop's saturation timer reaches SAT_MS and the module reports or releases to safe level. -/
  | satExpiry (loop : Nat)
  /-- R230: A contactor's 10 s dwell ends and a pending commanded state takes force. -/
  | contactorDwellEnd (ct : Nat)
  /-- R230: A contactor driver trips on short circuit and is retried once per round. -/
  | contactorTrip (ct : Nat)
  /-- R234: A sink PWM period starts with the new duty, derating and open detection. -/
  | pwmPeriod (e : PwmEnv)
  /-- R242: A string at low duty gets an 8 µs probe pulse each PROBE interval. -/
  | probePulse (ch : Nat) (ma : Nat) (sinkMv : Nat)
  /-- R243: Every 3,600 rounds adjacent sink pins are tested for shorts. -/
  | adjShortTest (shorts : List Nat)
  /-- R240: ASC_FLT_N held low for 1 ms raises an event and flags every string. -/
  | supplyFault (low : Bool)
  /-- R247: Every 160 ticks a Sifichain frame with a tail block starts on each configured port. -/
  | sifichainFrame
  /-- R247: 600 µs after a frame ends the returned blocks are checked for open, missing or fault. -/
  | chainReturnCheck (port : Nat) (r : ChainRet)
  /-- R251: Every 80 ticks the module starts reads of both sensors on each light-sensor bus. -/
  | lightSensorRead
  /-- R251: A sensor read completes or fails, setting its source value or invalid. -/
  | lightSensorResult (sensor : Nat) (vals : Option (List Int))
  /-- R162: A 200 ms window ends and totals, fundamentals, harmonics, flags and window registers are computed. -/
  | aggregationWindow
  /-- R158: A 22.5 s hot-calibration slot runs for the next channel with a spare converter. -/
  | calibrationSlot (m : CalMeas)
  /-- R173: At a phasor reference instant the declarer sends a phasor datagram. -/
  | phasorReport
  /-- R180: At the end of a code period the suit estimator fits slopes and sets flags. -/
  | suitPeriodEnd
  /-- R76: At ticks 500 modulo 1,000 HKP writes an alive mark to MRAM. -/
  | aliveMark
  /-- R15: The regular energy checkpoint is snapshotted in tick 7,999 and written over the older copy. -/
  | checkpoint
  /-- R92: A round boundary applies substitutions, configuration changes, re-seating and the new deal. -/
  | roundBoundary (e : TickEnv)
  /-- R84: A requested time step is applied at a round boundary by a stretch tick and the epoch is raised. -/
  | stretchTick (e : TickEnv)
  /-- R344: Lantern level changes are handed to the radio sequencers with their AT round. -/
  | lanternCommandHandover
  /-- R350: A schedule step takes force at the round boundary of its instant, including edge actions. -/
  | scheduleStep
  /-- R406: An interval ends at an aligned or step boundary and its profile record is written. -/
  | intervalClose
  /-- R269: At a connection's anchor the parent starts the exchange with its child. -/
  | connectionEvent (node : U32)
  /-- R271: A frame with ACK_REQ not acknowledged is retried or dropped after its limit. -/
  | ackTimeout (node : U32)
  /-- R266: A Lernas frame is received, checked for form, MIC and replay, and delivered or dropped. -/
  | lernasFrameReceive (f : LernasFrame)
  /-- R274: A connection's supervision timer reaches TIMEOUT and the node is marked LOST. -/
  | supervisionTimeout (node : U32)
  /-- R276: The module sends a rendezvous beacon on each port's rendezvous channel. -/
  | beacon (port : Nat)
  /-- R277: In BATTERY_STANDBY RF-A sends a STANDBY beacon once every 16 rounds. -/
  | standbyBeacon
  /-- R262: A Lernas reassembly is discarded 30 s after its first fragment. -/
  | fragmentTimeout (src : Nat) (tag : U16)
  /-- R278: A JOIN_REQ reaches the module, which admits the node with JOIN_RSP or answers JOIN_WAIT. -/
  | joinReq (j : JoinReq)
  /-- R284: A LEVEL_ACK reports the level a lantern applied and the round. -/
  | levelAck (node : U32) (level : Nat) (round : Nat)
  /-- R284: A SAFE_ACK confirms a stored lantern safe level and the notice is placed. -/
  | safeAck (node : U32) (safe : Nat)
  /-- R286: A node STATUS message reports level, flags, temperature and neighbour beacons. -/
  | status (m : NodeStatus)
  /-- R359: A PRESENCE message becomes a traffic event that plans wave terms. -/
  | presence (m : Presence)
  /-- R295: Radio associations and neighbour counters are committed to NAND at least every 60 rounds. -/
  | associationCommit
  /-- R288: The module sends a replica of its records to its peer seats after a change or every 3,600 s. -/
  | replicaSend (seg : U32)
  /-- R289: A REPLICA part arrives and is acknowledged and kept once complete. -/
  | replica (m : ReplicaPart)
  /-- R289: A REPLICA_ACK confirms a replica part. -/
  | replicaAck (seg : U32) (version : U32) (part : Nat)
  /-- R289: A REPLICA_REQUEST from a commissioning module is answered with the newest matching replica. -/
  | replicaRequest (sess : U32) (seg : U32) (owner : List Byte)
  /-- R289: A peer KEEPALIVE arrives. -/
  | keepalive (seg : U32)
  /-- R289: A peer side sends KEEPALIVE after 60 s without sending. -/
  | keepaliveSend (seg : U32)
  /-- R289: A RELAY peer message carries an update command or response. -/
  | relay (seg : U32) (msg : List Byte)
  /-- R289: A replica part not acknowledged within 5 s is resent. -/
  | replicaPartResend (seg : U32)
  /-- R288: A peer session with no datagram for 300 s becomes silent. -/
  | peerSilent (seg : U32)
  /-- R300: An Ethernet frame is received, timestamped and classed as express, management or data. -/
  | frameReceive (f : EthFrame)
  /-- R298: A bridge address entry ages out after 300 s. -/
  | bridgeAgeing (mac : List Byte)
  /-- R307: A PAUSE frame sets or reloads a port's pause timer. -/
  | pause (f : PauseFrame)
  /-- R307: A port's pause timer expires and transmission resumes. -/
  | pauseExpiry (port : Nat) (cyc : Nat)
  /-- R308: A port's pause watchdog reaches PWD and ends the pause. -/
  | pauseWatchdog (port : Nat) (cyc : Nat)
  /-- R305: The IEEE 802.3br verify procedure runs and enables preemption on success. -/
  | preemptVerify (port : Nat) (answered : Bool)
  /-- R315: A transmit timestamp not read within 1.0 s is discarded. -/
  | tsExpiry (port : Nat)
  /-- R303: A change of SFP_MOD_ABS, SFP_LOS or SFP_TX_FAULT records an event and drives SFP_TX_DIS. -/
  | sfpSignalChange (modAbs : Bool) (los : Bool) (txFault : Bool)
  /-- R310: In BATTERY_STANDBY a received frame matching an enabled tell wakes the module. -/
  | tellMatch (port : Nat) (frame : List Byte)
  /-- R317: A Sync message yields an offset that is accepted or discarded. -/
  | ptpSync (m : PtpMsg)
  /-- R317: A Follow_Up completes a two-step Sync offset. -/
  | ptpFollowUp (m : PtpMsg)
  /-- R312: A Delay_Req is answered as a boundary-clock master. -/
  | ptpDelayReq (m : PtpMsg)
  /-- R317: A Delay_Resp yields a path-delay measurement. -/
  | ptpDelayResp (m : PtpMsg)
  /-- R312: A Pdelay_Req is answered with Pdelay_Resp. -/
  | ptpPdelayReq (m : PtpMsg)
  /-- R317: A Pdelay_Resp yields a peer-delay measurement. -/
  | ptpPdelayResp (m : PtpMsg)
  /-- R317: A Pdelay_Resp_Follow_Up completes a two-step peer-delay measurement. -/
  | ptpPdelayRespFollowUp (m : PtpMsg)
  /-- R320: An Announce feeds the best master clock algorithm and the TAI-UTC offset. -/
  | ptpAnnounce (m : Announce)
  /-- R312: announceReceiptTimeout expires and the master is reselected. -/
  | announceTimeout (port : Nat)
  /-- R312: As a boundary-clock master the module sends Announce and Sync at their intervals. -/
  | ptpMasterSend (port : Nat)
  /-- R319: After 4 s without an accepted offset LOCK becomes holdover. -/
  | holdoverEntry
  /-- R326: The RTC prescaler wraps, fields roll over, alarms are compared and shadows reload. -/
  | rtcSecond
  /-- R336: An enabled alarm matches the clock and wakes the module from BATTERY_STANDBY. -/
  | rtcAlarmMatch
  /-- R322: The RTC crystal gives no edge for 1 ms and OSC_STOP and INVALID set. -/
  | oscStop
  /-- R322: The RTC domain supply falls below 1.7 V or 1.5 V and VLOW or INVALID sets. -/
  | rtcSupplyLow (mv : Nat)
  /-- R329: A read of an RTC time field freezes and returns the shadows. -/
  | rtcShadowRead (offset : U8)
  /-- R329: A read of YEAR returns the shadow value and releases the shadows. -/
  | rtcYearRead
  /-- R330: A write of SEC sets the second, zeroes the prescaler and restarts the calibration cycle. -/
  | rtcSecWrite (v : U32)
  /-- R330: A write to another RTC field takes effect at the next crystal edge. -/
  | rtcFieldWrite (offset : U8) (v : U32)
  /-- R325: A W1C write to the RTC STATUS clears VLOW, OSC_STOP or an alarm hit. -/
  | rtcStatusClear (v : U32)
  /-- R333: Every 3,600 locked rounds the RTC is compared with network time and CAL adjusted. -/
  | rtcCompare
  /-- R331: The module writes a full time into the RTC at a round boundary. -/
  | rtcRewrite
  /-- R334: A leap second reaches the civil offset and the RTC at its instant. -/
  | leapSecond
  /-- R324: Once per TAI day VBAK is measured and an event or alarm raised if low. -/
  | vbakCheck (mv : Nat)
  /-- R366: BID_HBO toggles and a bid word is sent on BID_CLO. -/
  | heartbeatToggle (m : Nat)
  /-- R367: A bid word from the partner is received and its claim, role and flags taken. -/
  | bidWord (w : BidWordIn)
  /-- R368: No edge on BID_HBI for 4,800 TCLK declares partner heartbeat lost. -/
  | heartbeatLoss (cyc : Nat)
  /-- R368: No good bid word for 4,800 TCLK declares bid words lost. -/
  | bidWordsLoss (cyc : Nat)
  /-- R368: P3 out of sync for 1,600 TCLK declares P3 silent. -/
  | p3Silent (cyc : Nat)
  /-- R376: A dummy raises its claim and serves the remaining slots of the takeover tick, becoming declarer. -/
  | takeover (cyc : Nat)
  /-- R374: A dummy with heartbeat and bid words lost sends a request to the dealer. -/
  | takeoverRequest
  /-- R379: A dealer grant answer lets the module take over. -/
  | dealerGrant (cyc : Nat)
  /-- R374: A dealer refusal keeps the module in DUMMY with BID_LINK_BROKEN. -/
  | dealerRefuse
  /-- R381: A dealer demote answer makes a declarer enter DUMMY. -/
  | dealerDemote
  /-- R378: A module sends its dealer word after each heartbeat toggle. -/
  | dealerWordSend (m : Nat)
  /-- R378: DLR_ALIVE shows no edge for 24 µs and the dealer is declared lost. -/
  | dealerLost (cyc : Nat)
  /-- R381: A declarer outbid by stage reply or partner word demotes itself to DUMMY. -/
  | demotion
  /-- R382: On OUTBID from a stale stage claim the module raises its claim at the next round boundary. -/
  | staleClaimRaise
  /-- R384: A declarer with every stage SILENT for 16 ticks starts a planned swap. -/
  | autoSwap
  /-- R385: At the round boundary the declarer becomes dummy and the dummy raises its claim and governs. -/
  | plannedSwapExecute
  /-- R370: The declarer sends its tick-state frame on P3. -/
  | tickStateFrameSend
  /-- R370: A dummy receives a tick-state frame and adopts the states at the next tick's cycle 1,824. -/
  | tickStateFrame (f : TickState)
  /-- R371: A dummy receives a replayed command and applies it at the same tick. -/
  | commandReplayFrame (tick : U64) (msg : List Byte)
  /-- R389: A dummy receives a round-data part and applies the stream once complete. -/
  | roundDataFrame (f : RoundData)
  /-- R389: A round-data stream incomplete 8,000 ticks after its first part is missing and CFG_MATCH clears. -/
  | roundDataTimeout
  /-- R413: A flush trigger starts copying the unflushed event records to NAND. -/
  | eventRingFlush
  /-- R413: An event flush commit completes and its ring slots are freed. -/
  | flushComplete
  /-- R405: HKP scrubs all SRAM every 64 rounds. -/
  | sramScrub (hits : List ScrubHit)
  /-- R405: HKP scrubs all usable LPDDR4 every 86,400 rounds. -/
  | dramScrub (hits : List ScrubHit)
  /-- R405: HKP scrubs MRAM every 3,600 rounds. -/
  | mramScrub (hits : List ScrubHit)
  /-- R404: HKP checks every NOR sector's CRC every 86,400 rounds. -/
  | norScrub (bad : List Nat)
  /-- R405: A NOR sector is refreshed 10 years after its last program. -/
  | norRefresh (sector : Nat)
  /-- R405: Each NAND block is read every 7 days and rewritten if needed. -/
  | nandRetentionRead (block : Nat) (bits : Nat) (r : NandRead)
  /-- R448: A tamper source becomes active and is latched with the response of Table 16.9. -/
  | tamper (source : Nat) (active : Bool)
  /-- R100: A GMP message arrives on the service port's bulk OUT endpoint and is placed in the channel's request ring, or answered BUSY with channel 0xFF when no channel is free. -/
  | servicePortMessage (ch : BitVec 3) (msg : List Byte)
  /-- R368: An edge on BID_HBI ends a declared heartbeat loss, is recorded as a recovery, and stops position B from sinking. -/
  | partnerHeartbeatEdge (high : Bool) (cyc : Nat)
  /-- R368: The P3 receiver regains sync and valid code groups, ending P3 silent with a recovery event. -/
  | p3SyncGained
  /-- R378: DLR_ALIVE toggles again after the dealer was declared lost, so the module clears DEALER_LOST and resumes dealer arbitration by R374. -/
  | dealerAliveReturn
  /-- R380: A module strapped to the dealer role receives a module-to-dealer word on DLR_RX or BID_CLI and answers grant, refuse or demote under R379. -/
  | moduleToDealerWord (w : DealerWordIn)
  /-- R463: The resident loader finishes writing an image (forward or fall-back), records STATE and check 10, and moves UPDATE to BOOT with reset cause 0x07. -/
  | imageWriteComplete (hashOk : Bool)
  /-- R463: The loader retakes the image-write ante each second until it passes, then starts the write. -/
  | imageWriteAnteRetry (vhuMv : Nat)
  /-- R289: A module that opened a peer session receives handshake step 2 from the peer, verifies it and sends step 3. -/
  | peerHandshakeResponse (h : PeerHs)
  /-- R58: The lid reaches +95 °C, or falls below +90 °C, and an event is recorded. -/
  | lidTemperature (dc : Int)
  /-- R54: Reflected power on an RF port exceeds a 3:1 VSWR, so the module reduces output by 6 dB and records an event. -/
  | rfMismatch (port : Nat)
  deriving DecidableEq, Repr

end Sys2Proof
end

