-- ==== Sys2Proof/Machine/Bytes.lean ====
section
/-!
DEFINITION. Bytes: little-endian fields (00 R5), CRC-8, CRC-16 and CRC-32 by the words of the spec.
-/

namespace Sys2Proof.Machine

open Sys2Proof

/-- The byte at index `i`, 0 beyond the end. -/
def byteAt (b : List Byte) (i : Nat) : Byte := b.getD i 0

/-- The little-endian number in the `n` bytes from index `o` (00 R5). -/
def num (b : List Byte) (o : Nat) : Nat → Nat
  | 0 => 0
  | n + 1 => (byteAt b o).toNat + 256 * num b (o + 1) n

/-- The little-endian field of `w` bits at byte `o`. -/
def fld (b : List Byte) (o : Nat) (w : Nat) : BitVec w := BitVec.ofNat w (num b o (w / 8))

/-- The `n` bytes from index `o`. -/
def cut (b : List Byte) (o n : Nat) : List Byte := (b.drop o).take n

/-- The `n` low bytes of `v`, least significant first (00 R5). -/
def le (n v : Nat) : List Byte :=
  match n with
  | 0 => []
  | k + 1 => BitVec.ofNat 8 v :: le k (v / 256)

/-- The `n` low bytes of the two's-complement integer `v`. -/
def leInt (n : Nat) (v : Int) : List Byte := le n (v % (2 ^ (8 * n) : Nat)).toNat

/-- The `n` bytes of `v`, most significant first. -/
def be (n v : Nat) : List Byte := (le n v).reverse

/-- `b` cut or padded with zeros to `n` bytes. -/
def padTo (n : Nat) (b : List Byte) : List Byte := (b ++ List.replicate (n - b.length) 0).take n

/-- One bit step of the reflected CRC-32 (05 R109). -/
def crc32Bit (c : BitVec 32) : BitVec 32 :=
  if c.getLsbD 0 then (c >>> 1) ^^^ 0xEDB88320#32 else c >>> 1

/-- One byte step of the CRC-32 (05 R109). -/
def crc32Byte (c : BitVec 32) (x : Byte) : BitVec 32 :=
  let c := c ^^^ x.setWidth 32
  crc32Bit (crc32Bit (crc32Bit (crc32Bit (crc32Bit (crc32Bit (crc32Bit (crc32Bit c)))))))

/-- CRC-32, polynomial 0x04C11DB7 reflected, initial value and final XOR all ones (05 R109). -/
def crc32 (b : List Byte) : U32 := b.foldl crc32Byte 0xFFFFFFFF#32 ^^^ 0xFFFFFFFF#32

/-- One bit step of the CRC-16 of tells, most significant bit first (11 R311). -/
def crc16Bit (c : BitVec 16) : BitVec 16 :=
  if c.getLsbD 15 then (c <<< 1) ^^^ 0x1021#16 else c <<< 1

/-- CRC-16, polynomial 0x1021, initial value 0xFFFF, no reflection, no final XOR (11 R311). -/
def crc16 (b : List Byte) : U16 :=
  b.foldl (fun c x =>
    let c := c ^^^ (BitVec.shiftLeft (x.setWidth 16) 8)
    crc16Bit (crc16Bit (crc16Bit (crc16Bit (crc16Bit (crc16Bit (crc16Bit (crc16Bit c)))))))) 0xFFFF#16

/-- CRC-8 over bits in the order sent, polynomial x^8 + x^2 + x + 1, from an initial value (09 R214, R245). -/
def crc8From (init : BitVec 8) (l : List Bool) : BitVec 8 :=
  l.foldl (fun c b => if xor (c.getLsbD 7) b then (c <<< 1) ^^^ 0x07#8 else c <<< 1) init

/-- The CRC-8 with initial value 0 (09 R214). -/
def crc8Bits (l : List Bool) : BitVec 8 := crc8From 0#8 l

/-- CRC-4 over bits in the order sent, polynomial x^4 + x + 1, initial value 0 (09 R214). -/
def crc4Bits (l : List Bool) : BitVec 4 :=
  l.foldl (fun c b => if xor (c.getLsbD 3) b then (c <<< 1) ^^^ 0x3#4 else c <<< 1) 0#4

/-- The `n` low bits of `v`, least significant first. -/
def bitsLsb (n v : Nat) : List Bool := (List.range n).map fun i => v.testBit i

/-- The bits of a field, most significant first. -/
def bitsMsb {w : Nat} (v : BitVec w) : List Bool := ((List.range w).map fun i => v.getLsbD i).reverse

/-- The signed value of a 32-bit field. -/
def i32 (v : BitVec 32) : Int := v.toInt

/-- The signed value of a 16-bit field. -/
def i16 (v : BitVec 16) : Int := v.toInt

/-- The signed value of an 8-bit field. -/
def i8 (v : BitVec 8) : Int := v.toInt

/-- `v` limited to the range `lo` to `hi`. -/
def clampInt (v lo hi : Int) : Int := if v < lo then lo else if hi < v then hi else v

end Sys2Proof.Machine
end

