-- ==== Sys2Proof/Machine/Encode.lean ====
section
/-!
DEFINITION. The accepted request of a GMP command as bytes, header to CRC (05 Table 5.4, R109): what replay frames and
round data carry (14 R371, R389). The payloads are written field by field in the order of the group tables (R130).
-/

namespace Sys2Proof

open Sys2Proof.Machine

/-- The payload of command 0x0103 as bytes (R130). -/
def WarmResetCommandP.bytes (p : WarmResetCommandP) : List Byte :=
  le 4 p.delay.toNat

/-- The payload of command 0x0106 as bytes (R130). -/
def LifecycleAdvanceP.bytes (p : LifecycleAdvanceP) : List Byte :=
  le 1 p.target.toNat ++ le 1 p.rsv.toNat ++ le 2 p.tlen.toNat ++ p.token

/-- The payload of command 0x0107 as bytes (R130). -/
def RaiseCompatibilityLevelP.bytes (p : RaiseCompatibilityLevelP) : List Byte :=
  le 2 p.level.toNat ++ le 2 p.rsv.toNat

/-- The payload of command 0x0110 as bytes (R130). -/
def SessionChallengeP.bytes (p : SessionChallengeP) : List Byte :=
  le 1 p.priv.toNat ++ le 3 p.rsv.toNat

/-- The payload of command 0x0111 as bytes (R130). -/
def SessionProveP.bytes (p : SessionProveP) : List Byte :=
  le 2 p.clen.toNat ++ le 2 p.rsv.toNat ++ p.chain ++ padTo 96 p.sig

/-- The payload of command 0x0112 as bytes (R130). -/
def SessionLowerP.bytes (p : SessionLowerP) : List Byte :=
  le 1 p.priv.toNat ++ le 3 p.rsv.toNat

/-- The payload of command 0x0201 as bytes (R130). -/
def FeederQuantitiesP.bytes (p : FeederQuantitiesP) : List Byte :=
  le 1 p.feeder.toNat ++ le 3 p.rsv.toNat

/-- The payload of command 0x0202 as bytes (R130). -/
def EnergyRegistersP.bytes (p : EnergyRegistersP) : List Byte :=
  le 1 p.set.toNat ++ le 3 p.rsv.toNat

/-- The payload of command 0x0203 as bytes (R130). -/
def HarmonicsP.bytes (p : HarmonicsP) : List Byte :=
  le 1 p.channel.toNat ++ le 1 p.first.toNat ++ le 1 p.count.toNat ++ le 1 p.rsv.toNat

/-- The bytes of one entry of command 0x0204. -/
def CorrectionSegmentsE.bytes (e : CorrectionSegmentsE) : List Byte := le 4 e.brk.toNat ++ le 4 e.gain.toNat ++ le 4 e.phase.toNat

/-- The payload of command 0x0204 as bytes (R130). -/
def CorrectionSegmentsP.bytes (p : CorrectionSegmentsP) : List Byte :=
  le 1 p.channel.toNat ++ le 3 p.rsv.toNat ++ (p.points.map CorrectionSegmentsE.bytes).flatten

/-- The payload of command 0x0206 as bytes (R130). -/
def AccumulationModeP.bytes (p : AccumulationModeP) : List Byte :=
  le 2 p.reg.toNat ++ le 1 p.mode.toNat ++ le 1 p.rsv.toNat

/-- The payload of command 0x0208 as bytes (R130). -/
def PhasorStreamP.bytes (p : PhasorStreamP) : List Byte :=
  le 1 p.enable.toNat ++ le 1 p.ipv.toNat ++ le 2 p.port.toNat ++ padTo 16 p.addr

/-- The bytes of one entry of command 0x0209. -/
def AssignSuitCodesE.bytes (e : AssignSuitCodesE) : List Byte := le 4 e.node.toNat ++ le 2 e.code.toNat ++ le 2 e.rsv.toNat

/-- The payload of command 0x0209 as bytes (R130). -/
def AssignSuitCodesP.bytes (p : AssignSuitCodesP) : List Byte :=
  le 1 p.feeder.toNat ++ le 1 p.rsv.toNat ++ le 2 p.n.toNat ++ (p.items.map AssignSuitCodesE.bytes).flatten

/-- The payload of command 0x020A as bytes (R130). -/
def SuitEstimatesP.bytes (p : SuitEstimatesP) : List Byte :=
  le 8 p.cursor.toNat ++ le 2 p.max.toNat ++ le 2 p.prsv.toNat ++ le 1 p.feeder.toNat ++ le 3 p.rsv.toNat

/-- The payload of command 0x020B as bytes (R130). -/
def GapRecordsP.bytes (p : GapRecordsP) : List Byte :=
  le 8 p.cursor.toNat ++ le 2 p.max.toNat ++ le 2 p.prsv.toNat

/-- The payload of command 0x0301 as bytes (R130). -/
def ConfigureLoopP.bytes (p : ConfigureLoopP) : List Byte :=
  le 4 p.loop.toNat ++ le 1 p.kind.toNat ++ le 1 p.output.toNat ++ le 2 p.opts.toNat ++ le 2 p.pvSrc.toNat ++ le 2 p.ffSrc.toNat ++ le 4 p.rampUp.toNat ++ le 4 p.rampDn.toNat ++ le 4 p.satMs.toNat ++ le 2 p.group.toNat ++ le 2 p.rsv.toNat

/-- The payload of command 0x0302 as bytes (R130). -/
def RemoveLoopP.bytes (p : RemoveLoopP) : List Byte :=
  le 4 p.loop.toNat

/-- The payload of command 0x0303 as bytes (R130). -/
def ShadowCoefficientsP.bytes (p : ShadowCoefficientsP) : List Byte :=
  le 4 p.loop.toNat ++ le 4 p.kp.toNat ++ le 4 p.ki.toNat ++ le 4 p.kd.toNat ++ le 2 p.n1f.toNat ++ le 2 p.n1q.toNat ++ le 2 p.n2f.toNat ++ le 2 p.n2q.toNat ++ le 4 p.kff.toNat ++ le 4 p.outMin.toNat ++ le 4 p.outMax.toNat

/-- The payload of command 0x0304 as bytes (R130). -/
def BankSwapP.bytes (p : BankSwapP) : List Byte :=
  le 2 p.group.toNat ++ le 2 p.rsv.toNat

/-- The payload of command 0x0305 as bytes (R130). -/
def SetPointP.bytes (p : SetPointP) : List Byte :=
  le 4 p.loop.toNat ++ le 4 p.sp.toNat

/-- The payload of command 0x0306 as bytes (R130). -/
def LoopStateP.bytes (p : LoopStateP) : List Byte :=
  le 4 p.loop.toNat

/-- The payload of command 0x0307 as bytes (R130). -/
def ConfigureTalonTraceP.bytes (p : ConfigureTalonTraceP) : List Byte :=
  le 1 p.cp.toNat ++ le 1 p.trace.toNat ++ le 2 p.src.toNat ++ le 4 p.loop.toNat ++ le 2 p.decim.toNat ++ le 1 p.trig.toNat ++ le 1 p.pre.toNat ++ le 4 p.level.toNat

/-- The payload of command 0x0308 as bytes (R130). -/
def ArmTalonP.bytes (p : ArmTalonP) : List Byte :=
  le 1 p.cp.toNat ++ le 1 p.mask.toNat ++ le 2 p.rsv.toNat

/-- The payload of command 0x0309 as bytes (R130). -/
def ReadTalonP.bytes (p : ReadTalonP) : List Byte :=
  le 8 p.cursor.toNat ++ le 2 p.max.toNat ++ le 2 p.prsv.toNat ++ le 1 p.cp.toNat ++ le 1 p.trace.toNat ++ le 2 p.rsv.toNat

/-- The payload of command 0x0401 as bytes (R130). -/
def ConfigureOutputStageP.bytes (p : ConfigureOutputStageP) : List Byte :=
  le 1 p.link.toNat ++ le 1 p.addr.toNat ++ le 1 p.feeder.toNat ++ le 1 p.mode.toNat

/-- The payload of command 0x0402 as bytes (R130). -/
def StageStatusP.bytes (p : StageStatusP) : List Byte :=
  le 1 p.link.toNat ++ le 1 p.addr.toNat ++ le 2 p.rsv.toNat

/-- The payload of command 0x0403 as bytes (R130). -/
def ContactorP.bytes (p : ContactorP) : List Byte :=
  le 1 p.ct.toNat ++ le 1 p.on.toNat ++ le 2 p.rsv.toNat

/-- The payload of command 0x0404 as bytes (R130). -/
def ConfigureStringP.bytes (p : ConfigureStringP) : List Byte :=
  le 1 p.ch.toNat ++ le 1 p.rsv.toNat ++ le 2 p.maxMa.toNat ++ le 2 p.vfMax.toNat ++ le 2 p.probe.toNat

/-- The payload of command 0x0405 as bytes (R130). -/
def StringLevelP.bytes (p : StringLevelP) : List Byte :=
  le 1 p.ch.toNat ++ le 1 p.rsv.toNat ++ le 2 p.level.toNat ++ le 2 p.fade.toNat ++ le 2 p.rsv2.toNat

/-- The payload of command 0x0406 as bytes (R130). -/
def ConfigureChainPortP.bytes (p : ConfigureChainPortP) : List Byte :=
  le 1 p.port.toNat ++ le 1 p.enum.toNat ++ le 2 p.expect.toNat

/-- The bytes of one entry of command 0x0407. -/
def ChainOutputsE.bytes (e : ChainOutputsE) : List Byte := le 2 e.l0.toNat ++ le 2 e.l1.toNat ++ le 2 e.l2.toNat ++ le 2 e.l3.toNat

/-- The payload of command 0x0407 as bytes (R130). -/
def ChainOutputsP.bytes (p : ChainOutputsP) : List Byte :=
  le 1 p.port.toNat ++ le 1 p.rsv.toNat ++ le 2 p.first.toNat ++ le 2 p.n.toNat ++ le 2 p.rsv2.toNat ++ (p.items.map ChainOutputsE.bytes).flatten

/-- The payload of command 0x0409 as bytes (R130). -/
def TestOutputP.bytes (p : TestOutputP) : List Byte :=
  le 1 p.target.toNat ++ le 1 p.rsv.toNat ++ le 2 p.index.toNat ++ le 2 p.value.toNat ++ le 2 p.hold.toNat

/-- The payload of command 0x040A as bytes (R130). -/
def SafeLevelP.bytes (p : SafeLevelP) : List Byte :=
  le 1 p.target.toNat ++ le 1 p.rsv.toNat ++ le 2 p.safe.toNat ++ le 4 p.index.toNat

/-- The payload of command 0x0501 as bytes (R130). -/
def AddNodeP.bytes (p : AddNodeP) : List Byte :=
  le 4 p.node.toNat ++ padTo 8 p.eui ++ le 2 p.typ.toNat ++ le 1 p.feeder.toNat ++ le 1 p.port.toNat ++ le 1 p.cls.toNat ++ le 1 p.sleepy.toNat ++ le 2 p.rsv.toNat

/-- The payload of command 0x0502 as bytes (R130). -/
def RemoveNodeP.bytes (p : RemoveNodeP) : List Byte :=
  le 4 p.node.toNat

/-- The payload of command 0x0503 as bytes (R130). -/
def NodeStatusP.bytes (p : NodeStatusP) : List Byte :=
  le 4 p.node.toNat

/-- The payload of command 0x0504 as bytes (R130). -/
def AssociationsP.bytes (p : AssociationsP) : List Byte :=
  le 8 p.cursor.toNat ++ le 2 p.max.toNat ++ le 2 p.prsv.toNat

/-- The payload of command 0x0505 as bytes (R130). -/
def ConfirmRegionalProfileP.bytes (p : ConfirmRegionalProfileP) : List Byte :=
  le 2 p.profile.toNat ++ le 1 p.maxA.toNat ++ le 1 p.maxB.toNat

/-- The payload of command 0x0506 as bytes (R130). -/
def DutyCycleAccountsP.bytes (p : DutyCycleAccountsP) : List Byte :=
  le 1 p.port.toNat ++ le 3 p.rsv.toNat

/-- The payload of command 0x0507 as bytes (R130). -/
def NodeLevelP.bytes (p : NodeLevelP) : List Byte :=
  le 4 p.node.toNat ++ le 2 p.level.toNat ++ le 2 p.fade.toNat ++ le 8 p.atTick.toNat

/-- The payload of command 0x0508 as bytes (R130). -/
def PeerSeatsP.bytes (p : PeerSeatsP) : List Byte :=
  le 4 p.seg1.toNat ++ le 4 p.seg2.toNat ++ padTo 16 p.addr1 ++ padTo 16 p.addr2

/-- The payload of command 0x0509 as bytes (R130). -/
def AdoptP.bytes (p : AdoptP) : List Byte :=
  le 4 p.seg.toNat ++ le 1 p.action.toNat ++ le 3 p.rsv.toNat

/-- The payload of command 0x0509 as bytes (R130). -/
def ReleaseAdoptedP.bytes (p : ReleaseAdoptedP) : List Byte :=
  le 4 p.seg.toNat ++ le 1 p.action.toNat ++ le 3 p.rsv.toNat

/-- The payload of command 0x0602 as bytes (R130). -/
def ConfigurePortP.bytes (p : ConfigurePortP) : List Byte :=
  le 1 p.port.toNat ++ le 1 p.speed.toNat ++ le 2 p.maxf.toNat ++ le 4 p.pflags.toNat

/-- The payload of command 0x0603 as bytes (R130). -/
def ConfigureIeee1588P.bytes (p : ConfigureIeee1588P) : List Byte :=
  le 1 p.clock.toNat ++ le 1 p.steps.toNat ++ le 1 p.domain.toNat ++ le 1 p.ports.toNat ++ le 4 p.rsv.toNat

/-- The payload of command 0x0604 as bytes (R130). -/
def ConfigureTellP.bytes (p : ConfigureTellP) : List Byte :=
  le 1 p.tell.toNat ++ le 1 p.enable.toNat ++ le 2 p.check.toNat ++ padTo 16 p.mask

/-- The payload of command 0x0605 as bytes (R130). -/
def TaiUtcOffsetP.bytes (p : TaiUtcOffsetP) : List Byte :=
  le 2 p.offset.toNat ++ le 2 p.rsv.toNat ++ le 8 p.since.toNat

/-- The payload of command 0x0606 as bytes (R130). -/
def SetRealTimeClockP.bytes (p : SetRealTimeClockP) : List Byte :=
  le 8 p.utc.toNat

/-- The payload of command 0x0607 as bytes (R130). -/
def RealTimeClockAlarmP.bytes (p : RealTimeClockAlarmP) : List Byte :=
  le 1 p.alarm.toNat ++ le 1 p.enable.toNat ++ le 2 p.rsv.toNat ++ le 8 p.utc.toNat

/-- The payload of command 0x0608 as bytes (R130). -/
def PortCountersP.bytes (p : PortCountersP) : List Byte :=
  le 1 p.port.toNat ++ le 1 p.clear.toNat ++ le 2 p.rsv.toNat

/-- The bytes of one entry of command 0x0701. -/
def GroupMembersE.bytes (e : GroupMembersE) : List Byte := le 4 e.node.toNat

/-- The payload of command 0x0701 as bytes (R130). -/
def GroupMembersP.bytes (p : GroupMembersP) : List Byte :=
  le 4 p.group.toNat ++ le 1 p.mode.toNat ++ le 1 p.rsv.toNat ++ le 2 p.n.toNat ++ (p.nodes.map GroupMembersE.bytes).flatten

/-- The payload of command 0x0702 as bytes (R130). -/
def DeleteGroupP.bytes (p : DeleteGroupP) : List Byte :=
  le 4 p.group.toNat

/-- The payload of command 0x0703 as bytes (R130). -/
def DefineScheduleP.bytes (p : DefineScheduleP) : List Byte :=
  le 4 p.sched.toNat ++ le 2 p.rlen.toNat ++ le 2 p.rsv.toNat ++ p.rule

/-- The payload of command 0x0704 as bytes (R130). -/
def DeleteScheduleP.bytes (p : DeleteScheduleP) : List Byte :=
  le 4 p.sched.toNat

/-- The payload of command 0x0705 as bytes (R130). -/
def ZoneRulesP.bytes (p : ZoneRulesP) : List Byte :=
  le 1 p.zlen.toNat ++ le 3 p.rsv.toNat ++ p.tz

/-- The payload of command 0x0706 as bytes (R130). -/
def ConfigureLightWaveP.bytes (p : ConfigureLightWaveP) : List Byte :=
  le 2 p.wave.toNat ++ le 2 p.rsv.toNat ++ le 2 p.wlen.toNat ++ le 2 p.rsv2.toNat ++ p.rcd

/-- The payload of command 0x0707 as bytes (R130). -/
def TrafficEventP.bytes (p : TrafficEventP) : List Byte :=
  le 4 p.source.toNat ++ le 1 p.kind.toNat ++ le 1 p.rsv.toNat ++ le 2 p.speed.toNat ++ le 4 p.pos.toNat ++ le 8 p.atTick.toNat

/-- The payload of command 0x0720 as bytes (R130). -/
def ClearGroupOverrideP.bytes (p : ClearGroupOverrideP) : List Byte :=
  le 2 p.group.toNat ++ le 2 p.rsv.toNat

/-- The payload of command 0x0721 as bytes (R130). -/
def GroupOverrideP.bytes (p : GroupOverrideP) : List Byte :=
  le 2 p.group.toNat ++ le 2 p.level.toNat ++ le 4 p.duration.toNat ++ le 2 p.fade.toNat ++ le 2 p.rsv.toNat

/-- The payload of command 0x0722 as bytes (R130). -/
def GroupStateP.bytes (p : GroupStateP) : List Byte :=
  le 2 p.group.toNat ++ le 2 p.rsv.toNat

/-- The payload of command 0x0803 as bytes (R130). -/
def ConfigurePairP.bytes (p : ConfigurePairP) : List Byte :=
  le 1 p.dealer.toNat ++ le 3 p.rsv.toNat

/-- The payload of command 0x0901 as bytes (R130). -/
def SeatingReportP.bytes (p : SeatingReportP) : List Byte :=
  le 8 p.cursor.toNat ++ le 2 p.max.toNat ++ le 2 p.prsv.toNat

/-- The payload of command 0x0903 as bytes (R130). -/
def EventsP.bytes (p : EventsP) : List Byte :=
  le 8 p.cursor.toNat ++ le 2 p.max.toNat ++ le 2 p.prsv.toNat

/-- The payload of command 0x0904 as bytes (R130). -/
def ScorecardP.bytes (p : ScorecardP) : List Byte :=
  le 8 p.cursor.toNat ++ le 2 p.max.toNat ++ le 2 p.prsv.toNat

/-- The payload of command 0x0905 as bytes (R130). -/
def IntervalProfileP.bytes (p : IntervalProfileP) : List Byte :=
  le 8 p.cursor.toNat ++ le 2 p.max.toNat ++ le 2 p.prsv.toNat ++ le 4 p.obj.toNat

/-- The payload of command 0x0906 as bytes (R130). -/
def ObjectSeatP.bytes (p : ObjectSeatP) : List Byte :=
  le 4 p.obj.toNat

/-- The payload of command 0x0908 as bytes (R130). -/
def EraseSettingsP.bytes (p : EraseSettingsP) : List Byte :=
  le 4 p.confirm.toNat

/-- The payload of command 0x0A02 as bytes (R130). -/
def LoadKeyPlaintextP.bytes (p : LoadKeyPlaintextP) : List Byte :=
  le 1 p.slot.toNat ++ le 1 p.typ.toNat ++ le 1 p.mask.toNat ++ le 1 p.usage.toNat ++ le 8 p.expiry.toNat ++ le 2 p.klen.toNat ++ le 2 p.rsv.toNat ++ p.key

/-- The payload of command 0x0A03 as bytes (R130). -/
def StageKeyP.bytes (p : StageKeyP) : List Byte :=
  le 4 p.hand.toNat ++ le 4 p.wrapBy.toNat ++ le 2 p.wlen.toNat ++ le 2 p.rsv.toNat ++ p.wrapped

/-- The payload of command 0x0A04 as bytes (R130). -/
def ConfirmKeyP.bytes (p : ConfirmKeyP) : List Byte :=
  le 2 p.stage.toNat ++ le 2 p.rsv.toNat ++ padTo 48 p.proof

/-- The payload of command 0x0A05 as bytes (R130). -/
def CommitKeyP.bytes (p : CommitKeyP) : List Byte :=
  le 2 p.stage.toNat ++ le 2 p.rsv.toNat

/-- The payload of command 0x0A06 as bytes (R130). -/
def DiscardStagedKeyP.bytes (p : DiscardStagedKeyP) : List Byte :=
  le 2 p.stage.toNat ++ le 2 p.rsv.toNat

/-- The payload of command 0x0A07 as bytes (R130). -/
def RevokeRootSlotP.bytes (p : RevokeRootSlotP) : List Byte :=
  le 1 p.slot.toNat ++ le 1 p.rsv.toNat ++ le 2 p.tlen.toNat ++ p.token

/-- The payload of command 0x0A08 as bytes (R130). -/
def OwnershipTransferP.bytes (p : OwnershipTransferP) : List Byte :=
  le 2 p.tlen.toNat ++ le 2 p.rsv.toNat ++ p.token

/-- The payload of command 0x0A09 as bytes (R130). -/
def ClearTamperLatchP.bytes (p : ClearTamperLatchP) : List Byte :=
  le 2 p.sources.toNat ++ le 2 p.rsv.toNat

/-- The payload of command 0x0A0B as bytes (R130). -/
def DebugUnlockP.bytes (p : DebugUnlockP) : List Byte :=
  le 4 p.scope.toNat ++ padTo 96 p.sig

/-- The payload of command 0x0A0C as bytes (R130). -/
def ProveIdentityP.bytes (p : ProveIdentityP) : List Byte :=
  padTo 32 p.nonce

/-- The payload of command 0x0B01 as bytes (R130). -/
def OpenUpdateSessionP.bytes (p : OpenUpdateSessionP) : List Byte :=
  padTo 48 p.hash ++ le 4 p.size.toNat ++ le 4 p.rsv.toNat

/-- The payload of command 0x0B02 as bytes (R130). -/
def ImageBlockP.bytes (p : ImageBlockP) : List Byte :=
  le 4 p.session.toNat ++ le 4 p.offset.toNat ++ p.data

/-- The payload of command 0x0B03 as bytes (R130). -/
def InstallP.bytes (p : InstallP) : List Byte :=
  le 4 p.session.toNat ++ le 2 p.window.toNat ++ le 2 p.rsv.toNat

/-- The payload of command 0x0B04 as bytes (R130). -/
def AbortP.bytes (p : AbortP) : List Byte :=
  le 4 p.session.toNat

/-- The payload of command 0x0B06 as bytes (R130). -/
def ReplaceLoaderP.bytes (p : ReplaceLoaderP) : List Byte :=
  le 4 p.session.toNat

/-- The payload of command 0x0B07 as bytes (R130). -/
def RelayToPeerP.bytes (p : RelayToPeerP) : List Byte :=
  le 4 p.session.toNat ++ padTo 16 p.addr

/-- Header as read, command code and payload of a GMP command; none for an event. -/
def requestParts (i : Instr) : Option (Req × Nat × List Byte) :=
  match i with
  | .getIdentity r => some (r, 0x0101, [])
  | .getStatus r => some (r, 0x0102, [])
  | .warmResetCommand r p => some (r, 0x0103, p.bytes)
  | .commissioningComplete r => some (r, 0x0104, [])
  | .recommission r => some (r, 0x0105, [])
  | .lifecycleAdvance r p => some (r, 0x0106, p.bytes)
  | .raiseCompatibilityLevel r p => some (r, 0x0107, p.bytes)
  | .sessionChallenge r p => some (r, 0x0110, p.bytes)
  | .sessionProve r p => some (r, 0x0111, p.bytes)
  | .sessionLower r p => some (r, 0x0112, p.bytes)
  | .channelClose r => some (r, 0x0113, [])
  | .feederQuantities r p => some (r, 0x0201, p.bytes)
  | .energyRegisters r p => some (r, 0x0202, p.bytes)
  | .harmonics r p => some (r, 0x0203, p.bytes)
  | .correctionSegments r p => some (r, 0x0204, p.bytes)
  | .metrologyUnseal r => some (r, 0x0205, [])
  | .accumulationMode r p => some (r, 0x0206, p.bytes)
  | .metrologyReseal r => some (r, 0x0207, [])
  | .phasorStream r p => some (r, 0x0208, p.bytes)
  | .assignSuitCodes r p => some (r, 0x0209, p.bytes)
  | .suitEstimates r p => some (r, 0x020A, p.bytes)
  | .gapRecords r p => some (r, 0x020B, p.bytes)
  | .configureLoop r p => some (r, 0x0301, p.bytes)
  | .removeLoop r p => some (r, 0x0302, p.bytes)
  | .shadowCoefficients r p => some (r, 0x0303, p.bytes)
  | .bankSwap r p => some (r, 0x0304, p.bytes)
  | .setPoint r p => some (r, 0x0305, p.bytes)
  | .loopState r p => some (r, 0x0306, p.bytes)
  | .configureTalonTrace r p => some (r, 0x0307, p.bytes)
  | .armTalon r p => some (r, 0x0308, p.bytes)
  | .readTalon r p => some (r, 0x0309, p.bytes)
  | .configureOutputStage r p => some (r, 0x0401, p.bytes)
  | .stageStatus r p => some (r, 0x0402, p.bytes)
  | .contactor r p => some (r, 0x0403, p.bytes)
  | .configureString r p => some (r, 0x0404, p.bytes)
  | .stringLevel r p => some (r, 0x0405, p.bytes)
  | .configureChainPort r p => some (r, 0x0406, p.bytes)
  | .chainOutputs r p => some (r, 0x0407, p.bytes)
  | .inputs r => some (r, 0x0408, [])
  | .testOutput r p => some (r, 0x0409, p.bytes)
  | .safeLevel r p => some (r, 0x040A, p.bytes)
  | .addNode r p => some (r, 0x0501, p.bytes)
  | .removeNode r p => some (r, 0x0502, p.bytes)
  | .nodeStatus r p => some (r, 0x0503, p.bytes)
  | .associations r p => some (r, 0x0504, p.bytes)
  | .confirmRegionalProfile r p => some (r, 0x0505, p.bytes)
  | .dutyCycleAccounts r p => some (r, 0x0506, p.bytes)
  | .nodeLevel r p => some (r, 0x0507, p.bytes)
  | .peerSeats r p => some (r, 0x0508, p.bytes)
  | .adopt r p => some (r, 0x0509, p.bytes)
  | .releaseAdopted r p => some (r, 0x0509, p.bytes)
  | .timeStatus r => some (r, 0x0601, [])
  | .configurePort r p => some (r, 0x0602, p.bytes)
  | .configureIeee1588 r p => some (r, 0x0603, p.bytes)
  | .configureTell r p => some (r, 0x0604, p.bytes)
  | .taiUtcOffset r p => some (r, 0x0605, p.bytes)
  | .setRealTimeClock r p => some (r, 0x0606, p.bytes)
  | .realTimeClockAlarm r p => some (r, 0x0607, p.bytes)
  | .portCounters r p => some (r, 0x0608, p.bytes)
  | .groupMembers r p => some (r, 0x0701, p.bytes)
  | .deleteGroup r p => some (r, 0x0702, p.bytes)
  | .defineSchedule r p => some (r, 0x0703, p.bytes)
  | .deleteSchedule r p => some (r, 0x0704, p.bytes)
  | .zoneRules r p => some (r, 0x0705, p.bytes)
  | .configureLightWave r p => some (r, 0x0706, p.bytes)
  | .trafficEvent r p => some (r, 0x0707, p.bytes)
  | .clearGroupOverride r p => some (r, 0x0720, p.bytes)
  | .groupOverride r p => some (r, 0x0721, p.bytes)
  | .groupState r p => some (r, 0x0722, p.bytes)
  | .pairStatus r => some (r, 0x0801, [])
  | .plannedRoleSwap r => some (r, 0x0802, [])
  | .configurePair r p => some (r, 0x0803, p.bytes)
  | .seatingReport r p => some (r, 0x0901, p.bytes)
  | .kittyTelemetry r => some (r, 0x0902, [])
  | .events r p => some (r, 0x0903, p.bytes)
  | .scorecard r p => some (r, 0x0904, p.bytes)
  | .intervalProfile r p => some (r, 0x0905, p.bytes)
  | .objectSeat r p => some (r, 0x0906, p.bytes)
  | .flushEventRing r => some (r, 0x0907, [])
  | .eraseSettings r p => some (r, 0x0908, p.bytes)
  | .securityStatus r => some (r, 0x0A01, [])
  | .loadKeyPlaintext r p => some (r, 0x0A02, p.bytes)
  | .stageKey r p => some (r, 0x0A03, p.bytes)
  | .confirmKey r p => some (r, 0x0A04, p.bytes)
  | .commitKey r p => some (r, 0x0A05, p.bytes)
  | .discardStagedKey r p => some (r, 0x0A06, p.bytes)
  | .revokeRootSlot r p => some (r, 0x0A07, p.bytes)
  | .ownershipTransfer r p => some (r, 0x0A08, p.bytes)
  | .clearTamperLatch r p => some (r, 0x0A09, p.bytes)
  | .debugChallenge r => some (r, 0x0A0A, [])
  | .debugUnlock r p => some (r, 0x0A0B, p.bytes)
  | .proveIdentity r p => some (r, 0x0A0C, p.bytes)
  | .openUpdateSession r p => some (r, 0x0B01, p.bytes)
  | .imageBlock r p => some (r, 0x0B02, p.bytes)
  | .install r p => some (r, 0x0B03, p.bytes)
  | .abort r p => some (r, 0x0B04, p.bytes)
  | .updateStatus r => some (r, 0x0B05, [])
  | .replaceLoader r p => some (r, 0x0B06, p.bytes)
  | .relayToPeer r p => some (r, 0x0B07, p.bytes)
  | _ => none

/-- The message of a GMP command, header to CRC (05 Table 5.4, R109). -/
def requestBytes (i : Instr) : List Byte :=
  match requestParts i with
  | none => []
  | some (r, cmd, b) =>
    let m := le 4 r.txn.toNat ++ le 2 cmd ++ le 2 r.len.toNat ++ le 1 r.chan.toNat ++ le 1 r.flags.toNat ++
      le 2 r.compat.toNat ++ le 4 r.rsv.toNat ++ b
    m ++ le 4 (crc32 m).toNat

end Sys2Proof
end

