-- ==== Sys2Proof/Config.lean ====
section
/-!
DEFINITION. What an implementation fixes and the free values (log 2): constants without a body, so that no proof can
see a value. A fresh value is such a constant applied to the counter `State.fresh`.
-/

namespace Sys2Proof.Config

/-- A random or otherwise open string of `n` bytes (challenges, nonces, shares, signatures): counter, length. -/
opaque freeBytes : Nat → Nat → List Byte

/-- An open truth value, by counter. -/
opaque freeBool : Nat → Bool

/-- An open natural number, by counter. -/
opaque freeNat : Nat → Nat

/-- An open integer, by counter. -/
opaque freeInt : Nat → Int

/-- ENGINE of an event record, by counter: left to the implementation (15 R410). -/
opaque eventEngine : Nat → Nat

/-- An open exact quantity, by counter. -/
opaque freeRat : Nat → Rat

/-- SHA-384, an outside standard (log 7). -/
opaque sha384 : List Byte → List Byte

/-- HMAC-SHA-384 of the key confirmation over the staged key (16 R443): key, nonce, hand, message (log 7). -/
opaque keyProof : List Byte → List Byte → Nat → List Byte → List Byte

/-- The signature by hand 0 over a digest (16 R440), an outside standard: key, digest, counter (log 7). -/
opaque sign : List Byte → List Byte → Nat → List Byte

/-- What the bytes of a credential chain and its signature say (16 R426, log 7). -/
structure Cred where
  chainOk : Bool
  ownerOk : Bool
  root : Nat
  priv : Nat
  expiry : Nat
  id : BitVec 32
  deriving DecidableEq, Repr, Inhabited

/-- The check of a credential over its bytes: chain, signature, challenge, owner identity and CA hash (log 7). -/
opaque credential : List Byte → List Byte → List Byte → List Byte → Cred

/-- Figures of a token (16 R428, R429): signature and chain verify by the rule of its TTYPE under the owner record
given, the root slot the chain ends at and the earliest expiry of the chain; token, owner record (log 7). -/
opaque token : List Byte → List Byte → Bool × Nat × Nat

/-- Figures of an image header (17 R453): CHAIN and SIG verify for the KIND, the root slot the chain ends at and the
earliest expiry of the chain; header, KIND (log 7). -/
opaque imageSig : List Byte → Nat → Bool × Nat × Nat

/-- A key of the TYPE can perform the operation of the USAGE bit (16 R438 names no table): TYPE, bit. -/
opaque typePerforms : Nat → Nat → Bool

/-- Unwraps AES-256-KWP: wrapping key, wrapped bytes; none when the integrity check fails (16 R443, log 7). -/
opaque unwrap : List Byte → List Byte → Option (List Byte)

/-- The debug signature verifies under the debug-authority certificate (16 R450): serial, challenge, scope, signature. -/
opaque debugSig : BitVec 64 → List Byte → BitVec 32 → List Byte → Bool

/-- HKDF with SHA-384 over the ECDH P-384 shared secret of two ephemeral shares, salted with both nonces (05 R127): own
share, other share, nonces, outward direction; the AES-256 key and the 4-byte nonce salt of that direction (log 7). -/
opaque sessionKey : List Byte → List Byte → List Byte → Bool → List Byte × List Byte

/-- AES-256-GCM (05 R128): key, nonce, additional data, text; the encrypted bytes and the TAG after them (log 7). -/
opaque gcmSeal : List Byte → List Byte → List Byte → List Byte → List Byte

/-- AES-128-CCM* with an 8-octet MIC (10 R263): key, the sender's EUI-64, SEC_FC and LEVEL of which IEEE 802.15.4 forms the
nonce, header, payload; the payload, encrypted at LEVEL 0, and the MIC after it (log 7). -/
opaque ccmSeal : List Byte → List Byte → Nat → Nat → List Byte → List Byte → List Byte

/-- AES-CMAC (10 R263): key, text (log 7). -/
opaque cmac : List Byte → List Byte → List Byte

/-- The one of the lot keys held, by number, to whose lot a node belongs (10 R263, log 194): EUI-64. -/
opaque lotOf : List Byte → Nat

/-- The IEEE 802.15.4 32-bit FCS of a frame (10 R253), whose octets the manual does not give (log 7). -/
opaque frameFcs : List Byte → List Byte

/-- The answer that ARP, IPv6 neighbour discovery or ICMP echo asks of the module for a frame (11 R297): its MAC address, the
frame (log 201). -/
opaque ipAnswer : List Byte → List Byte → Option (List Byte)

/-- The device certificate chain that the module sends as its credential (10 R289). -/
opaque deviceChain : List Byte

/-- Root slot under which the debug-authority certificate of factory data chains (16 R450). -/
opaque debugRoot : Nat

/-- A fresh P-384 private key made by CRY (16 R442), by counter (log 7). -/
opaque newKey : Nat → List Byte

/-- A foreground item of the deal: its start, a cycle of the tick, or none for the completion of the item before it; its
worst case in cycles of its engine; its deadline in TCLK of the tick (04 R88). -/
structure DealItem where
  start : Option Nat
  worst : Nat
  deadline : Nat
  deriving DecidableEq, Repr, Inhabited

/-- The ordered item list of an engine other than a slice pair, an implementation figure, by engine code (04 R88, R91). -/
opaque engineItems : Nat → List DealItem

/-- The background demand of an engine, an implementation figure, by engine code (04 R91). -/
opaque engineBackground : Nat → Nat

/-- Whether an item of an engine does a work of the model: engine code, item, work (04 R89 leaves items to the
implementation). -/
opaque itemWork : Nat → Nat → Nat → Bool

/-- The CRC byte of a block that is to match neither initial value, as one of the 254 others, by counter (09 R247). -/
opaque chainCrc : Nat → Nat

/-- The lengths of the Ethernet frames that carry a datagram of the module on a port, none on the ports it does not leave by:
number of the output, port. Its headers, its fragments and its way stand outside the manual (11 R302, log 206). -/
opaque datagramFrames : Nat → Nat → List Nat

/-- The fractional-delay filter of 07 R157: delay in sample intervals, samples newest first; the delayed sample. -/
opaque fracDelay : Rat → List Rat → Rat

/-- The 1 kHz low-pass filter of 07 R159: samples newest first; the filtered sample. -/
opaque lowPass : List Rat → Rat

/-- The transform of 07 R162 at an order: cycles in the window, order, samples newest first, their instants in TCLK
(07 R155), and the instant at which the angle is taken (07 R173); real and imaginary part of the RMS phasor. -/
opaque phasor : Nat → Nat → List Rat → List Nat → Rat → Rat × Rat

/-- The argument of a phasor in turns: real and imaginary part. -/
opaque turns : Rat → Rat → Rat

/-- The negative-sequence ratio of three phasors (07 Table 7.7). -/
opaque unbalance : List (Rat × Rat) → Rat

/-- The rounding of a notch coefficient's last bit: F, Q, which coefficient (08 R193). -/
opaque notchRound : Nat → Nat → Nat → Bool

/-- True when the exact value is to be rounded up where the spec names no rounding, by counter. -/
opaque roundUp : Nat → Bool

end Sys2Proof.Config
end

