-- ==== Sys2Proof/Machine/State.lean ====
section
/-!
DEFINITION. The state of the block as plain data, and the state after reset.
Every field names the rule of spec/ that gives it; every value the spec does not give carries its mark and log entry.
-/

namespace Sys2Proof.Machine

open Sys2Proof

/-- States of a zero-crossing detector (07 Table 7.5). -/
inductive ZcState where
  | search
  | acquire
  | locked
  | noZc
  deriving DecidableEq, Repr

/-- The asynchronous operation behind a later completion notice (05 R116). -/
structure OpTok where
  /-- channel (05 R116). -/
  ch : Nat
  /-- transport code of the holder (05 R114). -/
  transport : Nat
  /-- session number (05 R114). -/
  session : U16
  /-- TXN_ID (05 R116). -/
  txn : U32
  /-- CMD (05 R116). -/
  cmd : U16
  /-- QUIET of the request (05 Table 5.4). -/
  quiet : Bool
  deriving DecidableEq, Repr

/-- A sealed hand (16 R441). -/
structure Hand where
  /-- TYPE (16 Table 16.5). -/
  typ : Nat
  /-- MASK (16 Table 16.5). -/
  mask : Nat
  /-- USAGE (16 Table 16.5). -/
  usage : Nat
  /-- EXPIRY (16 Table 16.5). -/
  expiry : Nat
  /-- hand index in the header (16 R441). -/
  header : Nat
  /-- key; never disclosed (R440) (16 Table 16.5). -/
  key : List Byte
  /-- EXPIRY has passed and the event is recorded (16 R439). -/
  expired : Bool
  deriving DecidableEq, Repr

/-- No operation: the value of an operation token that names none. -/
def OpTok.none : OpTok where
  ch := 0
  transport := 0
  session := 0
  txn := 0
  cmd := 0
  quiet := true

/-- What a fuse operation or a two-phase change does once it may (16 R425, R430 to R434, R444). -/
inductive FuseChange where
  | metroUnseal
  | ownerXfer (ownerId : List Byte) (caHash : List Byte)
  | loader
  | compat (level : Nat)
  | lifecycle (target : Nat)
  | revoke (slot : Nat)
  | rollback
  | key (hand : Nat) (k : Hand)
  deriving DecidableEq, Repr

/-- A fuse operation accepted and not yet started, with the operation it answers (16 R424, R434). -/
structure FuseOp where
  tok : Option OpTok
  change : FuseChange
  /-- Model clock tick of its acceptance: it starts at a later tick boundary (16 R434). -/
  since : Nat
  deriving DecidableEq, Repr

/-- What a store persists (03 R70, 06 R135, 15, 16, 17). -/
inductive StorePurpose where
  | cfg (what : Instr)
  | swapBank (group : Nat) (tick : Nat)
  | comm (c : CommRec) (entered : Nat)
  | key (hand : Nat) (k : Hand)
  | stagedKey (stage : Nat) (hand : Nat) (k : Hand)
  | fuse (c : FuseChange)
  | flush
  | assocs
  /-- Records of interval profiles, by profile and SEQ (15 R406, R407). -/
  | records (l : List (U32 × Nat))
  | nodeShort
  | retireList
  | replica (seg : U32)
  | restored (items : List CfgItem)
  | staging
  | copying
  | imageWrite
  | nothing
  deriving DecidableEq, Repr

/-- An output of the block, as it leaves it. The log of outputs is the model's own (log 5). -/
inductive Out where
  /-- An interrupt toward the host: MSI vector, or QS_IRQ_N when the bus is Quad-SPI (05 R107). -/
  | irq (vector : Nat)
  /-- A remote datagram: its session and SEQ, the GMP message and the bytes that carry it (05 R128, Table 5.9). -/
  | remote (sid : U32) (seq : Nat) (msg : List Byte) (bytes : List Byte)
  /-- A GMP message on the service port's bulk IN endpoint (05 Table 5.1). -/
  | service (msg : List Byte)
  /-- A handshake datagram: its type, SESSION_ID and address, and the items of its content in order (05 Table 5.8). -/
  | handshake (step : Nat) (sid : U32) (addr : List Byte) (content : List (List Byte))
  /-- A command frame on an actuator link: its claim, VALUE and tick, and its 64 bit times that the module drives (09 R213). -/
  | actuator (link slot : Nat) (claim : U32) (value : Nat) (tick : Nat) (bits : List Bool)
  /-- A Sifichain frame: port, its blocks (0 output, 1 store, 2 hold; channel levels), the data of its tail block, and the
  bytes of all of them after the marker (09 R244 to R247). -/
  | chain (port : Nat) (blocks : List (Nat × List U16)) (tail : U64) (bytes : List Byte)
  /-- A light-sensor bus is freed or a read started (09 R251). -/
  | lightBus (bus : Nat) (free : Bool)
  /-- A Lernas frame: port, channel, conducted output in dBm, message code and payload, and the PSDU that carries them
  (10 R255, R258, R272); message code 0 with no fields is the empty DATA frame. -/
  | radio (port chan : Nat) (dbm : Int) (msg : Nat) (fields : List Byte) (psdu : List Byte)
  /-- A Lernas acknowledgement: port, output, receiver, SEQ and PSDU (10 R259). -/
  | radioAck (port : Nat) (dbm : Int) (dst : Nat) (seq : U16) (psdu : List Byte)
  /-- A beacon: port, output, Table 10.10 payload and PSDU (10 R276). -/
  | beacon (port : Nat) (dbm : Int) (payload : List Byte) (psdu : List Byte)
  /-- A peer message: segment, PTYPE, fields, and the datagram that carries them (10 Table 10.14, 05 Table 5.9). -/
  | peer (seg : U32) (ptype : Nat) (fields : List Byte) (bytes : List Byte)
  /-- A replica part with its configuration items (10 Table 10.14), and the datagram that carries it. -/
  | replica (seg : U32) (version : U32) (part count : Nat) (items : List CfgItem) (bytes : List Byte)
  /-- A frame forwarded or delivered by the switch (11 R300): egress port, 0 for the module. -/
  | eth (port : Nat) (bytes : List Byte)
  /-- An IEEE 1588 message sent: port, messageType, sequenceId, timestamp; of an Announce its dataset: priority1, clockClass,
  clockAccuracy, variance, priority2, stepsRemoved, timeSource (11 R312, Table 11.8). -/
  | ptp (port : Nat) (msg : Nat) (seqId : Nat) (t : Nat) (data : List Nat)
  /-- A phasor datagram: transmit queue, source port, address and port it goes to (07 R173, R174). -/
  | phasor (queue src : Nat) (addr : List Byte) (port : U16) (payload : List Byte)
  /-- A bid word on BID_CLO (14 R367). -/
  | bidWord (bits : BitVec 48)
  /-- A dealer word on DLR_TX (14 R378). -/
  | dealerWord (bits : BitVec 48)
  /-- A dealer answer: position B or A, ANSWER (14 R379). -/
  | dealerAnswer (posB : Bool) (answer : Nat)
  /-- A tick-state frame on P3: its content and its bytes up to the payload's end (14 R370). -/
  | tickState (f : TickState) (bytes : List Byte)
  /-- A replayed command on P3, and the bytes of its frame (14 R371). -/
  | replay (tick : Nat) (msg : List Byte) (bytes : List Byte)
  /-- A frame of round data on P3, and its bytes (14 R389). -/
  | roundData (f : RoundData) (bytes : List Byte)
  deriving DecidableEq, Repr

/-- One output held by command 0x0409. -/
structure TestHold where
  /-- TARGET 0 to 4 (06 R147). -/
  target : Nat
  /-- INDEX (06 R147). -/
  index : Nat
  /-- test value (06 R147). -/
  value : Nat
  /-- model clock tick at which HOLD expires (06 R147). -/
  endsAt : Nat
  deriving DecidableEq, Repr

/-- Module states, lifecycle reports and reset bookkeeping (00, 01, 03). -/
structure Sys where
  /-- module state; HIF_STATUS.STATE resets to 0x01 (05 Table 5.2) (01 R26, Table 1.7). -/
  mode : Mode
  /-- transition that takes effect at the next tick boundary (01 R28). -/
  nextMode : Option Mode
  /-- warm reset at the next tick boundary, with its cause (03 R60, R66). -/
  nextReset : Option U8
  /-- reset is asserted and not yet released (02 R46). -/
  inReset : Bool
  /-- the boot steps 1 to 8 have run since the release of reset (03 R62). -/
  booted : Bool
  /-- boot number kept in MRAM, raised at every BOOT (05 Table 5.2 HIF_BOOT). [reset: DESIGN CHOICE, log 9] -/
  bootNumber : U32
  /-- last reset cause (03 R60 Table 3.1). -/
  resetCause : U8
  /-- SLOT_ID as read in BOOT; the pins have pull-ups (02 R47 Table 2.9). -/
  straps : U2
  /-- slot position of the stored settings (02 R47, 15 Table 15.15 item 0x0000). -/
  storedSlot : Option U2
  /-- part number of the module (00 R1 Table 0.3). [reset: DESIGN CHOICE, log 9] -/
  variant : Variant
  /-- serial number from factory data (06 Table 6.6). [reset: DESIGN CHOICE, log 9] -/
  serial : U64
  /-- hardware revision (06 Table 6.6). [reset: DESIGN CHOICE, log 9] -/
  hwRev : U16
  /-- running firmware version (06 Table 6.6). [reset: DESIGN CHOICE, log 9] -/
  fwVersion : U32
  /-- settings-schema version in force (06 Table 6.6). [reset: DESIGN CHOICE, log 9] -/
  schema : U16
  /-- compatibility level in force (05 Table 5.2). -/
  compatRunning : U16
  /-- running image's COMPAT_LOWEST (17 Table 17.1, 18 R475). -/
  imageCompatLowest : U16
  /-- running image's COMPAT_HIGHEST (17 Table 17.1). [reset: DESIGN CHOICE, log 9] -/
  imageCompatHighest : U16
  /-- model clock ticks of the automatic restarts of the last 3,600 s (03 R66). -/
  autoRestarts : List Nat
  /-- model clock tick of the automatic restart with cause 0x06 (03 R66). -/
  restartDue : Option Nat
  /-- the module has failed silent (14 R383). -/
  failSilent : Bool
  /-- round boundary at which command 0x0103 resets the module (06 R143). -/
  warmResetRound : Option Nat
  /-- command 0x0104 has taken force and arbitration is still to decide the state (01 Table 1.8, 14 R369). -/
  arbDue : Bool
  /-- tick count (now) at which arbDue was set (14 R369). -/
  arbSince : Nat
  /-- the 0x0104 that owes a notice (06 Table 6.5). -/
  arbTok : Option OpTok
  /-- failed boot check (0 none); it chooses QUARANTINE (03 R65). -/
  bootCheckFailed : Nat
  /-- 1 mains, 2 tell, 3 RTC alarm, 4 tamper; 0 none (03 R68, 15 Table 15.13 WAKE). -/
  wakeReason : Nat
  /-- tell number of the wake (03 R68). -/
  wakeTell : Nat
  /-- port of the wake's tell (11 R310). -/
  wakePort : Nat
  /-- the lid has reached +95 C and not fallen below +90 C (02 R58). -/
  lidHot : Bool
  /-- RF-A output reduced by 6 dB after a mismatch (02 R54). -/
  rfReducedA : Bool
  /-- RF-B output reduced by 6 dB after a mismatch (02 R54). -/
  rfReducedB : Bool
  /-- event codes of the alarms now active (06 Table 6.7 FLAGS.ALARM, 15 R420). -/
  alarms : List Nat
  /-- outputs held by command 0x0409 (06 R147). -/
  tests : List TestHold
  deriving DecidableEq, Repr

/-- `Sys` at reset. -/
def Sys.reset : Sys where
  mode := .boot
  nextMode := none
  nextReset := none
  inReset := true
  booted := false
  bootNumber := 0
  resetCause := 0x01
  straps := 0b11
  storedSlot := none
  variant := .e30
  serial := 0
  hwRev := 0
  fwVersion := 0
  schema := 0
  compatRunning := 1
  imageCompatLowest := 1
  imageCompatHighest := 1
  autoRestarts := []
  restartDue := none
  failSilent := false
  warmResetRound := none
  arbDue := false
  arbSince := 0
  arbTok := none
  bootCheckFailed := 0
  wakeReason := 0
  wakeTell := 0
  wakePort := 0
  lidHot := false
  rfReducedA := false
  rfReducedB := false
  alarms := []
  tests := []

/-- One ante-gated store, deferred, waiting or under way (03 R70 to R72). -/
structure Store where
  /-- kind of Table 3.4 (03 R71 Table 3.4). -/
  kind : StoreKind
  /-- energy the ante requires, 1.5 times E_store, mJ; the sum for a fuse-counted change (03 R70, 16 R434). -/
  mj : Nat
  /-- what the store persists (06 R135). -/
  purpose : StorePurpose
  /-- operation whose notice waits for it (06 R136). -/
  tok : Option OpTok
  /-- model clock tick of the first request (03 R72). -/
  since : Nat
  /-- the ante passed and the store runs (03 R72). -/
  running : Bool
  deriving DecidableEq, Repr

/-- Supply, hold-up stack and mains (02, 03). -/
structure Power where
  /-- the module draws from VIN or the stack; false after a halt (03 R60, R74). -/
  drawing : Bool
  /-- VIN above 18.5 V (with the 18.0 V hysteresis) (02 R42). -/
  vinGood : Bool
  /-- power-fail early warning raised (02 R42, 03 R73). -/
  warning : Bool
  /-- model clock tick of the early warning (03 R74). -/
  warnSince : Nat
  /-- the final checkpoint of this warning is written (03 R73). -/
  finalDone : Bool
  /-- the ring flush that follows the final checkpoint is to start when the one under way ends (03 Table 3.5). -/
  rideFlush : Bool
  /-- hold-up stack voltage V, mV (03 R69). [reset: DESIGN CHOICE, log 9] -/
  stackMv : Nat
  /-- measured capacitance C, mF; 0.47 F for a new stack (03 R69). -/
  stackCmF : Nat
  /-- measured ESR, milliohm; 0.3 ohm for a new stack (03 R69). -/
  stackEsr : Nat
  /-- lowest stack voltage of the ride-through, mV (03 R74). [reset: DESIGN CHOICE, log 9] -/
  minMv : Nat
  /-- the stack is being charged (02 R44). -/
  charging : Bool
  /-- model clock tick at which charging started (02 R44). -/
  chargeSince : Nat
  /-- charging stopped on a shorted or absent stack (02 R44). -/
  chargeFault : Bool
  /-- model clock tick of that stop (02 R44). -/
  chargeFaultAt : Nat
  /-- the stack has reached 12.0 V since power-on (03 R72). -/
  seen12V : Bool
  /-- VCT, mV (02 R43). [reset: DESIGN CHOICE, log 9] -/
  vctMv : Nat
  /-- MAINS_OK as last sampled (03 R67). [reset: DESIGN CHOICE, log 9] -/
  mainsOk : Bool
  /-- MAINS_OK history, newest sample in bit 0 (15 Table 15.11). [reset: DESIGN CHOICE, log 9] -/
  mainsHist : U32
  /-- tick samples in a row that read MAINS_OK low (03 R67). -/
  mainsLowTicks : Nat
  /-- tick samples in a row that read MAINS_OK high (03 R68). -/
  mainsHighTicks : Nat
  /-- last measured VBAK, mV (12 R324). [reset: DESIGN CHOICE, log 9] -/
  vbakMv : Nat
  /-- ante-gated stores in the order first requested (03 R72). -/
  stores : List Store
  deriving DecidableEq, Repr

/-- `Power` at reset. -/
def Power.reset : Power where
  drawing := false
  vinGood := false
  warning := false
  warnSince := 0
  finalDone := false
  rideFlush := false
  stackMv := 0
  stackCmF := 470
  stackEsr := 300
  minMv := 0
  charging := false
  chargeSince := 0
  chargeFault := false
  chargeFaultAt := 0
  seen12V := false
  vctMv := 0
  mainsOk := false
  mainsHist := 0
  mainsLowTicks := 0
  mainsHighTicks := 0
  vbakMv := 0
  stores := []

/-- Tick, round, epoch and time steps (04). -/
structure Clock where
  /-- tick number (HIF_TICK resets to 0) (04 R82). -/
  tick : Nat
  /-- time epoch, MRAM counters area (04 R85). [reset: DESIGN CHOICE, log 9] -/
  epoch : U32
  /-- TCLK from the model's start to the start of the present tick (04 R82). [the model's own field] -/
  tclk : Nat
  /-- the tick generator runs (from step 8 of BOOT) (03 R62). -/
  running : Bool
  /-- model clock tick of the AFE start (03 R62). -/
  afeStart : Nat
  /-- doorbell polls made in this tick: m of the last one is one less (05 R106). -/
  poll : Nat
  /-- ticks of the present round so far (04 R85). -/
  ticksInRound : Nat
  /-- the present tick is a stretch tick (04 R84). -/
  stretch : Bool
  /-- sum of the steps for the next round boundary, ns (04 R86). -/
  stepPending : Int
  /-- sum of the steps decided after cycle 20,000 of a round's last tick, for the boundary after next, ns (04 R86). -/
  stepLate : Int
  /-- a step falls due at this round boundary (04 R84). [the model's own field] -/
  stepDue : Bool
  /-- length of the present tick in TCLK (04 R84). -/
  stretchTcl : Nat
  /-- TCLK at the start of the previous tick (04 R82). [the model's own field] -/
  prevStart : Nat
  /-- the present round holds a stretch tick (07 R179). -/
  roundHeldStep : Bool
  /-- rounds since the last stretch tick, up to 5 (07 R179). -/
  roundsSinceStep : Nat
  /-- consecutive round boundaries without a committed deal (04 R93, 03 R60). -/
  missedDeals : Nat
  /-- SUP confirmed the deal at the last round boundary (14 R366). -/
  dealConfirmed : Bool
  /-- the release point of the previous tick was met (14 R366). -/
  releaseMet : Bool
  deriving DecidableEq, Repr

/-- `Clock` at reset. -/
def Clock.reset : Clock where
  tick := 0
  epoch := 0
  tclk := 0
  running := false
  afeStart := 0
  poll := 0
  ticksInRound := 0
  stretch := false
  stepPending := 0
  stepLate := 0
  stepDue := false
  stretchTcl := 25000
  prevStart := 0
  roundHeldStep := false
  roundsSinceStep := 5
  missedDeals := 0
  dealConfirmed := false
  releaseMet := false

/-- An admitted change waiting for its round boundary (04 R92). -/
structure Change where
  /-- the operation to notify (04 R92). -/
  tok : OpTok
  /-- the accepted command (04 R92). -/
  what : Instr
  /-- round whose end it takes force at (04 R92). -/
  round : Nat
  deriving DecidableEq, Repr

/-- A response or notice (05 R109, R110). -/
structure Msg where
  /-- TXN_ID (05 Table 5.4). -/
  txn : U32
  /-- CMD (05 Table 5.4). -/
  cmd : U16
  /-- FLAGS.NOTICE (05 Table 5.4). -/
  notice : Bool
  /-- no interrupt is raised for it (05 Table 5.4). -/
  quiet : Bool
  /-- COMPAT (05 Table 5.4). -/
  compat : U16
  /-- STATUS (05 Table 5.5). -/
  status : U16
  /-- INFO (05 Table 5.5). -/
  info : U16
  /-- DETAIL (05 Table 5.5). -/
  detail : U32
  /-- command's own response data (05 R110). -/
  data : List Byte
  deriving DecidableEq, Repr

/-- One response kept for duplicates (05 R121). -/
structure CacheEntry where
  /-- TXN_ID (05 R121). -/
  txn : U32
  /-- CMD (05 R121). -/
  cmd : U16
  /-- level applied (05 Table 5.4). -/
  compat : U16
  /-- original STATUS (05 R121). -/
  status : U16
  /-- original INFO (05 R121). -/
  info : U16
  /-- original DETAIL (05 R121). -/
  detail : U32
  /-- response data (05 R121). -/
  data : List Byte
  /-- model clock tick at which the response was placed (05 R121). -/
  placed : Nat
  /-- the completion notice already issued (05 R121). -/
  notice : Option Msg
  deriving DecidableEq, Repr

/-- A session challenge (06 R144). -/
structure Challenge where
  /-- privilege asked for (06 R144). -/
  priv : Nat
  /-- the challenge (06 R144). -/
  bytes : List Byte
  /-- model clock tick of issue (06 R144). -/
  at_ : Nat
  deriving DecidableEq, Repr

/-- One mailbox channel (05). -/
structure Chan where
  /-- 0 free, else transport code (05 Table 5.2 OWNER). -/
  owner : Nat
  /-- request producer index (05 Table 5.2). -/
  reqPi : U16
  /-- request consumer index (05 Table 5.2). -/
  reqCi : U16
  /-- response producer index (05 Table 5.2). -/
  rspPi : U16
  /-- response consumer index (05 Table 5.2). -/
  rspCi : U16
  /-- RESYNC (05 Table 5.2). -/
  resync : Bool
  /-- OVERRUN (05 Table 5.2). -/
  overrun : Bool
  /-- FOREIGN (05 Table 5.2). -/
  foreign : Bool
  /-- session number (05 Table 5.2). -/
  session : U16
  /-- privilege of the session (05 Table 5.2 PRIV). -/
  priv : Nat
  /-- last accepted TXN_ID (05 Table 5.2). -/
  lastId : U32
  /-- an id was accepted or inherited (the first request of a new session is accepted as it is) (05 R120). -/
  hasId : Bool
  /-- duplicate cache, newest first (05 R121). -/
  cache : List CacheEntry
  /-- completion notices waiting for ring space, in order (05 R117). -/
  waiting : List Msg
  /-- latest session challenge (06 R144). -/
  challenge : Option Challenge
  /-- expiry of the session credential, UTC; 0 none (06 Table 6.5 EXPIRY). -/
  credExpiry : Nat
  /-- the session's credential chained through the owner CA in force (16 R431). -/
  credOwner : Bool
  /-- root slot under which the session's credential chained (16 R426). -/
  credRoot : Nat
  /-- identity of the session's credential (05 R127). [the model's own field] -/
  credId : U32
  /-- command 0x0113 ends the session after its response (06 R144). -/
  closing : Bool
  deriving DecidableEq, Repr

/-- `Chan` at reset. -/
def Chan.reset : Chan where
  owner := 0
  reqPi := 0
  reqCi := 0
  rspPi := 0
  rspCi := 0
  resync := false
  overrun := false
  foreign := false
  session := 0
  priv := 0
  lastId := 0
  hasId := false
  cache := []
  waiting := []
  challenge := none
  credExpiry := 0
  credOwner := false
  credRoot := 0
  credId := 0
  closing := false

/-- The keys and nonce salts of a session, in its key slots (05 R127). -/
structure GcmKeys where
  /-- AES-256 key of what the module sends (05 R127). -/
  txKey : List Byte
  /-- 4-byte nonce salt of what the module sends (05 R127). -/
  txSalt : List Byte
  /-- AES-256 key of what the module receives (05 R127). -/
  rxKey : List Byte
  /-- 4-byte nonce salt of what the module receives (05 R127). -/
  rxSalt : List Byte
  deriving DecidableEq, Repr

/-- `GcmKeys` at reset. -/
def GcmKeys.reset : GcmKeys where
  txKey := []
  txSalt := []
  rxKey := []
  rxSalt := []

/-- A remote or peer handshake in progress (05 R127). -/
structure Handshake where
  /-- sender address (05 R127). -/
  addr : List Byte
  /-- sender UDP port (15 Table 15.13). -/
  udp : U16
  /-- P1 or P2 (15 Table 15.13). -/
  port : Nat
  /-- a peer-seat handshake (port 47322) (10 R289). -/
  peer : Bool
  /-- SESSION_ID given in step 2 (05 Table 5.8). -/
  sid : U32
  /-- identity of the credential (05 R127). -/
  cred : U32
  /-- the credential chains through the owner CA (16 R431). -/
  credOwner : Bool
  /-- privilege the credential names (16 R426). -/
  priv : Nat
  /-- credential expiry, UTC (05 R129). -/
  expiry : Nat
  /-- model clock tick of step 1 (05 R127). -/
  since : Nat
  /-- ephemeral share of the sender (05 Table 5.8). -/
  share : List Byte
  /-- nonce of the sender (05 Table 5.8). -/
  nonce : List Byte
  /-- ephemeral share of the module (05 Table 5.8). -/
  own : List Byte
  /-- nonce of the module (05 Table 5.8). -/
  ownNonce : List Byte
  deriving DecidableEq, Repr

/-- An open remote session (05 R127 to R129). -/
structure Remote where
  /-- channel it holds (05 R99). -/
  ch : Nat
  /-- SESSION_ID (05 Table 5.9). -/
  sid : U32
  /-- head-end address (05 R127). -/
  addr : List Byte
  /-- identity of the credential (05 R127). -/
  cred : U32
  /-- highest accepted SEQ (05 R128). -/
  rxHi : Nat
  /-- accepted SEQ values above rxHi - 64 (05 R128). -/
  rxSeen : List Nat
  /-- last SEQ sent (05 R128). -/
  txSeq : Nat
  /-- model clock tick of the last authenticated datagram (05 R129). -/
  last : Nat
  /-- volatile key slots held (16 R436). -/
  slots : List Nat
  /-- the session's keys and salts (05 R127). -/
  keys : GcmKeys
  deriving DecidableEq, Repr

/-- A remote session that ended, for inheritance (05 R127). -/
structure Ended where
  /-- identity of the credential (05 R127). -/
  cred : U32
  /-- channel it held (05 R127). -/
  ch : Nat
  /-- L (05 R127). -/
  lastId : U32
  /-- its cache (05 R127). -/
  cache : List CacheEntry
  /-- model clock tick of the end (05 R127). -/
  at_ : Nat
  deriving DecidableEq, Repr

/-- An IP reassembly (05 R126). -/
structure Reasm where
  /-- datagram identification (05 R126). -/
  key : U32
  /-- fragments received, by offset (05 R126). -/
  frags : List (Nat × List Byte)
  /-- length, once the last fragment is known (05 R126). -/
  total : Option Nat
  /-- model clock tick of the first fragment (05 R126). -/
  since : Nat
  deriving DecidableEq, Repr

/-- Host interface (05). -/
structure Hif where
  /-- HIF_IRQ_STATUS: CH [7:0], STATE_CHG [8] (05 Table 5.2). -/
  irqStatus : BitVec 9
  /-- HIF_IRQ_ENABLE (05 Table 5.2). -/
  irqEnable : BitVec 9
  /-- HIF_TICK_HI as latched (05 Table 5.2). -/
  tickHi : U32
  /-- HIF_SCRATCH (05 Table 5.2). -/
  scratch : U32
  /-- the channel blocks (05 Table 5.2). -/
  chans : List Chan
  /-- session numbers given out, module-wide (05 Table 5.2 SESSION). -/
  sessions : U16
  /-- host window (BAR2): cells that do not read 0; cleared by any reset (05 R103). -/
  window : List Host.Cell
  /-- MSI vectors the host enabled, 1, 2, 4 or 8 (05 R107). [reset: DESIGN CHOICE, log 187] -/
  msiVectors : Nat
  /-- bytes the last register, window or RTC read returned (05 R101). [the model's own field] -/
  rdata : List Byte
  /-- asynchronous operations outstanding (05 R116, R117). -/
  ops : List OpTok
  /-- handshakes in progress (05 R127). -/
  handshakes : List Handshake
  /-- open remote sessions (05 R127). -/
  remotes : List Remote
  /-- ended remote sessions, for 60 s (05 R127). -/
  ended : List Ended
  /-- IP reassemblies in progress (05 R126). -/
  reasms : List Reasm
  /-- next SESSION_ID of a handshake (05 Table 5.8). [reset: DESIGN CHOICE, log 9] -/
  sidNext : U32
  /-- datagrams dropped in reassembly (05 R126). -/
  dropReasm : Nat
  /-- remote datagrams that failed authentication (05 R128). -/
  dropAuth : Nat
  /-- remote datagrams dropped as replays (05 R128). -/
  dropReplay : Nat
  /-- a service-port connection is open (05 R99). -/
  usbUp : Bool
  deriving DecidableEq, Repr

/-- `Hif` at reset. -/
def Hif.reset : Hif where
  irqStatus := 0
  irqEnable := 0
  tickHi := 0
  scratch := 0
  chans := List.replicate 8 Chan.reset
  sessions := 0
  window := []
  msiVectors := 1
  rdata := []
  ops := []
  handshakes := []
  remotes := []
  ended := []
  reasms := []
  sidNext := 1
  dropReasm := 0
  dropAuth := 0
  dropReplay := 0
  usbUp := false

/-- One metering channel at work (07). -/
structure MeterChan where
  /-- converter serving the channel (40, 41 are S0, S1); State.reset gives channel n converter n (01 R17). -/
  conv : Nat
  /-- GAIN in force (interpolated) (07 R157). -/
  gain : Rat
  /-- PHASE in force (interpolated), 10^-6 degree (07 R157). -/
  phase : Rat
  /-- y[n-1] of the Rogowski integrator (07 R484). [reset: DESIGN CHOICE, log 9] -/
  integY : Rat
  /-- last corrected sample, primary units (mV or 10 uA) (07 R154). [reset: DESIGN CHOICE, log 9] -/
  last : Rat
  /-- corrected samples of the last tracked cycle, newest first (07 R163). -/
  hist : List Rat
  /-- corrected samples of the present 200 ms window, newest first (07 R162). -/
  win : List Rat
  /-- weighted sum of squares of the present window (07 R162). -/
  sumSq : Rat
  /-- a clipped sample in the present window (07 R154). -/
  clip : Bool
  /-- RMS of the last complete window, as a fraction of full scale (07 R157). [reset: DESIGN CHOICE, log 9] -/
  rms : Rat
  /-- CLIP of the last complete window (07 R154). -/
  lastClip : Bool
  /-- samples after gain, before the delay of R157, newest first (07 R157). -/
  raw : List Rat
  /-- weighted sum of squares of the present window, as a fraction of full scale (07 R157). -/
  sqCode : Rat
  /-- fractions of full scale of the present window's samples, newest first (07 R157). -/
  winRaw : List Rat
  /-- sums of squared harmonic magnitudes of the present 10 min value (07 Table 7.7). -/
  harmSum : List Nat
  /-- harmonic magnitudes of the last 10 min value, 10^-7 of full scale (07 Table 7.7). [reset: DESIGN CHOICE, log 9] -/
  harm10 : List Nat
  /-- harmonic magnitudes (10^-7 of full scale) and phases (0.01 degree) of the last window (07 R162). -/
  harm : List (Nat × Int)
  deriving DecidableEq, Repr

/-- `MeterChan` at reset. -/
def MeterChan.reset : MeterChan where
  conv := 0
  gain := 0
  phase := 0
  integY := 0
  last := 0
  hist := []
  win := []
  sumSq := 0
  clip := false
  rms := 0
  lastClip := false
  raw := []
  sqCode := 0
  winRaw := []
  harmSum := List.replicate 63 0
  harm10 := List.replicate 63 0
  harm := List.replicate 63 (0, 0)

/-- Zero-crossing detector of a V channel (07 R159). -/
structure Zc where
  /-- detector state (07 Table 7.5). -/
  state : ZcState
  /-- reference instant, TCLK (07 R159). -/
  ref : Option Rat
  /-- TCLK of the last accepted crossing, or of the AFE start (07 Table 7.5). -/
  lastSeen : Nat
  /-- consecutive accepted periods (07 R159). -/
  runLen : Nat
  /-- the filtered signal has been below -H (07 R159). -/
  low : Bool
  /-- previous filtered sample (07 R159). [reset: DESIGN CHOICE, log 9] -/
  prev : Rat
  /-- its instant, TCLK (07 R159). [reset: DESIGN CHOICE, log 9] -/
  prevAt : Nat
  /-- instant of the zero crossing under way, TCLK (07 R159). -/
  inst : Option Rat
  /-- sum of the accepted periods of this window, TCLK (07 R160). -/
  perSum : Rat
  /-- number of accepted periods of this window (07 R160). -/
  perN : Nat
  deriving DecidableEq, Repr

/-- `Zc` at reset. -/
def Zc.reset : Zc where
  state := .search
  ref := none
  lastSeen := 0
  runLen := 0
  low := false
  prev := 0
  prevAt := 0
  inst := none
  perSum := 0
  perN := 0

/-- Frequency tracker of a supply (07 R160). -/
structure Tracker where
  /-- phase followed, none while NO_ZC (07 R160). -/
  src : Option Nat
  /-- FREQ, mHz; nominal from the AFE start (07 R160, R161). -/
  freq : Nat
  deriving DecidableEq, Repr

/-- `Tracker` at reset. -/
def Tracker.reset : Tracker where
  src := none
  freq := 50000

/-- Quantities of one phase in a complete window (07 R162). -/
structure PhaseRes where
  /-- VRMS, mV (07 R162). [reset: DESIGN CHOICE, log 9] -/
  vrms : Nat
  /-- IRMS, mA (07 R162). [reset: DESIGN CHOICE, log 9] -/
  irms : Nat
  /-- P_TOT, 0.1 W (07 R162). [reset: DESIGN CHOICE, log 9] -/
  pTot : Int
  /-- P_FUND, 0.1 W (07 R162). [reset: DESIGN CHOICE, log 9] -/
  pFund : Int
  /-- Q_FUND, 0.1 var (07 R162). [reset: DESIGN CHOICE, log 9] -/
  qFund : Int
  /-- S_TOT, 0.1 VA (07 R162). [reset: DESIGN CHOICE, log 9] -/
  sTot : Nat
  /-- S_FUND, 0.1 VA (07 R162). [reset: DESIGN CHOICE, log 9] -/
  sFund : Nat
  /-- THD of the current, 0.01 % (07 R162). [reset: DESIGN CHOICE, log 9] -/
  thdI : Nat
  /-- CLIP_V (07 Table 7.6). -/
  clipV : Bool
  /-- CLIP_I (07 Table 7.6). -/
  clipI : Bool
  deriving DecidableEq, Repr

/-- `PhaseRes` at reset. -/
def PhaseRes.reset : PhaseRes where
  vrms := 0
  irms := 0
  pTot := 0
  pFund := 0
  qFund := 0
  sTot := 0
  sFund := 0
  thdI := 0
  clipV := false
  clipI := false

/-- One feeder in the last complete window (07 R164). -/
structure FeederWin where
  /-- L1, L2, L3, N (07 R164). [reset: DESIGN CHOICE, log 9] -/
  phases : List PhaseRes
  /-- FLAGS.CLIP (07 Table 7.6). -/
  clip : Bool
  /-- FLAGS.SUBST (07 Table 7.6). -/
  subst : Bool
  deriving DecidableEq, Repr

/-- `FeederWin` at reset. -/
def FeederWin.reset : FeederWin where
  phases := List.replicate 4 PhaseRes.reset
  clip := false
  subst := false

/-- One residual current source (07 R166). -/
structure Residual where
  /-- last window's residual, mA (07 R166). [reset: DESIGN CHOICE, log 9] -/
  rms : Nat
  /-- RES_WARN (07 R166). -/
  warn : Bool
  /-- RES_ALARM (07 R166). -/
  alarm : Bool
  /-- consecutive windows above (or below 80 %) of the warning threshold (07 R166). -/
  warnRun : Nat
  /-- the same for the alarm threshold (07 R166). -/
  alarmRun : Nat
  deriving DecidableEq, Repr

/-- `Residual` at reset. -/
def Residual.reset : Residual where
  rms := 0
  warn := false
  alarm := false
  warnRun := 0
  alarmRun := 0

/-- Power-quality state of a V channel (07 R165). -/
structure PqChan where
  /-- 0 none, 1 dip, 2 swell in progress (07 Table 7.7). -/
  kind : Nat
  /-- start tick (07 R165). [reset: DESIGN CHOICE, log 9] -/
  start : Nat
  /-- extreme RMS, mV (07 R165). [reset: DESIGN CHOICE, log 9] -/
  extreme : Nat
  /-- sum of squares of the present half cycle (07 Table 7.7). -/
  half : Rat
  /-- its sample count (07 Table 7.7). -/
  halfN : Nat
  /-- last half-cycle RMS, mV (07 Table 7.7). [reset: DESIGN CHOICE, log 9] -/
  halfRms : Nat
  /-- 200 ms voltage, mV (07 Table 7.7). [reset: DESIGN CHOICE, log 9] -/
  v200 : Nat
  /-- windows in the present 3 s value (07 Table 7.7). -/
  n3s : Nat
  /-- sum of squares of those windows (07 Table 7.7). -/
  sq3s : Nat
  /-- last 3 s voltage, mV (07 Table 7.7). [reset: DESIGN CHOICE, log 9] -/
  v3s : Nat
  /-- windows in the present 10 min value (07 Table 7.7). -/
  n10m : Nat
  /-- sum of squares of those windows (07 Table 7.7). -/
  sq10m : Nat
  /-- last 10 min voltage, mV (07 Table 7.7). [reset: DESIGN CHOICE, log 9] -/
  v10m : Nat
  /-- 10 min values in the present 2 h value (07 Table 7.7). -/
  n2h : Nat
  /-- sum of squares of those values (07 Table 7.7). -/
  sq2h : Nat
  /-- last 2 h voltage, mV (07 Table 7.7). [reset: DESIGN CHOICE, log 9] -/
  v2h : Nat
  /-- the present 3 s value contains a dip, swell or interruption (07 Table 7.7). -/
  cur3s : Bool
  /-- the present 10 min values contain one (07 Table 7.7). -/
  cur10m : Bool
  /-- the present 2 h value contains one (07 Table 7.7). -/
  cur2h : Bool
  /-- flag of the last 3 s value (07 Table 7.7). [reset: DESIGN CHOICE, log 9] -/
  flag3s : Bool
  /-- flag of the last 10 min values: voltage, harmonics, THD, and unbalance of the supply (07 Table 7.7). [reset: DESIGN CHOICE, log 9] -/
  flag10m : Bool
  /-- flag of the last 2 h value (07 Table 7.7). [reset: DESIGN CHOICE, log 9] -/
  flag2h : Bool
  /-- 200 ms THD, 0.01 % (07 Table 7.7). [reset: DESIGN CHOICE, log 9] -/
  thd200 : Nat
  /-- sum of squares of the THD of the present 10 min value (07 Table 7.7). -/
  thdSum : Nat
  /-- last 10 min THD, 0.01 % (07 Table 7.7). [reset: DESIGN CHOICE, log 9] -/
  thd10m : Nat
  deriving DecidableEq, Repr

/-- `PqChan` at reset. -/
def PqChan.reset : PqChan where
  kind := 0
  start := 0
  extreme := 0
  half := 0
  halfN := 0
  halfRms := 0
  v200 := 0
  n3s := 0
  sq3s := 0
  v3s := 0
  n10m := 0
  sq10m := 0
  v10m := 0
  n2h := 0
  sq2h := 0
  v2h := 0
  cur3s := false
  cur10m := false
  cur2h := false
  flag3s := false
  flag10m := false
  flag2h := false
  thd200 := 0
  thdSum := 0
  thd10m := 0

/-- One energy register (07 R168). -/
structure Reg where
  /-- accumulator, 10^-4 of the unit (07 R168). -/
  acc : Int
  /-- remainder below one unit (07 R168). -/
  rem : Rat
  deriving DecidableEq, Repr

/-- `Reg` at reset. -/
def Reg.reset : Reg where
  acc := 0
  rem := 0

/-- A calibration slot under way (07 Table 7.4). -/
structure CalSlot where
  /-- channel (07 R158). -/
  ch : Nat
  /-- spare converter of the slot (07 Table 7.4). -/
  spare : Nat
  /-- the channel's own converter (07 Table 7.4). -/
  own : Nat
  /-- model clock tick of the slot start (07 Table 7.4). -/
  at_ : Nat
  /-- 0 spare on the reference, 1 parallel, 2 own on the reference, 3 parallel again (07 Table 7.4). -/
  step : Nat
  /-- what the slot reads (07 R158). -/
  meas : CalMeas
  deriving DecidableEq, Repr

/-- Estimated-energy accumulator of a lantern (07 R180). -/
structure LanternAcc where
  /-- lantern reference (07 R180). -/
  node : U32
  /-- 10^-4 Wh; an estimate below 0 lowers it (07 R180). -/
  acc : Int
  /-- remainder below one unit (07 R180). -/
  rem : Rat
  deriving DecidableEq, Repr

/-- A group override (13 R346). -/
structure Override where
  /-- group index (13 R346). -/
  group : Nat
  /-- LEVEL (13 R346). -/
  level : Nat
  /-- FADE (13 R346). -/
  fade : Nat
  /-- first round in force (13 R346). -/
  start : Nat
  /-- rounds still to count down; none: until cleared (13 R346). -/
  remaining : Option Nat
  /-- round from which it is ended by 0x0720 (13 R346). -/
  stop : Option Nat
  deriving DecidableEq, Repr

/-- One energy checkpoint copy (01 R15, 03 R75, 07 R171). -/
structure Ckpt where
  /-- the copy is blank, as from the factory (03 R77). -/
  blank : Bool
  /-- its CRC is correct (01 R15). -/
  crcOk : Bool
  /-- round number (03 R75). [reset: DESIGN CHOICE, log 9] -/
  round : Nat
  /-- snapshot tick (03 R75). [reset: DESIGN CHOICE, log 9] -/
  tick : Nat
  /-- a closing checkpoint (03 R77). -/
  closing : Bool
  /-- REASON of a planned stop, 0 for none or a halt (07 Table 7.9). -/
  reason : Nat
  /-- RTC time of the snapshot, UTC (0 when invalid) (07 Table 7.9, 13 R357). [reset: DESIGN CHOICE, log 9] -/
  utc : Nat
  /-- accumulators with remainders (07 R171). -/
  sets : List (List Reg)
  /-- lantern accumulators (07 R171). -/
  lanterns : List LanternAcc
  /-- set-points by loop index (08 R200). -/
  setPoints : List (Nat × Int)
  /-- commanded contactor states (09 R230). -/
  contactors : BitVec 8
  /-- overrides with remaining rounds (13 R346). -/
  overrides : List Override
  /-- edge-action ledger (13 R356). -/
  ledger : List Ledger
  /-- next SEQ of every profile (15 R406). -/
  profSeqs : List (U32 × Nat)
  /-- feeder active powers, 0.1 W (07 Table 7.9). [reset: DESIGN CHOICE, log 9] -/
  powers : List Int
  deriving DecidableEq, Repr

/-- `Ckpt` at reset. -/
def Ckpt.reset : Ckpt where
  blank := true
  crcOk := false
  round := 0
  tick := 0
  closing := false
  reason := 0
  utc := 0
  sets := List.replicate 10 (List.replicate 20 Reg.reset)
  lanterns := []
  setPoints := []
  contactors := 0
  overrides := []
  ledger := []
  profSeqs := []
  powers := List.replicate 8 0

/-- One sample of the capture ring (15 R401). -/
structure SampleRec where
  /-- tick that holds it (15 R401). -/
  tick : Nat
  /-- its instant, TCLK (15 R401). -/
  at_ : Nat
  /-- TCLK to the next sample (07 R155). -/
  weight : Nat
  /-- sample codes (15 R401). -/
  codes : List Int
  deriving DecidableEq, Repr

/-- Suit metering of one lantern (07 R176 to R182). -/
structure SuitNode where
  /-- lantern (07 R176). -/
  node : U32
  /-- suit code (07 R176). -/
  code : Nat
  /-- period start from which the code is in effect (07 R176). -/
  effRound : Nat
  /-- code in effect until then (07 R176). -/
  old : Option Nat
  /-- last k_j, W per 1 % (07 R180). -/
  slope : Option Rat
  /-- last sigma_k (07 R180). -/
  sigma : Rat
  /-- slopes of the last three periods without DEAD (07 R182). -/
  slopes : List Rat
  /-- SFLAGS (07 Table 7.11). -/
  sflags : U16
  /-- P_EST, 0.1 W (07 R181). -/
  pEst : Nat
  /-- CONF, 0.01 % (07 R181). -/
  conf : Nat
  deriving DecidableEq, Repr

/-- One round of a feeder kept by the correlator (07 R179). -/
structure SuitRound where
  /-- round number (07 R179). -/
  round : Nat
  /-- mean three-phase P_TOT over ticks 800 to 7,999, W (07 R179). -/
  p : Rat
  /-- weight 1 (07 R179). -/
  weight : Bool
  /-- constant B_seg the round belongs to (07 R180). -/
  seg : Nat
  /-- commanded level of each coded lantern, 0.01 % (07 R180). -/
  levels : List (U32 × Nat)
  deriving DecidableEq, Repr

/-- Correlator of one feeder (07 R179). -/
structure SuitFeeder where
  /-- sum of the three-phase P_TOT in this round, ticks 800 to 7,999, W (07 R179). -/
  sumP : Rat
  /-- ticks summed (07 R179). -/
  n : Nat
  /-- CLIP or NO_ZC seen in this round (07 R179). -/
  bad : Bool
  /-- changes of commanded level in this period (07 R180). -/
  seg : Nat
  /-- rounds of this period, newest first (07 R179). -/
  rounds : List SuitRound
  /-- levels of the round before (07 R180). -/
  lastLevels : List (U32 × Nat)
  deriving DecidableEq, Repr

/-- `SuitFeeder` at reset. -/
def SuitFeeder.reset : SuitFeeder where
  sumP := 0
  n := 0
  bad := false
  seg := 0
  rounds := []
  lastLevels := []

/-- The newest alive mark (03 R76). -/
structure Alive where
  /-- a mark has been written (03 R76). -/
  valid : Bool
  /-- its tick (03 R76). [reset: DESIGN CHOICE, log 9] -/
  tick : Nat
  /-- feeder active powers, 0.1 W (03 R76). [reset: DESIGN CHOICE, log 9] -/
  powers : List Int
  /-- RTC time of the mark (OFF_DURATION) (03 Table 3.6). [reset: DESIGN CHOICE, log 9] -/
  utc : Nat
  deriving DecidableEq, Repr

/-- `Alive` at reset. -/
def Alive.reset : Alive where
  valid := false
  tick := 0
  powers := List.replicate 8 0
  utc := 0

/-- A gap record (03 Table 3.6). -/
structure GapRec where
  /-- gap number (03 R78). -/
  num : Nat
  /-- its SEQ in the profile of feeder 0 (15 R407). -/
  seq : Nat
  /-- the record (03 Table 3.6). -/
  bytes : List Byte
  deriving DecidableEq, Repr

/-- Metering (07). -/
structure Meter where
  /-- the channels (07 R152). -/
  chans : List MeterChan
  /-- metering runs (07 R171). -/
  running : Bool
  /-- detectors of V0 to V5 (07 R159). -/
  zcs : List Zc
  /-- supplies A and B (07 R160). -/
  trackers : List Tracker
  /-- TCLK of the present window of each supply's channels (07 R162). -/
  winWeight : List Nat
  /-- weighted sums of v x i of the present window, feeder and phase (07 R162). -/
  winP : List Rat
  /-- weighted sums of squares of the feeders' residual samples (07 R166). -/
  winRes : List Rat
  /-- tick that holds the last sample taken (07 R164). [reset: DESIGN CHOICE, log 9] -/
  winTick : Nat
  /-- the present window contains a stretch tick (07 R155). -/
  winStep : Bool
  /-- channels whose converter changed in the present window (07 Table 7.6). -/
  winSubst : List Nat
  /-- TICK of the last complete window (07 R164). [reset: DESIGN CHOICE, log 9] -/
  resTick : Nat
  /-- TIME_STEP of the last complete window (07 Table 7.6). -/
  resStep : Bool
  /-- feeders in the last complete window (07 R164). -/
  feeders : List FeederWin
  /-- feeders 0 to 7, E0, E1 (07 R166). -/
  residuals : List Residual
  /-- power quality of V0 to V5 (07 R165). -/
  pq : List PqChan
  /-- interruption of each supply, start tick, extreme (07 Table 7.7). -/
  interrupts : List (Bool × Nat × Nat)
  /-- last 10 s frequency, mHz (07 Table 7.7). [reset: DESIGN CHOICE, log 9] -/
  freq10 : List Nat
  /-- periods of the present 10 s value (07 Table 7.7). -/
  freqAcc : List (Rat × Nat)
  /-- negative-sequence ratio of the last window (07 Table 7.7). [reset: DESIGN CHOICE, log 9] -/
  unbalance : List Rat
  /-- sums of the ratios of the present 10 min value (07 Table 7.7). -/
  unbSum : List (Rat × Nat)
  /-- ratio of the last 10 min value (07 Table 7.7). [reset: DESIGN CHOICE, log 9] -/
  unb10 : List Rat
  /-- windows in the present 10 min value (07 Table 7.7). -/
  agg10 : Nat
  /-- the present window fell in a replay gap (15 R401). -/
  aggGap : Bool
  /-- sums of the mean phase RMS for U_din (07 R165). -/
  uDinSum : List (Rat × Rat)
  /-- rounds in DECLARER counted for U_din, up to 600 (07 R165). -/
  uDinRounds : Nat
  /-- energy sets 0 to 7, 0x10, 0x11 (07 R167). -/
  sets : List (List Reg)
  /-- absolute mode of each register in force; signed from the factory (07 R169). -/
  absMode : List Bool
  /-- the metrology seal is open; every reset closes it (06 R145). -/
  sealOpen : Bool
  /-- model clock tick at which it opened (06 R145). -/
  sealAt : Nat
  /-- phasor stream enabled (07 R173). [reset: DESIGN CHOICE, log 9] -/
  phEnable : Bool
  /-- IPV of the stream (06 Table 6.8). [reset: DESIGN CHOICE, log 9] -/
  phIpv : Nat
  /-- destination port (06 Table 6.8). [reset: DESIGN CHOICE, log 9] -/
  phPort : U16
  /-- destination address (06 Table 6.8). [reset: DESIGN CHOICE, log 9] -/
  phAddr : List Byte
  /-- SEQ of the next report, from 0 at enable (07 Table 7.10). -/
  phSeq : U32
  /-- the two alternating checkpoint copies (01 Table 1.3). -/
  ckpts : List Ckpt
  /-- checkpoint copy last written and the model clock tick at which its write started (01 R15, 04 Table 4.5). -/
  ckptAt : Option (Nat × Nat)
  /-- newest alive mark (03 R76). -/
  alive : Alive
  /-- gap records held in the profile of feeder 0, oldest first (03 R78). -/
  gaps : List GapRec
  /-- next gap number (03 R78). -/
  gapNext : Nat
  /-- coded lanterns (07 R176). -/
  suit : List SuitNode
  /-- instant (TCLK) and weight of the samples in `hist`, per supply (07 R155). -/
  times : List (List (Nat × Nat))
  /-- instants (TCLK) of the samples of the present window, per supply (07 R155). -/
  winTimes : List (List Nat)
  /-- correlators (07 R179). -/
  suitFeeders : List SuitFeeder
  /-- estimated-energy accumulators (07 R180). -/
  lanterns : List LanternAcc
  /-- channel of the next calibration slot (07 R158). -/
  calNext : Nat
  /-- model clock tick at which the present calibration slot started (07 R158). [the model's own field] -/
  calSince : Nat
  /-- channels to calibrate again after channel 39 (07 R158). -/
  calRedo : List Nat
  /-- spare of the next slot (07 R158). -/
  calSpare : Nat
  /-- calibration slot under way (07 Table 7.4). -/
  calSlot : Option CalSlot
  /-- CAL_HELD (01 R18). -/
  calHeld : Bool
  /-- last offset and gain measured on each converter (07 R158). [reset: DESIGN CHOICE, log 9] -/
  calLast : List (Int × Rat)
  /-- capture ring, newest first (15 R401). -/
  capture : List SampleRec
  /-- metering DSPs lost: the first tick whose item was stopped, and TCLK of the last sample processed (15 R401). -/
  mdStops : List (Nat × Nat × Nat)
  deriving DecidableEq, Repr

/-- `Meter` at reset. -/
def Meter.reset : Meter where
  chans := (List.range 40).map fun n => { MeterChan.reset with conv := n }
  running := false
  zcs := List.replicate 6 Zc.reset
  trackers := List.replicate 2 Tracker.reset
  winWeight := [0, 0]
  winP := List.replicate 24 0
  winRes := List.replicate 8 0
  winTick := 0
  winStep := false
  winSubst := []
  resTick := 0
  resStep := false
  feeders := List.replicate 8 FeederWin.reset
  residuals := List.replicate 10 Residual.reset
  pq := List.replicate 6 PqChan.reset
  interrupts := List.replicate 2 (false, 0, 0)
  freq10 := [0, 0]
  freqAcc := [(0, 0), (0, 0)]
  unbalance := [0, 0]
  unbSum := [(0, 0), (0, 0)]
  unb10 := [0, 0]
  agg10 := 0
  aggGap := false
  uDinSum := [(0, 0), (0, 0)]
  uDinRounds := 0
  sets := List.replicate 10 (List.replicate 20 Reg.reset)
  absMode := List.replicate 20 false
  sealOpen := false
  sealAt := 0
  phEnable := false
  phIpv := 4
  phPort := 0
  phAddr := []
  phSeq := 0
  ckpts := [Ckpt.reset, Ckpt.reset]
  ckptAt := none
  alive := Alive.reset
  gaps := []
  gapNext := 0
  suit := []
  times := [[], []]
  winTimes := [[], []]
  suitFeeders := List.replicate 8 SuitFeeder.reset
  lanterns := []
  calNext := 0
  calSince := 0
  calRedo := []
  calSpare := 40
  calSlot := none
  calHeld := false
  calLast := List.replicate 42 (0, 1)
  capture := []
  mdStops := []

/-- The states of one notch biquad (08 R193). -/
structure Notch where
  /-- x[n-1], source unit with 32 fraction bits (08 R193). [reset: DESIGN CHOICE, log 9] -/
  x1 : Int
  /-- x[n-2] (08 R193). [reset: DESIGN CHOICE, log 9] -/
  x2 : Int
  /-- y[n-1] (08 R193). [reset: DESIGN CHOICE, log 9] -/
  y1 : Int
  /-- y[n-2] (08 R193). [reset: DESIGN CHOICE, log 9] -/
  y2 : Int
  deriving DecidableEq, Repr

/-- `Notch` at reset. -/
def Notch.reset : Notch where
  x1 := 0
  x2 := 0
  y1 := 0
  y2 := 0

/-- A loop at work (08 R191 to R206). -/
structure LoopRt where
  /-- loop index (08 R189). -/
  idx : Nat
  /-- to be initialised in the first tick in which it runs (08 R196). -/
  fresh : Bool
  /-- set-point; none until the first 0x0305 (08 R200). -/
  sp : Option Int
  /-- set-point in force in the last completed control window; none before the first (08 R206). -/
  spWin : Option Int
  /-- set-point first used in the next control window (08 R200). -/
  spNext : Option Int
  /-- notch 1 (08 R193). [reset: DESIGN CHOICE, log 9] -/
  notch1 : Notch
  /-- notch 2 (08 R193). [reset: DESIGN CHOICE, log 9] -/
  notch2 : Notch
  /-- source value before the notches (08 Table 8.10). [reset: DESIGN CHOICE, log 9] -/
  x : Int
  /-- pv, 32 fraction bits (08 R191). [reset: DESIGN CHOICE, log 9] -/
  pv : Int
  /-- pv_prev, 32 fraction bits (08 R191). [reset: DESIGN CHOICE, log 9] -/
  pvPrev : Int
  /-- e, 32 fraction bits (08 R191). [reset: DESIGN CHOICE, log 9] -/
  e : Int
  /-- p, 10^-9 % (08 R191). [reset: DESIGN CHOICE, log 9] -/
  p : Int
  /-- d (08 R191). [reset: DESIGN CHOICE, log 9] -/
  d : Int
  /-- ff (08 R191). [reset: DESIGN CHOICE, log 9] -/
  ff : Int
  /-- the FF source was valid in the last window (08 R194). -/
  ffValid : Bool
  /-- integ, 10^-9 % (08 R196). -/
  integ : Int
  /-- ival (08 R191). [reset: DESIGN CHOICE, log 9] -/
  ival : Int
  /-- pre-limit output (08 R191). [reset: DESIGN CHOICE, log 9] -/
  v : Int
  /-- the loop's u (08 R191). [reset: DESIGN CHOICE, log 9] -/
  u : Int
  /-- excluded in the last window (08 R188). -/
  excluded : Bool
  /-- saturation timer, ticks (08 R203). -/
  satTicks : Nat
  /-- consecutive ticks unsaturated against the safe release (08 R203). -/
  unsatTicks : Nat
  /-- LFLAGS; NO_SP resets to 1 (08 Table 8.8). -/
  lflags : U32
  /-- MODE (08 Table 8.8). -/
  modeCode : Nat
  /-- frozen while its pair is lost (01 R13). -/
  held : Bool
  /-- bank active before a swap whose first window is still to come (08 R204). -/
  swapFrom : Option Bank
  deriving DecidableEq, Repr

/-- `LoopRt` at reset. -/
def LoopRt.reset : LoopRt where
  idx := 0
  fresh := true
  sp := none
  spWin := none
  spNext := none
  notch1 := Notch.reset
  notch2 := Notch.reset
  x := 0
  pv := 0
  pvPrev := 0
  e := 0
  p := 0
  d := 0
  ff := 0
  ffValid := false
  integ := 0
  ival := 0
  v := 0
  u := 0
  excluded := true
  satTicks := 0
  unsatTicks := 0
  lflags := 0x100
  modeCode := 0
  held := false
  swapFrom := none

/-- One loop output (08 R195 to R203). -/
structure OutRt where
  /-- OUTPUT code (08 Table 8.1). -/
  code : Nat
  /-- released value before rounding (y_prev), 10^-9 % (08 R191). [reset: DESIGN CHOICE, log 9] -/
  y : Int
  /-- KIND of the winner (08 Table 8.8 WINNER). -/
  winKind : Nat
  /-- loop index of the winner, 64 for none (08 R195). -/
  winIdx : Nat
  /-- ticks with every loop excluded (08 R197). -/
  exclTicks : Nat
  /-- 0 none, 1 every loop excluded, 2 saturation (08 R197, R203). -/
  safeRel : Nat
  /-- loop whose saturation released the output (08 R203). -/
  relLoop : Nat
  deriving DecidableEq, Repr

/-- `OutRt` at reset. -/
def OutRt.reset : OutRt where
  code := 0
  y := 0
  winKind := 0
  winIdx := 64
  exclTicks := 0
  safeRel := 0
  relLoop := 64

/-- A bank swap waiting for its tick (08 R204). -/
structure PendSwap where
  /-- GROUP (08 R204). -/
  group : Nat
  /-- the 0x0304 (08 R205). -/
  tok : OpTok
  /-- SWAP_TICK (08 R204). -/
  tick : Nat
  /-- 0x0303 writes read after the 0x0304 (08 Table 8.7). -/
  late : List (Nat × Bank)
  /-- the banks are exchanged and the commit waits for the round boundary (08 Table 8.7). -/
  taken : Bool
  deriving DecidableEq, Repr

/-- A talon trace (08 R210 to R212). -/
structure Trace where
  /-- SRC; 0 not configured (08 R210). [reset: DESIGN CHOICE, log 9] -/
  src : Nat
  /-- loop index (08 R210). [reset: DESIGN CHOICE, log 9] -/
  loop : Nat
  /-- DECIM (08 R210). [reset: DESIGN CHOICE, log 9] -/
  decim : Nat
  /-- TRIG (08 R211). [reset: DESIGN CHOICE, log 9] -/
  trig : Nat
  /-- PRE, % (08 R211). [reset: DESIGN CHOICE, log 9] -/
  pre : Nat
  /-- LEVEL (08 R211). [reset: DESIGN CHOICE, log 9] -/
  level : Int
  /-- 0 idle, 1 armed, 2 triggered, 3 stopped (08 R211). -/
  phase : Nat
  /-- model clock tick from which it records (08 R211). -/
  armTick : Nat
  /-- MASK of the arming command (08 R211). -/
  mask : BitVec 8
  /-- samples, newest first (08 R211). -/
  samples : List Int
  /-- TRIG_TICK (08 R212). -/
  trigTick : Nat
  /-- samples still to record after the trigger (08 R211). -/
  after : Nat
  /-- winner at the last recorded tick (08 Table 8.11). -/
  lastWin : Nat
  /-- SAT_EXP at the last recorded tick (08 Table 8.11). -/
  lastExp : Bool
  /-- exclusion at the last recorded tick (08 Table 8.11). -/
  lastExcl : Bool
  /-- a bank swap of the loop's group took force since the last sample (08 Table 8.11). -/
  swapped : Bool
  deriving DecidableEq, Repr

/-- `Trace` at reset. -/
def Trace.reset : Trace where
  src := 0
  loop := 64
  decim := 1
  trig := 0
  pre := 0
  level := 0
  phase := 0
  armTick := 0
  mask := 0
  samples := []
  trigTick := 0
  after := 0
  lastWin := 64
  lastExp := false
  lastExcl := false
  swapped := false

/-- The control input buffer published at cycle 1,824 (07 R163, 08 Table 8.3). -/
structure Cib where
  /-- feeder P_TOT, 0.1 W (08 Table 8.3). [reset: DESIGN CHOICE, log 9] -/
  feederP : List Int
  /-- feeder P_TOT per phase, 0.1 W (08 Table 8.3). [reset: DESIGN CHOICE, log 9] -/
  phaseP : List Int
  /-- feeder IRMS per phase, mA (08 Table 8.3). [reset: DESIGN CHOICE, log 9] -/
  phaseI : List Int
  /-- supply VRMS, mV (08 Table 8.3). [reset: DESIGN CHOICE, log 9] -/
  supplyV : List Int
  /-- supply |V1|, mV (08 Table 8.3). [reset: DESIGN CHOICE, log 9] -/
  supplyV1 : List Int
  /-- supply frequency, mHz (08 Table 8.3). [reset: DESIGN CHOICE, log 9] -/
  freq : List Int
  /-- supply NO_ZC (08 Table 8.3). -/
  noZc : List Bool
  /-- analogue inputs (08 Table 8.3). [reset: DESIGN CHOICE, log 9] -/
  ai : List Int
  /-- analogue inputs valid (08 Table 8.3). -/
  aiValid : List Bool
  /-- light-sensor channels (08 Table 8.3). [reset: DESIGN CHOICE, log 9] -/
  light : List Int
  /-- light sensors valid (08 Table 8.3). -/
  lightValid : List Bool
  /-- stage temperatures, 0.1 C; none: no valid return in the previous tick (08 Table 8.3). -/
  temp : List (Option Int)
  /-- lowest headroom among active strings, mV (08 Table 8.3). -/
  headroom : Option Int
  /-- VLED_SNS, mV (08 Table 8.3). [reset: DESIGN CHOICE, log 9] -/
  vled : Int
  /-- digital inputs (08 Table 8.3). [reset: DESIGN CHOICE, log 9] -/
  di : U16
  deriving DecidableEq, Repr

/-- `Cib` at reset. -/
def Cib.reset : Cib where
  feederP := List.replicate 8 0
  phaseP := List.replicate 24 0
  phaseI := List.replicate 24 0
  supplyV := List.replicate 6 0
  supplyV1 := List.replicate 6 0
  freq := [0, 0]
  noZc := [true, true]
  ai := List.replicate 8 0
  aiValid := List.replicate 8 false
  light := List.replicate 32 0
  lightValid := List.replicate 8 false
  temp := List.replicate 32 none
  headroom := none
  vled := 0
  di := 0

/-- A foreground item stopped in consecutive ticks (04 R89). -/
structure ItemStop where
  /-- engine code (04 R89). -/
  engine : Nat
  /-- item (04 R89). -/
  item : Nat
  /-- model clock tick of its last stop (04 R89). -/
  last : Nat
  /-- ticks in a row (04 R89). -/
  count : Nat
  /-- tick number of its first stop (15 R401). -/
  first : Nat
  deriving DecidableEq, Repr

/-- Control engine (08). -/
structure Ctl where
  /-- loops at work (08 R185). -/
  loops : List LoopRt
  /-- outputs with a loop or a driven device (08 R184). -/
  outs : List OutRt
  /-- applied cap of each node feeder (08 R202). -/
  caps : List Nat
  /-- cap released in the last tick of the round (08 R202). -/
  capsC : List Nat
  /-- control input buffer (07 R163). -/
  cib : Cib
  /-- bank swaps pending (08 R204). -/
  swaps : List PendSwap
  /-- seat in force: output code and slice pair (15 R394). -/
  seats : List (Nat × Nat)
  /-- talon traces of CP0 to CP3 (08 R210). -/
  traces : List (List Trace)
  /-- tick state received for the next tick (dummy) (08 R208). -/
  shadowIn : Option TickState
  /-- largest foreground count measured in the last round, per engine code (04 R90). -/
  fgMax : List (Nat × Nat)
  /-- the next control window is the first since the entry to DECLARER from BOOT (03 R63, 08 R196). -/
  first : Bool
  /-- items stopped in consecutive ticks (04 R89). -/
  stops : List ItemStop
  /-- elements, as kind and index, that failed from cycle 24,000 of the present round's last tick: their substitution waits one boundary more (04 R93). -/
  lateFail : List (Nat × Nat)
  deriving DecidableEq, Repr

/-- `Ctl` at reset. -/
def Ctl.reset : Ctl where
  loops := []
  outs := []
  caps := List.replicate 8 10000
  capsC := List.replicate 8 10000
  cib := Cib.reset
  swaps := []
  seats := []
  traces := List.replicate 4 (List.replicate 8 Trace.reset)
  shadowIn := none
  fgMax := []
  first := false
  stops := []
  lateFail := []

/-- A stage report (09 Table 9.4). -/
structure Report where
  /-- HELD_CLAIM (09 Table 9.4). -/
  held : U32
  /-- TEMP, 0.1 C (09 Table 9.4). -/
  temp : Int
  /-- SAFE (09 Table 9.4). -/
  safe : Nat
  /-- AT_SAFE (09 Table 9.4). -/
  atSafe : Bool
  /-- HOLDING (09 Table 9.4). -/
  holding : Bool
  /-- FAULT (09 Table 9.4). -/
  fault : Nat
  deriving DecidableEq, Repr

/-- A safe-level store sequence (09 R224). -/
structure StageStore where
  /-- level to store (09 R224). -/
  safe : Nat
  /-- 0 to send STORE_ARM, 1 to send the level, 2 waiting for the report (09 R224). -/
  phase : Nat
  /-- runs done (09 R224). -/
  runs : Nat
  /-- model clock tick of the last frame of the sequence (09 R224). -/
  sentTick : Nat
  /-- the 0x040A to notify (09 R224). -/
  tok : Option OpTok
  deriving DecidableEq, Repr

/-- An output stage as seen by the module (09 R217, R226). -/
structure StageRt where
  /-- LINK (09 R226). -/
  link : Nat
  /-- ADDR (09 R226). -/
  addr : Nat
  /-- last valid report (09 R217). -/
  report : Option Report
  /-- ticks with a frame sent since the last full report (09 Table 9.5). -/
  repAge : Nat
  /-- nibbles of the snapshot being received, from nibble 0 (09 R217). -/
  nibs : List (BitVec 4)
  /-- model clock tick of the frame that the last of them answered (09 R217). -/
  nibAt : Nat
  /-- LAST_TICK (09 Table 9.5). -/
  lastTick : Nat
  /-- STAT.APPLIED (09 Table 9.5). -/
  applied : Bool
  /-- STAT.OUTBID (09 Table 9.5). -/
  outbid : Bool
  /-- model clock tick of the last reply with OUTBID 1 (09 R229). -/
  outbidTick : Option Nat
  /-- STAT.SILENT (09 R227). -/
  silent : Bool
  /-- ticks with a frame sent and no valid reply in a row (09 R227). -/
  silentRun : Nat
  /-- tick number in the last frame sent and not yet answered (09 R227). -/
  sent : Option Nat
  /-- model clock tick at which the last frame was sent (09 R216, R227). -/
  sentAt : Option Nat
  /-- ERR.MISSING (09 Table 9.5). -/
  missing : Nat
  /-- ERR.REFUSED (09 Table 9.5). -/
  refused : Nat
  /-- VALUE of the last frame sent (09 R218). [reset: DESIGN CHOICE, log 9] -/
  value : Nat
  /-- store sequence under way (09 R224). -/
  store : Option StageStore
  /-- round of the last store sequence without a notice (09 R224). [reset: DESIGN CHOICE, log 9] -/
  autoRound : Nat
  deriving DecidableEq, Repr

/-- `StageRt` at reset. -/
def StageRt.reset : StageRt where
  link := 0
  addr := 0
  report := none
  repAge := 33
  nibs := []
  nibAt := 0
  lastTick := 0
  applied := false
  outbid := false
  outbidTick := none
  silent := false
  silentRun := 0
  sent := none
  sentAt := none
  missing := 0
  refused := 0
  value := 0
  store := none
  autoRound := 0

/-- A contactor driver (09 R228 to R230). -/
structure Contactor where
  /-- commanded state (energised) (09 R230). -/
  want : Bool
  /-- output energised (09 R228). -/
  on : Bool
  /-- model clock tick of the last change the dwell counts from (09 R230). -/
  lastChange : Option Nat
  /-- trips in a row (09 R230). -/
  trips : Nat
  /-- off after a trip, to be retried at the next round (09 R230). -/
  tripped : Bool
  /-- off after 8 trips until the next command (09 R230). -/
  blocked : Bool
  /-- model clock tick from which the commanded state may take force (09 R230). -/
  due : Nat
  /-- open load while on, its event recorded (02 Table 2.10). -/
  openLoad : Bool
  /-- commanded on with VCT below 15 V, its event recorded (02 R43). -/
  vctLow : Bool
  deriving DecidableEq, Repr

/-- `Contactor` at reset. -/
def Contactor.reset : Contactor where
  want := false
  on := false
  lastChange := none
  trips := 0
  tripped := false
  blocked := false
  due := 0
  openLoad := false
  vctLow := false

/-- A string at work (09 R234 to R243). -/
structure StringRt where
  /-- commanded level, 0.01 %; the stored safe level until the first 0x0405 (09 R235). -/
  level : Rat
  /-- level the fade moves to (09 R235). -/
  target : Nat
  /-- change per tick of the fade (09 R235). -/
  stepPer : Rat
  /-- ticks of fade left (09 R235). -/
  fadeLeft : Nat
  /-- a 0x0405 has been received (09 R235). -/
  set : Bool
  /-- duty code D in force (09 R234). -/
  duty : Nat
  /-- duty code for the next period (09 R234). -/
  dutyNext : Nat
  /-- OPEN (09 R241). -/
  open_ : Bool
  /-- LED_SHORT (09 R242). -/
  short : Bool
  /-- DERATED (09 R237). -/
  derated : Bool
  /-- ADJ_SHORT (09 R243). -/
  adj : Bool
  /-- SUPPLY_FAULT (09 R240). -/
  supplyFault : Bool
  /-- failing windows in a row (09 R241). -/
  failRun : Nat
  /-- good windows in a row (09 R241). -/
  goodRun : Nat
  /-- windows above (or below) the LED_SHORT threshold in a row (09 R242). -/
  shortRun : Nat
  /-- last headroom, mV (09 R240). -/
  headroom : Option Int
  /-- model clock tick of the last headroom (09 R240). -/
  headAt : Nat
  /-- model clock tick since which D has stayed from 1 to 314, or of the last probe (09 R242). -/
  lowSince : Option Nat
  /-- current in force after derating, mA (09 R237). [reset: DESIGN CHOICE, log 9] -/
  currentMa : Rat
  /-- MAX_MA in the MRAM table (09 R236). [reset: DESIGN CHOICE, log 9] -/
  tableMa : Nat
  /-- safe level in the MRAM table (09 R236). -/
  tableSafe : Nat
  /-- the table entry's CRC is correct (09 R236). [reset: DESIGN CHOICE, log 9] -/
  tableOk : Bool
  deriving DecidableEq, Repr

/-- `StringRt` at reset. -/
def StringRt.reset : StringRt where
  level := 10000
  target := 10000
  stepPer := 0
  fadeLeft := 0
  set := false
  duty := 0
  dutyNext := 0
  open_ := false
  short := false
  derated := false
  adj := false
  supplyFault := false
  failRun := 0
  goodRun := 0
  shortRun := 0
  headroom := none
  headAt := 0
  lowSince := none
  currentMa := 0
  tableMa := 0
  tableSafe := 10000
  tableOk := true

/-- Store blocks still to send (09 R248). -/
structure ChainStore where
  /-- PORT (09 R248). -/
  port : Nat
  /-- position (09 R248). -/
  pos : Nat
  /-- SAFE, 0.01 % (09 R248). -/
  safe : Nat
  /-- frames still to send (09 R248). -/
  left : Nat
  /-- the 0x040A to notify (09 R248). -/
  tok : Option OpTok
  deriving DecidableEq, Repr

/-- A Sifichain port (09 R244 to R248). -/
structure ChainRt where
  /-- host levels by position (09 R248). [reset: DESIGN CHOICE, log 9] -/
  levels : List (List U16)
  /-- frame count (09 R247). [reset: DESIGN CHOICE, log 9] -/
  frames : U64
  /-- CHAIN_OPEN (09 R247). -/
  open_ : Bool
  /-- CHAIN_FAULT (09 R247). -/
  fault : Bool
  /-- devices missing (09 R247). -/
  missing : Nat
  /-- enumeration frame asked for by 0x0406 (09 R248). -/
  enum : Option OpTok
  /-- the enumeration frame has been sent (09 R248). -/
  enumSent : Bool
  /-- a frame has been sent whose return is not yet checked (09 R247). -/
  sent : Bool
  /-- blocks of that frame (09 R247). -/
  sentBlocks : Nat
  /-- FOUND of an enumeration whose notice waits for its store (09 R248). -/
  found : Option Nat
  deriving DecidableEq, Repr

/-- `ChainRt` at reset. -/
def ChainRt.reset : ChainRt where
  levels := List.replicate 512 [0, 0, 0, 0]
  frames := 0
  open_ := false
  fault := false
  missing := 0
  enum := none
  enumSent := false
  sent := false
  sentBlocks := 0
  found := none

/-- One light sensor (09 R251). -/
structure LightRt where
  /-- last counts (09 R251). [reset: DESIGN CHOICE, log 9] -/
  vals : List Int
  /-- the last read was good (09 R251). -/
  valid : Bool
  /-- model clock tick at which the present read started (09 R251). -/
  started : Option Nat
  /-- counts that the present read has given (09 R251). -/
  got : Option (List Int)
  deriving DecidableEq, Repr

/-- `LightRt` at reset. -/
def LightRt.reset : LightRt where
  vals := [0, 0, 0, 0]
  valid := false
  started := none
  got := none

/-- Outputs, stages and direct drive (09). -/
structure Outs where
  /-- configured stages (09 R217). -/
  stages : List StageRt
  /-- link termination; on from reset (09 R225). -/
  term : List Bool
  /-- CT0 to CT7 (09 R228). -/
  contactors : List Contactor
  /-- DI0 to DI15 as sampled (09 R231). [reset: DESIGN CHOICE, log 9] -/
  di : U16
  /-- AI0 to AI7 (uV, nA or mC) (09 R231). [reset: DESIGN CHOICE, log 9] -/
  ai : List Int
  /-- first tick after a mode change: not valid as a source (09 R232). -/
  aiBad : List Bool
  /-- LS0 to LS15 (09 R233). -/
  strings : List StringRt
  /-- ASC_CTL in 0.01 % of 2.0 V; none high-impedance (09 R239). -/
  ascCtl : Option Nat
  /-- ASC_INH; none high-impedance (09 R239). -/
  ascInh : Option Bool
  /-- VLED_SNS, mV (08 Table 8.3). [reset: DESIGN CHOICE, log 9] -/
  vled : Int
  /-- rounds since the last adjacent-short test (09 R243). -/
  adjRound : Nat
  /-- pins n shorted to pin n + 1 (09 R243). -/
  adjPairs : List Nat
  /-- Sifichain ports (09 R244). -/
  chains : List ChainRt
  /-- store blocks to send (09 R248). -/
  chainStores : List ChainStore
  /-- sensor 2b + s on bus b (09 R251). -/
  lights : List LightRt
  /-- the sinks run (from the first PWM period of a declarer) (09 R238). -/
  sinksOn : Bool
  /-- a new declarer must free the light-sensor buses before its reads (02 Table 2.11). -/
  busFree : Bool
  /-- first slot of the takeover tick this module serves (14 R376). -/
  k0 : Nat
  /-- the takeover tick (14 R376). -/
  takeoverTick : Option Nat
  deriving DecidableEq, Repr

/-- `Outs` at reset. -/
def Outs.reset : Outs where
  stages := []
  term := [true, true]
  contactors := List.replicate 8 Contactor.reset
  di := 0
  ai := List.replicate 8 0
  aiBad := List.replicate 8 false
  strings := List.replicate 16 StringRt.reset
  ascCtl := none
  ascInh := none
  vled := 0
  adjRound := 0
  adjPairs := []
  chains := List.replicate 2 ChainRt.reset
  chainStores := []
  lights := List.replicate 8 LightRt.reset
  sinksOn := false
  busFree := false
  k0 := 0
  takeoverTick := none

/-- Replay state of a neighbour under one key generation (10 R266). -/
structure Nbr where
  /-- key generation (10 R266). -/
  gen : Nat
  /-- highest accepted counter (10 R266). -/
  hi : Nat
  /-- window (10 R266). -/
  win : U64
  deriving DecidableEq, Repr

/-- A radio association (10 R268 to R281). -/
structure Assoc where
  /-- node (10 R281). -/
  node : U32
  /-- short address (10 R260). -/
  short : Nat
  /-- NSTATE (10 Table 10.11). -/
  nstate : Nat
  /-- PORT in use (06 Table 6.11). -/
  port : Nat
  /-- HOPS (10 R280). -/
  hops : Nat
  /-- PARENT, a node reference; 0 for the module (06 Table 6.11). -/
  parent : U32
  /-- LEVEL last acknowledged (06 Table 6.11). -/
  level : Nat
  /-- round named by the last LEVEL_ACK (10 R284). -/
  ackRound : Nat
  /-- RSSI, dBm (06 Table 6.11). -/
  rssi : Int
  /-- LAST_TICK (06 Table 6.11). -/
  lastTick : Nat
  /-- model clock tick of the last valid frame (10 R274). -/
  heard : Nat
  /-- parameters in force (10 R268). -/
  params : ConnParams
  /-- new parameters with INSTANT, as an event number (10 R275). -/
  next : Option (ConnParams × Nat)
  /-- event counter of the last event served (10 R269). -/
  evCount : Nat
  /-- replay state per key generation (10 R266). -/
  nbrs : List Nbr
  /-- lowest counter accepted after a restart, per key generation (10 R267). -/
  floors : List (Nat × Nat)
  /-- widening of the module's listening at the last event served, ppm x us (10 R270, R273). -/
  window : Nat
  /-- CSCA (10 Table 10.13). -/
  csca : Nat
  /-- MAX_PSDU (10 Table 10.13). -/
  maxPsdu : Nat
  /-- MAX_CHILD given (10 R279). -/
  maxChild : Nat
  /-- LEAVE sent; the record goes when it is acknowledged or lost (10 R281, R293). -/
  leaving : Bool
  /-- the node record is removed too (10 R281, R293). -/
  removeRec : Bool
  /-- NFLAGS of its last STATUS (10 Table 10.13). -/
  nflags : U16
  deriving DecidableEq, Repr

/-- A frame held for its connection (10 R271). -/
structure TxFrame where
  /-- receiver at the end of the path (10 R271). -/
  node : U32
  /-- message code; 0 an empty DATA frame (10 Table 10.13). -/
  msg : Nat
  /-- fields of the message (10 Table 10.13). -/
  payload : List Byte
  /-- transmit class (10 Table 10.3). -/
  cls : Nat
  /-- SEQ (10 Table 10.4). -/
  seq : U16
  /-- times sent in the present event (10 R271). -/
  inEvent : Nat
  /-- times sent in all (10 R271). -/
  total : Nat
  /-- sent, its acknowledgement awaited (10 R271). -/
  waiting : Bool
  /-- TAG, INDEX and COUNT of a fragment (10 Table 10.4). -/
  frag : Option (Nat × Nat × Nat)
  /-- ORIGIN: 0 the module, else the node whose frame it forwards (10 Table 10.4, R280). -/
  origin : Nat
  /-- TYPE 3 CTRL, else 0 DATA (10 Table 10.5). -/
  ctrl : Bool
  deriving DecidableEq, Repr

/-- An answer to a node that has not joined, waiting for its sub-band (10 R256, R278). -/
structure JoinOut where
  /-- port (10 R278). -/
  port : Nat
  /-- message code (10 Table 10.13). -/
  msg : Nat
  /-- fields of the message (10 Table 10.13). -/
  fields : List Byte
  /-- EUI-64 of the node (10 R263). -/
  eui : List Byte
  /-- model clock tick of the JOIN_REQ (10 R278). -/
  since : Nat
  deriving DecidableEq, Repr

/-- Replay state of a node under its join key (10 R263, R266). -/
structure JoinNbr where
  /-- EUI-64 of the node (10 R263). -/
  eui : List Byte
  /-- highest accepted counter and window under KEY 63 (10 R266). -/
  nbr : Nbr
  /-- lowest counter accepted after a restart (10 R267). -/
  floor : Nat
  deriving DecidableEq, Repr

/-- A replica sent on a session, part by part (10 R289). -/
structure ReplicaOut where
  /-- SEGMENT (10 Table 10.14). -/
  seg : U32
  /-- VERSION (10 Table 10.14). -/
  version : U32
  /-- its items with their parts (10 R288). -/
  items : List (Nat × CfgItem)
  /-- parts not acknowledged, with the model clock tick of their last sending (10 R289). -/
  unacked : List (Nat × Nat)
  deriving DecidableEq, Repr

/-- Duty-cycle account of a sub-band (10 R256). -/
structure DutyAcc where
  /-- 1 RF-A, 2 RF-B (10 Table 10.2). -/
  port : Nat
  /-- sub-band (10 Table 10.2). -/
  sub : Nat
  /-- airtime per round, us, newest first (10 R256). -/
  sums : List Nat
  /-- above 90 % of its budget and not yet below 80 % (10 R257). -/
  overAlarm : Bool
  deriving DecidableEq, Repr

/-- A Lernas reassembly (10 R262). -/
structure FragAsm where
  /-- SRC, or ORIGIN of a routed frame (10 R262). -/
  src : Nat
  /-- TAG (10 R262). -/
  tag : U16
  /-- COUNT of the first fragment (10 R262). -/
  count : Nat
  /-- fragments by INDEX (10 R262). -/
  parts : List (Nat × List Byte)
  /-- model clock tick of the first fragment (10 R262). -/
  since : Nat
  deriving DecidableEq, Repr

/-- One of the two peer sessions (10 R288, R289). -/
structure PeerSess where
  /-- SEGn (06 Table 6.11). -/
  seg : U32
  /-- ADDRn (06 Table 6.11). -/
  addr : List Byte
  /-- session open (10 R288). -/
  up : Bool
  /-- model clock tick of our handshake step 1 (10 R289). -/
  hsSince : Option Nat
  /-- SESSION_ID (05 Table 5.8). -/
  sid : U32
  /-- highest accepted SEQ (05 R128). -/
  rxHi : Nat
  /-- accepted SEQ values above rxHi - 64 (05 R128). -/
  rxSeen : List Nat
  /-- last SEQ sent (05 R128). -/
  txSeq : Nat
  /-- model clock tick of the last datagram received (10 R288). -/
  lastRx : Nat
  /-- model clock tick of the last datagram sent (10 R289). -/
  lastTx : Nat
  /-- silent for 300 s (10 R288). -/
  silent : Bool
  /-- version last sent (10 R288). -/
  sentVer : U32
  /-- model clock tick of the last replica (10 R288). -/
  sentAt : Nat
  /-- replicas sent on the session, their parts and those not acknowledged (10 R289). -/
  outs : List ReplicaOut
  /-- volatile key slots held (16 R436). -/
  slots : List Nat
  /-- ephemeral share of our handshake step 1 (05 Table 5.8). -/
  hsShare : List Byte
  /-- nonce of our handshake step 1 (05 Table 5.8). -/
  hsNonce : List Byte
  /-- the session's keys and salts (05 R127). -/
  keys : GcmKeys
  deriving DecidableEq, Repr

/-- A peer replica held (10 R289). -/
structure Replica where
  /-- SEGMENT (10 Table 10.14). -/
  seg : U32
  /-- OWNER_ID (10 Table 10.14). -/
  owner : List Byte
  /-- VERSION (10 Table 10.14). -/
  version : U32
  /-- sender's address (10 Table 10.14). -/
  addr : List Byte
  /-- configuration items, once complete (10 R288). -/
  items : List CfgItem
  deriving DecidableEq, Repr

/-- A replica whose parts are arriving (10 R289). -/
structure ReplicaAsm where
  /-- SEGMENT (10 Table 10.14). -/
  seg : U32
  /-- VERSION (10 Table 10.14). -/
  version : U32
  /-- COUNT (10 Table 10.14). -/
  count : Nat
  /-- OWNER_ID (10 Table 10.14). -/
  owner : List Byte
  /-- sender's address (10 Table 10.14). -/
  addr : List Byte
  /-- parts by PART (10 Table 10.14). -/
  parts : List (Nat × List CfgItem)
  deriving DecidableEq, Repr

/-- Lernas mesh network (10). -/
structure Mesh where
  /-- adopted node records (ORIGIN 1) (15 Table 15.2). -/
  adopted : List NodeRec
  /-- radio associations (15 Table 15.2). -/
  assocs : List Assoc
  /-- frames held for connections (10 R271). -/
  txq : List TxFrame
  /-- next SEQ (10 Table 10.4). [reset: DESIGN CHOICE, log 9] -/
  txSeq : U16
  /-- next SEC_FC (10 R265). [reset: DESIGN CHOICE, log 9] -/
  secFc : Nat
  /-- counter reservation end E (MRAM) (10 R265, R294). [reset: DESIGN CHOICE, log 9] -/
  fcEnd : Nat
  /-- network key generation in force (10 Table 10.4). [reset: DESIGN CHOICE, log 9] -/
  keyGen : Nat
  /-- RESTART (MRAM) (10 R267). [reset: DESIGN CHOICE, log 9] -/
  restart : U32
  /-- duty-cycle accounts (10 R256). -/
  duty : List DutyAcc
  /-- drop counters by port and cause (10 R253, R259, R261, R266). -/
  drops : List (Nat × Nat × Nat)
  /-- reassemblies (10 R262). -/
  frags : List FragAsm
  /-- JOIN_REQ requests answered JOIN_WAIT by HOME segment (10 R292). -/
  joinWaits : List (U32 × Nat)
  /-- segments being adopted, the newest first: ADOPTING names it (10 R291). -/
  adopting : List U32
  /-- releases whose nodes are leaving, with the count (10 R293). -/
  adoptTok : List (U32 × OpTok × Nat)
  /-- safe levels that SAFE_ACK confirmed; 10,000 before (10 R284). -/
  safeConf : List (U32 × Nat)
  /-- SAFE_STORE sent, its SAFE_ACK awaited (10 R284). -/
  safeToks : List (U32 × Nat × OpTok)
  /-- peer sessions (10 R288). -/
  peers : List PeerSess
  /-- sessions opened by other segments' modules (10 R289). -/
  inbound : List PeerSess
  /-- replica version (10 R288). [reset: DESIGN CHOICE, log 9] -/
  version : U32
  /-- model clock tick of the last change to replicated records (10 R288). -/
  lastChange : Nat
  /-- replicas held (15 Table 15.2). -/
  replicas : List Replica
  /-- replicas arriving (10 R289). -/
  asms : List ReplicaAsm
  /-- round of the last commit of associations (10 R295). -/
  assocCommit : Nat
  /-- nodes last answered JOIN_WAIT (10 Table 10.11). -/
  waiting : List U32
  /-- a REPLICA_REQUEST is out whose answer restores the configuration (18 R480). -/
  restore : Bool
  /-- network key change under way: generation, FROM (10 R265, Table 10.13 KEY_UPDATE). -/
  keyNext : Option (Nat × Nat)
  /-- next TAG (10 Table 10.4). [reset: DESIGN CHOICE, log 9] -/
  txTag : U16
  /-- associations as last committed to NAND (10 R295). -/
  assocStored : List Assoc
  /-- network keys under which the counter has run (10 R265). [reset: DESIGN CHOICE, log 195] -/
  netUsed : List (List Byte)
  /-- counter values used up under the join keys by earlier generations (10 R265). [reset: DESIGN CHOICE, log 195] -/
  joinBase : Nat
  /-- replay state under the join keys (10 R266). -/
  joinNbrs : List JoinNbr
  /-- that state as last committed to NAND (10 R295). -/
  joinStored : List JoinNbr
  /-- answers to joining nodes that wait for their sub-band (10 R256). -/
  joinOut : List JoinOut
  /-- CAP of the nodes that asked to join, by EUI-64 (10 Table 10.13, R279). -/
  caps : List (List Byte × U8)
  /-- lanterns whose SUIT has not reached them (10 R284). -/
  suitDue : List U32
  /-- suit codes that adopted lanterns keep (10 R291). -/
  adoptedSuit : List (U32 × Nat)
  /-- round of the newest airtime sums (10 R256). [reset: DESIGN CHOICE, log 196] -/
  dutyAt : Nat
  /-- round of the last STANDBY beacon (10 R277). -/
  standbySent : Option Nat
  /-- tick of the last beacon, by port (10 R276). -/
  beaconSent : List (Nat × Nat)
  deriving DecidableEq, Repr

/-- `Mesh` at reset. -/
def Mesh.reset : Mesh where
  adopted := []
  assocs := []
  txq := []
  txSeq := 0
  secFc := 0
  fcEnd := 0
  keyGen := 1
  restart := 0
  duty := []
  drops := []
  frags := []
  joinWaits := []
  adopting := []
  adoptTok := []
  safeConf := []
  safeToks := []
  peers := []
  inbound := []
  version := 0
  lastChange := 0
  replicas := []
  asms := []
  assocCommit := 0
  waiting := []
  restore := false
  keyNext := none
  txTag := 0
  assocStored := []
  netUsed := []
  joinBase := 0
  joinNbrs := []
  joinStored := []
  joinOut := []
  caps := []
  suitDue := []
  adoptedSuit := []
  dutyAt := 0
  standbySent := none
  beaconSent := []

/-- An Ethernet port (11). -/
structure Port where
  /-- port counters (11 Table 11.5). -/
  counters : List Nat
  /-- outputs of the module when the counters were last cleared: the datagrams after it are counted (log 206) (11 R304). -/
  outMark : Nat
  /-- frames held by a pause, with their queue: 0 express, 1 own, 2 forwarded (11 R299). -/
  held : List (Nat × List Byte)
  /-- PTP messages held by a pause or the gate of P3: message, sequence, time (11 R307, 04 R97). -/
  ptpHeld : List (Nat × Nat × Nat)
  /-- end of the pause in force, ns of the model clock (11 R307). -/
  pauseUntil : Option Nat
  /-- start of the pause in force, ns (11 R308). -/
  pauseSince : Nat
  /-- pause watchdog, ns, before the pause in force (11 R308). -/
  wdAcc : Nat
  /-- end of the last pause, ns (11 R308). -/
  pauseEnd : Nat
  /-- time until which PAUSE frames are ignored, ns (11 R308). -/
  pauseIgnore : Nat
  /-- preemption verified (11 R305). -/
  preempt : Bool
  /-- verify attempts made (11 R305). -/
  verifyTries : Nat
  /-- timestamp queue: ID, EPOCH, MSG, NS, capture tick (11 Table 11.9). -/
  tsq : List (Nat × Nat × Nat × Nat × Nat)
  deriving DecidableEq, Repr

/-- `Port` at reset. -/
def Port.reset : Port where
  counters := List.replicate 16 0
  outMark := 0
  held := []
  ptpHeld := []
  pauseUntil := none
  pauseSince := 0
  wdAcc := 0
  pauseEnd := 0
  pauseIgnore := 0
  preempt := false
  verifyTries := 0
  tsq := []

/-- A learned address (11 R298). -/
structure BridgeEntry where
  /-- address (11 R298). -/
  mac : List Byte
  /-- P1 or P2 (11 R298). -/
  port : Nat
  /-- model clock tick last seen (11 R298). -/
  seen : Nat
  deriving DecidableEq, Repr

/-- SFP pins of P2 (11 R303). -/
structure Sfp where
  /-- SFP_MOD_ABS (11 R303). [reset: DESIGN CHOICE, log 9] -/
  modAbs : Bool
  /-- SFP_LOS (11 R303). [reset: DESIGN CHOICE, log 9] -/
  los : Bool
  /-- SFP_TX_FAULT (11 R303). -/
  txFault : Bool
  /-- SFP_TX_DIS driven high (11 R303). [reset: DESIGN CHOICE, log 9] -/
  txDis : Bool
  deriving DecidableEq, Repr

/-- `Sfp` at reset. -/
def Sfp.reset : Sfp where
  modAbs := true
  los := true
  txFault := false
  txDis := true

/-- A time reference (11 R316). -/
structure Ref where
  /-- time epoch [7:0] (11 R316). -/
  epoch : Nat
  /-- TAI ns at the latch (11 R316). [reset: DESIGN CHOICE, log 9] -/
  full : Nat
  /-- counter at the latch (11 R316). [reset: DESIGN CHOICE, log 9] -/
  ctr : U32
  deriving DecidableEq, Repr

/-- `Ref` at reset. -/
def Ref.reset : Ref where
  epoch := 0
  full := 0
  ctr := 0

/-- The servo of ETS1 (11 R317 to R319). -/
structure Servo where
  /-- integ, parts per 10^9 (11 R318). [reset: DESIGN CHOICE, log 9] -/
  integ : Rat
  /-- rate in force, parts per 10^9 (11 R318). [reset: DESIGN CHOICE, log 9] -/
  rate : Rat
  /-- integ as stored at the last round boundary while locked (MRAM) (11 R319). [reset: DESIGN CHOICE, log 9] -/
  stored : Rat
  /-- consecutive accepted offsets above 1 ms (11 R318). -/
  big : Nat
  /-- those offsets, newest first (11 R318). -/
  bigs : List Int
  /-- last offsets measured, newest first (11 R317). -/
  raw : List Int
  /-- no previous accepted offset applies (11 R318). -/
  first : Bool
  /-- the next offset is accepted without comparison (11 R317). -/
  fresh : Bool
  /-- receive time of the last accepted offset, TAI ns (11 R318). -/
  lastAt : Int
  /-- model clock tick of the last accepted offset (11 R319). -/
  accAt : Nat
  /-- path delays, newest first, ns (11 R317). -/
  delays : List Int
  /-- LOCK (11 R319). -/
  lock : Nat
  /-- OFFSET, ns (11 R319). [reset: DESIGN CHOICE, log 9] -/
  offset : Int
  /-- HOLD, s (11 R319). -/
  hold : Nat
  /-- model clock tick at which holdover began (11 R319). -/
  holdAt : Nat
  /-- since the last comparison a step or a leap fell or LOCK was not 2 (12 R333). -/
  lockBroken : Bool
  deriving DecidableEq, Repr

/-- `Servo` at reset. -/
def Servo.reset : Servo where
  integ := 0
  rate := 0
  stored := 0
  big := 0
  bigs := []
  raw := []
  first := true
  fresh := true
  lastAt := 0
  accAt := 0
  delays := []
  lock := 0
  offset := 0
  hold := 0
  holdAt := 0
  lockBroken := true

/-- IEEE 1588 state of one port (11 R312 to R317). -/
structure PtpPort where
  /-- master announced on the port (11 R312). -/
  master : Option U64
  /-- its dataset for the best master clock algorithm (11 R312). -/
  prio : List Nat
  /-- model clock tick of the last Announce (11 R312). -/
  annAt : Nat
  /-- the module is master on this port (11 R312). -/
  isMaster : Bool
  /-- peer delay mechanism (11 Table 11.8). -/
  p2p : Bool
  /-- the master's Announce interval, ms (11 R312). -/
  annMs : Nat
  /-- two-step Sync awaiting Follow_Up: sequenceId, receive time, correction (11 R317). -/
  sync : Option (Nat × Int × Int)
  /-- receive less origin time of the last Sync, ns (11 R317). -/
  t21 : Option Int
  /-- sequenceId of the Delay_Req or Pdelay_Req outstanding (11 R317). -/
  dreq : Option Nat
  /-- transmit time of a request, read from the queue, with its sequenceId (11 R315, R317). -/
  reqTx : Option (Nat × Int)
  /-- two-step peer delay: sequenceId, t1, t2, t4 less correction (11 R317). -/
  pdelay : Option (Nat × Int × Int × Int)
  /-- next sequenceId sent (11 R312). [reset: DESIGN CHOICE, log 9] -/
  seqId : U16
  /-- model clock tick of the last Announce sent (11 R312). -/
  sent : Nat
  deriving DecidableEq, Repr

/-- `PtpPort` at reset. -/
def PtpPort.reset : PtpPort where
  master := none
  prio := []
  annAt := 0
  isMaster := false
  p2p := false
  annMs := 1000
  sync := none
  t21 := none
  dreq := none
  reqTx := none
  pdelay := none
  seqId := 0
  sent := 0

/-- Ethernet and network time (11). -/
structure Eth where
  /-- P1 to P3 (11 R296). -/
  ports : List Port
  /-- learned addresses (11 R298). -/
  bridge : List BridgeEntry
  /-- SFP pins (11 R303). -/
  sfp : Sfp
  /-- MAC address from factory data (11 R297). [reset: DESIGN CHOICE, log 9] -/
  mac : List Byte
  /-- servo (11 R318). -/
  servo : Servo
  /-- PTP per port (11 R312). -/
  ptp : List PtpPort
  /-- selected master: port, identity (11 R317). -/
  best : Option (Nat × U64)
  /-- references of the present and previous epochs (11 R316). -/
  refs : List Ref
  /-- TAI-UTC in force (MRAM); 37 s from the factory (11 R320). -/
  taiUtc : Int
  /-- offset announced with currentUtcOffsetValid (11 R320). -/
  annOffset : Option Int
  /-- 0 none, 1 leap61, 2 leap59 announced (11 R320). -/
  leap : Nat
  /-- UTC second of the end of the day the master names (11 R320). [reset: DESIGN CHOICE, log 9] -/
  leapAt : Nat
  /-- the announced value differs from the commanded one (event recorded) (11 R320). -/
  taiDiff : Bool
  deriving DecidableEq, Repr

/-- `Eth` at reset. -/
def Eth.reset : Eth where
  ports := List.replicate 3 Port.reset
  bridge := []
  sfp := Sfp.reset
  mac := []
  servo := Servo.reset
  ptp := List.replicate 3 PtpPort.reset
  best := none
  refs := []
  taiUtc := 37
  annOffset := none
  leap := 0
  leapAt := 0
  taiDiff := false

/-- The seven calendar fields (12 Table 12.1). -/
structure RtcTime where
  /-- SUBSEC (12 Table 12.1). -/
  subsec : Nat
  /-- SEC (12 Table 12.1). -/
  sec : Nat
  /-- MIN (12 Table 12.1). -/
  min : Nat
  /-- HOUR (12 Table 12.1). -/
  hour : Nat
  /-- WDAY (12 Table 12.1). -/
  wday : Nat
  /-- DAY (12 Table 12.1). -/
  day : Nat
  /-- MONTH (12 Table 12.1). -/
  month : Nat
  /-- YEAR (12 Table 12.1). -/
  year : Nat
  deriving DecidableEq, Repr

/-- `RtcTime` at reset. -/
def RtcTime.reset : RtcTime where
  subsec := 0
  sec := 0
  min := 0
  hour := 0
  wday := 5
  day := 1
  month := 1
  year := 0

/-- An alarm register pair (12 Table 12.1). -/
structure AlarmReg where
  /-- ASEC (12 Table 12.1). -/
  sec : Nat
  /-- AMIN (12 Table 12.1). -/
  min : Nat
  /-- AHOUR (12 Table 12.1). -/
  hour : Nat
  /-- ADAY (12 Table 12.1). -/
  day : Nat
  /-- AMONTH (12 Table 12.1). -/
  month : Nat
  /-- AYEAR (12 Table 12.1). -/
  year : Nat
  /-- EN (12 Table 12.1). -/
  en : Bool
  deriving DecidableEq, Repr

/-- `AlarmReg` at reset. -/
def AlarmReg.reset : AlarmReg where
  sec := 0
  min := 0
  hour := 0
  day := 0
  month := 0
  year := 0
  en := false

/-- An alarm setting kept in MRAM (12 R335). -/
structure AlarmSet where
  /-- ENABLE: 0 off, 1 once, 2 daily (12 R335). [reset: DESIGN CHOICE, log 9] -/
  enable : Nat
  /-- UTC (12 R335). [reset: DESIGN CHOICE, log 9] -/
  utc : Nat
  deriving DecidableEq, Repr

/-- `AlarmSet` at reset. -/
def AlarmSet.reset : AlarmSet where
  enable := 0
  utc := 0

/-- Real-time clock (12). -/
structure Rtc where
  /-- live time fields (12 Table 12.1). -/
  time : RtcTime
  /-- shadows (12 R329). -/
  shadow : RtcTime
  /-- CAL (12 Table 12.1). -/
  cal : Int
  /-- ALM0, ALM1 (12 Table 12.1). -/
  alarms : List AlarmReg
  /-- STATUS.FROZEN (12 Table 12.1). -/
  frozen : Bool
  /-- STATUS.INVALID (12 Table 12.1). -/
  invalid : Bool
  /-- STATUS.VLOW (12 Table 12.1). -/
  vlow : Bool
  /-- STATUS.OSC_STOP (12 Table 12.1). -/
  oscStop : Bool
  /-- STATUS.ALM0_HIT, ALM1_HIT (12 Table 12.1). -/
  hits : List Bool
  /-- CAPT.CSUB (12 Table 12.1). -/
  csub : Nat
  /-- CAPT.CSEC (12 Table 12.1). -/
  csec : Nat
  /-- second within the calibration cycle, 0 to 31 (12 R327). -/
  calSec : Nat
  /-- crystal edges in the whole seconds since SEC was last written (12 R326, R327). -/
  edges : Nat
  /-- alarm settings (MRAM) (12 R335). -/
  settings : List AlarmSet
  /-- 0x0606 to take force: UTC, round whose start is B, with a network step (12 R332). -/
  setPending : Option (Nat × Nat × Bool)
  /-- e_prev, counts (12 R333). [reset: DESIGN CHOICE, log 9] -/
  ePrev : Int
  /-- e of the last comparison, counts (12 R333). [reset: DESIGN CHOICE, log 9] -/
  eLast : Int
  /-- round at whose start the clock is rewritten (12 R333). -/
  rewriteDue : Option Nat
  deriving DecidableEq, Repr

/-- `Rtc` at reset. -/
def Rtc.reset : Rtc where
  time := RtcTime.reset
  shadow := RtcTime.reset
  cal := 0
  alarms := [AlarmReg.reset, AlarmReg.reset]
  frozen := false
  invalid := true
  vlow := false
  oscStop := false
  hits := [false, false]
  csub := 0
  csec := 0
  calSec := 0
  edges := 0
  settings := [AlarmSet.reset, AlarmSet.reset]
  setPending := none
  ePrev := 0
  eLast := 0
  rewriteDue := none

/-- What a lantern was last told and by what (13 R342 to R344). -/
structure Fade where
  /-- lantern (13 R342). -/
  node : U32
  /-- present commanded level (13 R342). -/
  level : Nat
  /-- its fade, 0.1 s (13 R344). -/
  fade : Nat
  /-- round AT from which it applies (13 R344). -/
  since : Nat
  /-- AT of the level message outstanding (13 R344). -/
  outstanding : Option Nat
  /-- a changed level and fade waiting for that AT (13 R344). -/
  next : Option (Nat × Nat)
  deriving DecidableEq, Repr

/-- A momentary node level (13 R345). -/
structure NodeLevel where
  /-- lantern (13 R345). -/
  node : U32
  /-- LEVEL (13 R345). -/
  level : Nat
  /-- FADE (13 R345). -/
  fade : Nat
  /-- round AT (13 R345). -/
  since : Nat
  /-- result of R342 without it at AT (13 R345). -/
  under : Option Nat
  deriving DecidableEq, Repr

/-- A planned wave term (13 R361, R362). -/
structure WaveTerm where
  /-- lantern (13 R361). -/
  node : U32
  /-- LEVEL (13 R361). -/
  level : Nat
  /-- round up (13 R361). -/
  up : Nat
  /-- round down (13 R361). -/
  down : Nat
  /-- FADE_UP (13 R361). -/
  fadeUp : Nat
  /-- FADE_DN (13 R361). -/
  fadeDn : Nat
  deriving DecidableEq, Repr

/-- Schedules, groups and the light wave (13). -/
structure Sch where
  /-- group overrides (13 R346). -/
  overrides : List Override
  /-- node levels; ended by a reset (13 R345). -/
  nodeLevels : List NodeLevel
  /-- edge-action ledger (13 R356). -/
  ledger : List Ledger
  /-- commanded levels of lanterns (13 R342). -/
  lanterns : List Fade
  /-- planned wave terms; ended by a reset (13 R362). -/
  terms : List WaveTerm
  /-- level in force of each feeder and contactor group (13 R342). -/
  groupLevels : List (Nat × Nat)
  /-- UTC of the last round boundary evaluated, or of the newest checkpoint after time outside DECLARER (13 R356). [reset: DESIGN CHOICE, log 9] -/
  lastUtc : Nat
  /-- every group and lantern is evaluated again at the next round boundary (13 R355). -/
  evalAll : Bool
  /-- start of the forward or backward window still to be handled (13 R356, R357). -/
  windowT1 : Option Nat
  deriving DecidableEq, Repr

/-- `Sch` at reset. -/
def Sch.reset : Sch where
  overrides := []
  nodeLevels := []
  ledger := []
  lanterns := []
  terms := []
  groupLevels := []
  lastUtc := 0
  evalAll := false
  windowT1 := none

/-- A round-data stream arriving (14 R389). -/
structure StreamAsm where
  /-- ROUND (14 Table 14.10). -/
  round : Nat
  /-- FLAGS.FULL (14 Table 14.10). -/
  full : Bool
  /-- COUNT (14 Table 14.10). -/
  count : Nat
  /-- model clock tick of its first part (14 R389). -/
  since : Nat
  /-- parts by PART (14 Table 14.10). -/
  parts : List (Nat × List Section)
  deriving DecidableEq, Repr

/-- What a dealer keeps for a position (14 R379). -/
structure DealerPos where
  /-- TCLK of the last good word (14 R379). -/
  last : Option Nat
  /-- its ROLE (14 R379). -/
  role : Nat
  /-- its OUT_OK (14 R379). -/
  outOk : Bool
  /-- TCLK of the grant to this position (14 R379). -/
  granted : Option Nat
  /-- demote is answered to each of its words (14 R379). -/
  demoting : Bool
  deriving DecidableEq, Repr

/-- `DealerPos` at reset. -/
def DealerPos.reset : DealerPos where
  last := none
  role := 0
  outOk := false
  granted := none
  demoting := false

/-- Redundant pair (14). -/
structure Pair where
  /-- own claim (MRAM); its rank byte follows the straps, its epoch at reset is 0 (14 R364, R365, Table 14.1). [reset: DESIGN CHOICE, log 9] -/
  claim : U32
  /-- partner's claim last seen (14 Table 14.9 PBID). -/
  partnerClaim : U32
  /-- partner's claim last seen on the bid link (09 R229). -/
  linkClaim : U32
  /-- TCLK of the last good bid word with ROLE 1 (02 R52). -/
  roleOneAt : Option Nat
  /-- ROLE of the last good bid word (14 Table 14.2). [reset: DESIGN CHOICE, log 9] -/
  partnerRole : Nat
  /-- P3_OK of that word (14 Table 14.2). -/
  partnerP3Ok : Bool
  /-- SWAP_ACK of that word (14 Table 14.2). -/
  swapAck : Bool
  /-- MAINS of that word (14 Table 14.2). [reset: DESIGN CHOICE, log 9] -/
  partnerMains : Bool
  /-- CFG_MATCH of that word (14 Table 14.2). -/
  partnerMatch : Bool
  /-- level of BID_HBI; pulled down, so low from an absent partner (14 R366). [reset: DESIGN CHOICE, log 9] -/
  hbi : Bool
  /-- an edge of BID_HBI has been seen since reset (14 R368). -/
  edgeSeen : Bool
  /-- TCLK of the last edge on BID_HBI (14 R368). -/
  lastEdge : Nat
  /-- TCLK of the last good bid word (14 R368). -/
  lastWord : Nat
  /-- partner heartbeat lost (14 R368, Table 14.9 LINKS.HB). -/
  hbLost : Bool
  /-- bid words lost (14 R368, Table 14.9 LINKS.WORDS). -/
  wordsLost : Bool
  /-- P3 silent (14 R368, Table 14.9 LINKS.P3). -/
  p3Silent : Bool
  /-- level of BID_HBO; high from the release of reset (14 R366). -/
  hbo : Bool
  /-- BID_HBO toggles (14 R366). -/
  hboRun : Bool
  /-- dealer lost (14 R378). -/
  dlrLost : Bool
  /-- REQ in the words sent to the dealer (14 R374). -/
  dlrReq : Bool
  /-- last tick-state frames received, newest first (14 R373). -/
  frames : List TickState
  /-- model clock tick of the last tick-state frame received (14 R373). -/
  frameTick : Option Nat
  /-- model clock tick of the last tick-state frame sent (14 Table 14.9 LINKS.STATE). -/
  sentTick : Option Nat
  /-- own CFG_DIGEST of the last round boundary (14 R372). [reset: DESIGN CHOICE, log 9] -/
  digest : U64
  /-- digest in the latest tick-state frame (14 R372). [reset: DESIGN CHOICE, log 9] -/
  partnerDigest : U64
  /-- a TYPE 2 or 3 frame was missed since the last full copy (14 R371). -/
  missedRound : Bool
  /-- CFG_MATCH as last recorded (14 Table 14.9 CFG_MATCH). -/
  cfgMatch : Bool
  /-- LAST_TAKEOVER (14 Table 14.9). -/
  lastTakeover : Nat
  /-- the planned swap has run and this module has not yet entered DUMMY (06 R149). -/
  swapRan : Bool
  /-- round at whose end the planned swap runs (14 R385). -/
  swapRound : Option Nat
  /-- holder of the pending swap (06 R149). -/
  swapHolder : OpTok
  /-- the swap came from 0x0802 and owes a notice (06 R149). -/
  swapHasTok : Bool
  /-- the swap belongs to an install (17 R460). -/
  swapInstall : Bool
  /-- dummy: round at whose end the announced swap runs (14 R385). -/
  swapDummy : Option Nat
  /-- causes of refusals to take over already recorded (14 R375). -/
  refusedCauses : List Nat
  /-- raise the claim at the next round boundary (09 R227, 14 R382). -/
  staleRaise : Bool
  /-- epoch of the highest HELD_CLAIM in any valid stage report (14 R365). -/
  heldEpoch : Nat
  /-- consecutive ticks with every configured stage SILENT (14 R384). -/
  autoTicks : Nat
  /-- partner's counter reservation end (14 R294). [reset: DESIGN CHOICE, log 9] -/
  partnerE : Nat
  /-- RESTART last reported by the partner (10 R267). [reset: DESIGN CHOICE, log 9] -/
  partnerRestart : U32
  /-- dealer role: what it keeps for positions A and B (14 R379). -/
  dlrWords : List DealerPos
  /-- round-data streams arriving (14 R389). -/
  streams : List StreamAsm
  /-- last round whose stream was applied (14 R371). [reset: DESIGN CHOICE, log 9] -/
  roundSeen : Nat
  /-- associations as last sent to the dummy (14 R294). -/
  sentAssocs : List Assoc
  /-- ledger as last sent to the dummy (14 R371). -/
  sentLedger : List Ledger
  /-- the dealer has granted a request made in BOOT (14 R369). -/
  granted : Bool
  /-- accepted requests to replay, each with the tick in which it takes effect (14 R371). -/
  replays : List (Nat × List Byte)
  /-- the takeover tick is under way and the state reads DECLARER from the next boundary (14 R376). -/
  deferTakeover : Bool
  deriving DecidableEq, Repr

/-- `Pair` at reset. -/
def Pair.reset : Pair where
  claim := 0x03
  partnerClaim := 0
  linkClaim := 0
  roleOneAt := none
  partnerRole := 0
  partnerP3Ok := false
  swapAck := false
  partnerMains := false
  partnerMatch := false
  hbi := false
  edgeSeen := false
  lastEdge := 0
  lastWord := 0
  hbLost := true
  wordsLost := true
  p3Silent := true
  hbo := true
  hboRun := false
  dlrLost := true
  dlrReq := false
  frames := []
  frameTick := none
  sentTick := none
  digest := 0
  partnerDigest := 0
  missedRound := false
  cfgMatch := false
  lastTakeover := 0
  swapRan := false
  swapRound := none
  swapHolder := OpTok.none
  swapHasTok := false
  swapInstall := false
  swapDummy := none
  refusedCauses := []
  staleRaise := false
  heldEpoch := 0
  autoTicks := 0
  partnerE := 0
  partnerRestart := 0
  dlrWords := [DealerPos.reset, DealerPos.reset]
  streams := []
  roundSeen := 0
  sentAssocs := []
  sentLedger := []
  granted := false
  replays := []
  deferTakeover := false

/-- An event record (15 Table 15.7). -/
structure EventRec where
  /-- SEQ (15 Table 15.7). -/
  seq : Nat
  /-- CODE (15 Table 15.7). -/
  code : U16
  /-- ENGINE (15 Table 15.7). -/
  engine : Nat
  /-- KIND (15 Table 15.7). -/
  kind : Nat
  /-- DATA (15 Table 15.7). -/
  data : List Byte
  deriving DecidableEq, Repr

/-- Token bucket of an event code (15 R415). -/
structure Bucket where
  /-- CODE (15 R415). -/
  code : U16
  /-- tokens, up to 20 (15 R415). -/
  tokens : Nat
  /-- suppressed (15 R415). -/
  count : Nat
  /-- tick of the first suppressed event (15 R415). -/
  first : Nat
  /-- tick of the last (15 R415). -/
  last : Nat
  deriving DecidableEq, Repr

/-- A scorecard entry (15 Table 15.10). -/
structure ScoreEntry where
  /-- ENTRY (15 Table 15.10). -/
  entry : Nat
  /-- TYPE (15 Table 15.11). -/
  typ : Nat
  /-- STATE (15 Table 15.10). -/
  state : Nat
  /-- TICK (15 Table 15.10). -/
  tick : Nat
  /-- EPOCH (15 Table 15.10). -/
  epoch : U32
  /-- BOOT (15 Table 15.10). -/
  boot : U32
  /-- UTC (15 Table 15.10). -/
  utc : Nat
  /-- EVENT_SEQ (15 Table 15.10). -/
  eventSeq : Nat
  /-- CLAIM (15 Table 15.10). -/
  claim : U32
  /-- FW_VERSION (15 Table 15.10). -/
  fw : U32
  /-- DATA, leading bytes (15 Table 15.10). -/
  data : List Byte
  deriving DecidableEq, Repr

/-- A record of an interval profile (15 R407). -/
structure ProfRec where
  /-- SEQ (15 Table 15.5). -/
  seq : Nat
  /-- the record (15 R407). -/
  bytes : List Byte
  /-- its NAND commit has completed; until then its data stays in DRAM (15 R406, 03 R72). -/
  stored : Bool
  deriving DecidableEq, Repr

/-- An interval profile (15 R406). -/
structure Profile where
  /-- profile reference (15 Table 15.2 class 0x06). -/
  obj : U32
  /-- next SEQ (15 R406). -/
  next : Nat
  /-- records, newest first (15 R406). -/
  recs : List ProfRec
  /-- START_TICK of the open interval (15 Table 15.5). -/
  start : Nat
  /-- UTC_START of the open interval (15 Table 15.5). -/
  startUtc : Nat
  /-- flags gathered for the open interval (15 Table 15.5). -/
  flags : U16
  /-- model clock tick of its start (15 Table 15.5). -/
  startNow : Nat
  /-- EPOCH at its start (15 Table 15.5). -/
  startEpoch : U32
  /-- ZONE at its start, minutes (15 Table 15.5). -/
  startZone : Int
  /-- sum of commanded level by tick, lantern profile (15 Table 15.6). -/
  levelSum : Nat
  /-- estimated energy at the start, lantern profile (15 Table 15.6). -/
  acc0 : Int
  deriving DecidableEq, Repr

/-- What the kitty knows of one kind (15 Table 15.3). -/
structure Kind where
  /-- indices of retired elements, newest first (15 R397, R400). -/
  retired : List Nat
  /-- 0 none, 1 RETIRE_ADVISORY, 2 KITTY_EXHAUSTED active (18 R483). -/
  advised : Nat
  deriving DecidableEq, Repr

/-- `Kind` at reset. -/
def Kind.reset : Kind where
  retired := []
  advised := 0

/-- Storage, seating and records (15). -/
structure Rec where
  /-- event records in the ring not yet committed, newest first (15 R413). -/
  ring : List EventRec
  /-- event records in NAND, newest first (15 R416). -/
  nand : List EventRec
  /-- next event sequence number (15 R411). [reset: DESIGN CHOICE, log 136] -/
  nextSeq : Nat
  /-- first number past the reservation (MRAM) (15 R411). [reset: DESIGN CHOICE, log 136] -/
  reserved : Nat
  /-- the closing set wrote the exact next number (15 R411). -/
  seqExact : Bool
  /-- events dropped at a full ring (15 R414). -/
  dropped : Nat
  /-- tick of the first drop (15 R414). -/
  dropFirst : Nat
  /-- tick of the last drop (15 R414). -/
  dropLast : Nat
  /-- buckets that are not full (15 R415). -/
  buckets : List Bucket
  /-- flush under way: first SEQ past what it copies (15 R413). -/
  flushing : Option Nat
  /-- model clock tick of a flush trigger; the flush starts at a later tick boundary (15 R413). -/
  flushTrig : Option Nat
  /-- trigger came during the flush (15 R413). -/
  flushAgain : Bool
  /-- 0x0907 commands waiting for the flush (15 R413). -/
  flushToks : List OpTok
  /-- scorecard, newest first (15 R417). -/
  score : List ScoreEntry
  /-- next ENTRY (15 R417). -/
  scoreNext : Nat
  /-- model clock tick of the newest scorecard entry's cause (15 R418). -/
  scoreAt : Option Nat
  /-- scorecard entries whose causes fell in that tick (15 R418). -/
  scoreRun : Nat
  /-- interval profiles (15 R406). -/
  profiles : List Profile
  /-- retirement list (MRAM, NAND copy) (15 Table 15.3). -/
  kitty : List Kind
  /-- change count of the retirement list (15 R400). [reset: DESIGN CHOICE, log 9] -/
  listCount : Nat
  /-- the CRC of the MRAM list fails (15 R400). -/
  listBad : Bool
  /-- copy of the retirement list in the NAND system area (15 R400). -/
  listNand : List Kind
  /-- change count of that copy (15 R400). [reset: DESIGN CHOICE, log 9] -/
  listNandCount : Nat
  /-- addresses with correctable errors, scrub passes in a row (15 Table 15.3). -/
  sramHits : List (Nat × Nat)
  /-- hot-tier banks taken after the spares (15 R402). -/
  hotLost : Nat
  /-- failed NOR sectors to remap at their next write (15 R404). -/
  norRemap : List Nat
  /-- NOR sectors refreshed, with the model clock tick (15 Table 15.4). -/
  norProg : List (Nat × Nat)
  /-- NAND blocks rewritten to a fresh block, with the model clock tick (15 Table 15.4). -/
  retention : List (Nat × Nat)
  /-- DRAM addresses with correctable errors, scrub passes in a row (15 Table 15.4). -/
  dramHits : List (Nat × Nat)
  /-- 0x0907 commands that the flush under way serves (15 R413). -/
  flushNow : List OpTok
  /-- event records ever committed to NAND, which number the segments (15 Table 15.2 class 0x08). -/
  committed : Nat
  /-- flags gathered since the last 15-minute interval opened (15 Table 15.5). -/
  flags15 : U16
  /-- flags gathered since the last 60-minute interval opened (15 Table 15.6). -/
  flags60 : U16
  /-- excluded DRAM addresses (15 R405). -/
  dramExcluded : List Nat
  /-- event segments given up for NAND blocks (15 R403). -/
  segLost : Nat
  /-- rounds of the last SRAM, DRAM, MRAM and NOR scrub (15 R405). -/
  scrubs : List Nat
  deriving DecidableEq, Repr

/-- `Rec` at reset. -/
def Rec.reset : Rec where
  ring := []
  nand := []
  nextSeq := 0
  reserved := 0
  seqExact := false
  dropped := 0
  dropFirst := 0
  dropLast := 0
  buckets := []
  flushing := none
  flushTrig := none
  flushAgain := false
  flushToks := []
  score := []
  scoreNext := 1
  scoreAt := none
  scoreRun := 0
  profiles := []
  kitty := List.replicate 6 Kind.reset
  listCount := 0
  listBad := false
  listNand := List.replicate 6 Kind.reset
  listNandCount := 0
  sramHits := []
  hotLost := 0
  norRemap := []
  norProg := []
  retention := []
  dramHits := []
  flushNow := []
  committed := 0
  flags15 := 0
  flags60 := 0
  dramExcluded := []
  segLost := 0
  scrubs := [0, 0, 0, 0]

/-- The fuse array (16 Table 16.1). -/
structure Fuses where
  /-- LIFECYCLE (16 Table 16.1). -/
  lifecycle : BitVec 3
  /-- DEBUG_LOCK (16 Table 16.1). -/
  debugLock : Bool
  /-- ROOT_REVOKE (16 Table 16.1). -/
  rootRevoke : BitVec 4
  /-- ROOT_HASH0 to 3; all zero (here empty) unprogrammed (16 Table 16.1). -/
  rootHash : List (List Byte)
  /-- ROLLBACK (16 Table 16.1). -/
  rollback : BitVec 128
  /-- METRO_SEAL (16 Table 16.1). -/
  metroSeal : BitVec 12
  /-- OWNER_XFER (16 Table 16.1). -/
  ownerXfer : BitVec 8
  /-- LOADER_REPL (16 Table 16.1). -/
  loaderRepl : BitVec 4
  /-- COMPAT_RAISE (16 Table 16.1). -/
  compatRaise : BitVec 6
  deriving DecidableEq, Repr

/-- `Fuses` at reset. -/
def Fuses.reset : Fuses where
  lifecycle := 0
  debugLock := false
  rootRevoke := 0
  rootHash := List.replicate 4 []
  rollback := 0
  metroSeal := 0
  ownerXfer := 0
  loaderRepl := 0
  compatRaise := 0

/-- An owner record copy (16 R427). -/
structure Owner where
  /-- change count (16 R427). -/
  count : Nat
  /-- CRC-32 correct (16 R427). -/
  crcOk : Bool
  /-- OWNER_ID (16 R427). -/
  ownerId : List Byte
  /-- OWNER_CA_HASH (16 R427). -/
  caHash : List Byte
  deriving DecidableEq, Repr

/-- A volatile key slot (16 R436). -/
structure Slot where
  /-- the slot holds a key (16 R436). -/
  occupied : Bool
  /-- sealed hand it was unwrapped from (16 R436). -/
  hand : Option Nat
  /-- MASK of the key (16 R436). -/
  mask : Nat
  deriving DecidableEq, Repr

/-- `Slot` at reset. -/
def Slot.reset : Slot where
  occupied := false
  hand := none
  mask := 0

/-- An open key stage (16 R443). -/
structure Stage where
  /-- STAGE (16 R443). -/
  id : U16
  /-- HAND (16 R443). -/
  hand : Nat
  /-- key unwrapped (16 R443). -/
  key : Hand
  /-- 0x0A04 accepted (16 R444). -/
  confirmed : Bool
  /-- model clock tick of 0x0A03 (06 R150). -/
  since : Nat
  /-- channel, transport and session of 0x0A03 (06 R150). -/
  holder : OpTok
  /-- NONCE (16 R443). -/
  nonce : List Byte
  deriving DecidableEq, Repr

/-- A commit record (16 Table 16.6). -/
structure CommitRec where
  /-- KIND (16 Table 16.6). -/
  kind : Nat
  /-- OP_SEQ (16 Table 16.6). -/
  opSeq : U32
  /-- TARGET (16 Table 16.6). -/
  target : U32
  /-- BIT; 0xFFFF for none (16 Table 16.6). -/
  bit : Nat
  /-- COMMIT is the complement of OP_SEQ (16 Table 16.6). -/
  commit : Bool
  /-- change data (16 Table 16.6 DATA). -/
  change : FuseChange
  deriving DecidableEq, Repr

/-- What the newest fuse-counted change replaced, should the supply fail within it (16 R434, R435). -/
structure FuseCut where
  /-- model clock tick in which it ran (03 Table 3.4). -/
  since : Nat
  /-- its commit record (16 Table 16.6). -/
  rec_ : CommitRec
  /-- commit records before it (16 R445). -/
  old : List CommitRec
  /-- fuse array before it (16 R434). -/
  fuses : Fuses
  /-- owner record copies before it (16 R427). -/
  owners : List Owner
  /-- sealed hands before it (16 R425). -/
  hands : List (Option Hand)
  /-- scorecard before it (16 R425). -/
  score : List ScoreEntry
  /-- next ENTRY before it (15 R417). -/
  scoreNext : Nat
  /-- loader copies before it: VALID, VERSION, root slot (17 R471). -/
  copies : List (Bool × U32 × Nat)
  deriving DecidableEq, Repr

/-- Tamper latch (16 R447, R448). -/
structure Tamper where
  /-- latched sources (16 R447). -/
  latched : BitVec 5
  /-- sources active now (16 R447). -/
  active : BitVec 5
  /-- RTC time of each latched source (16 R448). [reset: DESIGN CHOICE, log 9] -/
  times : List Nat
  deriving DecidableEq, Repr

/-- `Tamper` at reset. -/
def Tamper.reset : Tamper where
  latched := 0
  active := 0
  times := [0, 0, 0, 0, 0]

/-- An accepted raise of the compatibility level (18 R476). -/
structure CompatRaise where
  /-- LEVEL (18 R476). -/
  level : Nat
  /-- round at whose end it takes force (04 R92). -/
  round : Nat
  /-- operation owing the notice (04 R92). -/
  tok : OpTok
  /-- its count is spent (16 R434). -/
  fused : Bool
  deriving DecidableEq, Repr

/-- Security (16). -/
structure Sec where
  /-- fuse array (16 Table 16.1). -/
  fuses : Fuses
  /-- commit records that are not empty (16 R445). -/
  commits : List CommitRec
  /-- next OP_SEQ (16 Table 16.6). [reset: DESIGN CHOICE, log 9] -/
  opSeq : U32
  /-- owner record copies (16 R427). -/
  owners : List Owner
  /-- sealed hands (16 R436). -/
  hands : List (Option Hand)
  /-- volatile key slots (16 R436). -/
  slots : List Slot
  /-- open stages, oldest first (06 R150). -/
  stages : List Stage
  /-- next STAGE number (16 R443). [reset: DESIGN CHOICE, log 9] -/
  stageNext : U16
  /-- tamper latch (16 R447). -/
  tamper : Tamper
  /-- DEBUG state beyond the fuse: 0 closed, 2 open by challenge (16 R451). -/
  debugOpen : Nat
  /-- SCOPE open (16 R450). -/
  debugScope : U32
  /-- debug challenge with its model clock tick (16 R450). -/
  debugChal : Option (List Byte × Nat)
  /-- accepted 0x0A0B for the next tick boundary (16 R451). -/
  debugTok : Option (OpTok × U32)
  /-- fuse operations accepted, in order (16 R424, R434). -/
  fuseQueue : List FuseOp
  /-- accepted raises of the compatibility level not yet in force (18 R476). -/
  compatNext : List CompatRaise
  /-- sessions of the old owner end at the next poll (16 R431). -/
  endOwner : Bool
  /-- boot hands whose slots are reloaded at the next tick boundary (16 R444). -/
  reload : List Nat
  /-- what a cut in the newest fuse-counted change would find (16 R434). -/
  fuseCut : Option FuseCut
  deriving DecidableEq, Repr

/-- `Sec` at reset. -/
def Sec.reset : Sec where
  fuses := Fuses.reset
  commits := []
  opSeq := 0
  owners := []
  hands := List.replicate 256 none
  slots := List.replicate 32 Slot.reset
  stages := []
  stageNext := 1
  tamper := Tamper.reset
  debugOpen := 0
  debugScope := 0
  debugChal := none
  debugTok := none
  fuseQueue := []
  compatNext := []
  endOwner := false
  reload := []
  fuseCut := none

/-- What the module reads from an image (17 Table 17.1). -/
structure ImgHdr where
  /-- SHA-384 of the file (17 R454). -/
  hash : List Byte
  /-- length of the file (17 R454). -/
  size : Nat
  /-- KIND (17 Table 17.1). -/
  kind : Nat
  /-- VARIANT (17 Table 17.1). -/
  variant : Nat
  /-- FW_VERSION (17 Table 17.1). -/
  version : U32
  /-- ROLLBACK_INDEX (17 Table 17.1). -/
  rollback : Nat
  /-- COMPAT_LOWEST (17 Table 17.1). -/
  compatLo : Nat
  /-- COMPAT_HIGHEST (17 Table 17.1). -/
  compatHi : Nat
  /-- SCHEMA (17 Table 17.1). -/
  schema : Nat
  /-- SCHEMA_FROM (17 Table 17.1). -/
  schemaFrom : Nat
  /-- root slot its chain ends at (17 R453). -/
  root : Nat
  /-- earliest expiry of its chain, UTC (16 R426). -/
  expiry : Nat
  deriving DecidableEq, Repr

/-- The update session (06 R151, 17 R454). -/
structure UpdSess where
  /-- SESSION (06 Table 6.17). -/
  id : U32
  /-- HASH (06 Table 6.17). -/
  hash : List Byte
  /-- SIZE (06 Table 6.17). -/
  size : Nat
  /-- blocks by OFFSET (17 R454). -/
  data : List (Nat × List Byte)
  /-- RECEIVED (17 R454). -/
  received : Nat
  /-- model clock tick of the last 0x0B02 (06 R151). -/
  last : Nat
  /-- source that opened it (06 R151). -/
  holder : OpTok
  /-- members (17 R455). -/
  members : List OpTok
  deriving DecidableEq, Repr

/-- 0x0B07 under way (17 R456). -/
structure RelayOp where
  /-- operation owing the notice (17 R456). -/
  tok : OpTok
  /-- peer seat (17 R456). -/
  seg : U32
  /-- the image relayed (17 R456). -/
  img : UpdSess
  /-- SESSION the peer gave; 0 not yet (17 R456). -/
  sess : U32
  deriving DecidableEq, Repr

/-- The loader's update record (17 Table 17.4). -/
structure UpdRec where
  /-- STATE (17 Table 17.4). -/
  state : Nat
  /-- REASON (17 Table 17.4). -/
  reason : Nat
  /-- OLD_SLOT (17 Table 17.4). [reset: DESIGN CHOICE, log 9] -/
  oldSlot : Nat
  /-- NEW_SLOT (17 Table 17.4). -/
  newSlot : Nat
  /-- WINDOW_LEFT (17 Table 17.4). -/
  windowLeft : Nat
  /-- NEW_VERSION (17 Table 17.4). [reset: DESIGN CHOICE, log 9] -/
  newVersion : U32
  /-- OLD_VERSION (17 Table 17.4). [reset: DESIGN CHOICE, log 9] -/
  oldVersion : U32
  /-- NEW_HASH (17 Table 17.4). [reset: DESIGN CHOICE, log 9] -/
  newHash : List Byte
  /-- OLD_HASH (17 Table 17.4). [reset: DESIGN CHOICE, log 9] -/
  oldHash : List Byte
  /-- CFG_CHANGES (17 Table 17.4). -/
  cfgChanges : Nat
  /-- SEQ (17 Table 17.4). [reset: DESIGN CHOICE, log 9] -/
  seq : Nat
  deriving DecidableEq, Repr

/-- `UpdRec` at reset. -/
def UpdRec.reset : UpdRec where
  state := 0
  reason := 0
  oldSlot := 0
  newSlot := 0xFF
  windowLeft := 0
  newVersion := 0
  oldVersion := 0
  newHash := []
  oldHash := []
  cfgChanges := 0
  seq := 0

/-- One copy of the resident loader (17 R471). -/
structure LoaderCopy where
  /-- the copy verifies (17 R471). [reset: DESIGN CHOICE, log 9] -/
  valid : Bool
  /-- FW_VERSION (17 R471). [reset: DESIGN CHOICE, log 9] -/
  version : U32
  /-- root slot under which the copy is signed (16 R430). [reset: DESIGN CHOICE, log 9] -/
  root : Nat
  deriving DecidableEq, Repr

/-- `LoaderCopy` at reset. -/
def LoaderCopy.reset : LoaderCopy where
  valid := true
  version := 0
  root := 0

/-- A settings slot (17 Table 17.6). -/
structure SetSlot where
  /-- GEN (17 Table 17.6). [reset: DESIGN CHOICE, log 9] -/
  gen : Nat
  /-- SCHEMA (17 Table 17.6). [reset: DESIGN CHOICE, log 9] -/
  schema : Nat
  /-- STATUS (17 Table 17.6). -/
  status : Nat
  /-- FW_VERSION (17 Table 17.6). [reset: DESIGN CHOICE, log 9] -/
  fw : U32
  /-- compatibility level it was written at (18 R476). [reset: DESIGN CHOICE, log 9] -/
  level : Nat
  /-- the CRC is correct (17 Table 17.6). -/
  crcOk : Bool
  /-- records (17 R464). -/
  cfg : Cfg
  deriving DecidableEq, Repr

/-- `SetSlot` at reset. -/
def SetSlot.reset : SetSlot where
  gen := 0
  schema := 0
  status := 0xFF
  fw := 0
  level := 1
  crcOk := false
  cfg := Cfg.reset

/-- Firmware update (17). -/
structure Upd where
  /-- update session (06 R151). -/
  sess : Option UpdSess
  /-- next SESSION (06 Table 6.17). [reset: DESIGN CHOICE, log 9] -/
  sessNext : U32
  /-- PHASE (17 Table 17.2). -/
  phase : Nat
  /-- RESULT (MRAM) (17 Table 17.7). -/
  result : Nat
  /-- image under installation (17 R457). -/
  hdr : Option ImgHdr
  /-- image in the staging area (NAND) (17 Table 17.2). -/
  staged : Option ImgHdr
  /-- image in the rollback store (NAND) (17 R468). -/
  rollbackStore : Option ImgHdr
  /-- image in the running-image area (17 R452). [reset: DESIGN CHOICE, log 9] -/
  running : Option ImgHdr
  /-- 0x0B03 or 0x0B06 owing a notice (17 R461). -/
  tok : Option OpTok
  /-- WINDOW of the install, minutes (06 R151). -/
  window : Nat
  /-- the install is of a loader (17 R472). -/
  loaderInst : Bool
  /-- update record in force (17 Table 17.4). -/
  rec_ : UpdRec
  /-- the other copy of the update record, none while blank or bad (17 R462). -/
  recPrev : Option UpdRec
  /-- loader copies A and B (17 R471). -/
  copies : List LoaderCopy
  /-- copy that booted (17 R471). [reset: DESIGN CHOICE, log 9] -/
  booted : Nat
  /-- the other copy is to be written at the end of the first BOOT under the new loader (17 R472). -/
  otherDue : Bool
  /-- settings slots (17 R464). -/
  slots : List SetSlot
  /-- qualifying rounds in a row (17 R467). -/
  good : Nat
  /-- the present round does not qualify (17 R467). -/
  bad : Bool
  /-- stages SILENT when the module left service (17 R467). -/
  silentAt : List (Nat × Nat)
  /-- waits for the image-write ante (17 R459). -/
  leaving : Bool
  /-- the module leaves service to fall back (17 R467). -/
  fallBack : Bool
  /-- the loader writes an image (17 R463). -/
  writing : Bool
  /-- the loader waits for the image-write ante (17 R463). -/
  anteWait : Bool
  /-- the write has been repeated once (17 R463). -/
  retried : Bool
  /-- 0x0B07 under way (17 R456). -/
  relay : Option RelayOp
  /-- image under installation, from the session that its install ended (17 R455, R457). -/
  inst : Option UpdSess
  /-- a fall-back write failed (17 R463). -/
  failAlarm : Bool
  /-- confirmed as one of a pair, DIGEST_MISMATCH not yet due (14 R386). -/
  digestDue : Bool
  /-- INFO of a failed migration (17 R466). [reset: DESIGN CHOICE, log 9] -/
  migInfo : Nat
  /-- DETAIL of a failed migration (17 R466). [reset: DESIGN CHOICE, log 9] -/
  migDetail : U32
  deriving DecidableEq, Repr

/-- `Upd` at reset. -/
def Upd.reset : Upd where
  sess := none
  sessNext := 1
  phase := 0
  result := 0
  hdr := none
  staged := none
  rollbackStore := none
  running := none
  tok := none
  window := 30
  loaderInst := false
  rec_ := UpdRec.reset
  recPrev := none
  copies := [LoaderCopy.reset, LoaderCopy.reset]
  booted := 0
  otherDue := false
  slots := List.replicate 8 SetSlot.reset
  good := 0
  bad := false
  silentAt := []
  leaving := false
  fallBack := false
  writing := false
  anteWait := false
  retried := false
  relay := none
  inst := none
  failAlarm := false
  digestDue := false
  migInfo := 0
  migDetail := 0

/-- The whole machine. -/
structure State where
  /-- commands waiting, first in first out (prompt (block)). [the model's own field] -/
  pending : List Instr
  /-- counter that names the next free value (log 2). [the model's own field] -/
  fresh : Nat
  /-- model clock: ticks begun since the model's start; no reset reaches it (log 6). [the model's own field] -/
  now : Nat
  /-- outputs made, newest first (log 5). [the model's own field] -/
  out : List Out
  /-- module states (01, 03). -/
  sys : Sys
  /-- supply and hold-up (02, 03). -/
  pow : Power
  /-- ticks, rounds, epoch (04). -/
  clk : Clock
  /-- host interface and sessions (05). -/
  hif : Hif
  /-- metering (07). -/
  met : Meter
  /-- control engine (08). -/
  ctl : Ctl
  /-- outputs (09). -/
  outs : Outs
  /-- mesh network (10). -/
  mesh : Mesh
  /-- Ethernet and network time (11). -/
  eth : Eth
  /-- real-time clock (12). -/
  rtc : Rtc
  /-- schedules (13). -/
  sch : Sch
  /-- redundant pair (14). -/
  pair : Pair
  /-- records and kitty (15). -/
  rcd : Rec
  /-- security (16). -/
  sec : Sec
  /-- update (17). -/
  upd : Upd
  /-- configuration in force (15 R421). -/
  cfg : Cfg
  /-- committed configuration in NAND (15 R421). -/
  cfgNand : Cfg
  /-- admitted changes waiting for their round boundary, in order (04 R92). -/
  changes : List Change
  deriving DecidableEq, Repr

/-- `State` at reset. -/
def State.reset : State where
  pending := []
  fresh := 0
  now := 0
  out := []
  sys := Sys.reset
  pow := Power.reset
  clk := Clock.reset
  hif := Hif.reset
  met := Meter.reset
  ctl := Ctl.reset
  outs := Outs.reset
  mesh := Mesh.reset
  eth := Eth.reset
  rtc := Rtc.reset
  sch := Sch.reset
  pair := Pair.reset
  rcd := Rec.reset
  sec := Sec.reset
  upd := Upd.reset
  cfg := Cfg.reset
  cfgNand := Cfg.reset
  changes := []

/-- Why the machine stops. The spec stops the block nowhere: every failure it names is an answer, an event, a flag or
a module state. No constructor, so no fault can be raised. -/
inductive Fault where
  deriving DecidableEq, Repr

/-- Why a command has no meaning here. -/
inductive Refusal where
  /-- Raised by an arm of `exec` whose command has no meaning yet; the stop is on the safe side. -/
  | notModelled (mnemonic : String)
  deriving DecidableEq, Repr

/-- Updates the field `pending`. -/
def State.mapPending (s : State) (f : List Instr → List Instr) : State := { s with pending := f s.pending }

/-- Updates the field `fresh`. -/
def State.mapFresh (s : State) (f : Nat → Nat) : State := { s with fresh := f s.fresh }

/-- Updates the field `now`. -/
def State.mapNow (s : State) (f : Nat → Nat) : State := { s with now := f s.now }

/-- Updates the field `out`. -/
def State.mapOut (s : State) (f : List Out → List Out) : State := { s with out := f s.out }

/-- Updates the field `sys`. -/
def State.mapSys (s : State) (f : Sys → Sys) : State := { s with sys := f s.sys }

/-- Updates the field `pow`. -/
def State.mapPow (s : State) (f : Power → Power) : State := { s with pow := f s.pow }

/-- Updates the field `clk`. -/
def State.mapClk (s : State) (f : Clock → Clock) : State := { s with clk := f s.clk }

/-- Updates the field `hif`. -/
def State.mapHif (s : State) (f : Hif → Hif) : State := { s with hif := f s.hif }

/-- Updates the field `met`. -/
def State.mapMet (s : State) (f : Meter → Meter) : State := { s with met := f s.met }

/-- Updates the field `ctl`. -/
def State.mapCtl (s : State) (f : Ctl → Ctl) : State := { s with ctl := f s.ctl }

/-- Updates the field `outs`. -/
def State.mapOuts (s : State) (f : Outs → Outs) : State := { s with outs := f s.outs }

/-- Updates the field `mesh`. -/
def State.mapMesh (s : State) (f : Mesh → Mesh) : State := { s with mesh := f s.mesh }

/-- Updates the field `eth`. -/
def State.mapEth (s : State) (f : Eth → Eth) : State := { s with eth := f s.eth }

/-- Updates the field `rtc`. -/
def State.mapRtc (s : State) (f : Rtc → Rtc) : State := { s with rtc := f s.rtc }

/-- Updates the field `sch`. -/
def State.mapSch (s : State) (f : Sch → Sch) : State := { s with sch := f s.sch }

/-- Updates the field `pair`. -/
def State.mapPair (s : State) (f : Pair → Pair) : State := { s with pair := f s.pair }

/-- Updates the field `rcd`. -/
def State.mapRcd (s : State) (f : Rec → Rec) : State := { s with rcd := f s.rcd }

/-- Updates the field `sec`. -/
def State.mapSec (s : State) (f : Sec → Sec) : State := { s with sec := f s.sec }

/-- Updates the field `upd`. -/
def State.mapUpd (s : State) (f : Upd → Upd) : State := { s with upd := f s.upd }

/-- Updates the field `cfg`. -/
def State.mapCfg (s : State) (f : Cfg → Cfg) : State := { s with cfg := f s.cfg }

/-- Updates the field `cfgNand`. -/
def State.mapCfgNand (s : State) (f : Cfg → Cfg) : State := { s with cfgNand := f s.cfgNand }

/-- Updates the field `changes`. -/
def State.mapChanges (s : State) (f : List Change → List Change) : State := { s with changes := f s.changes }

end Sys2Proof.Machine
end

