-- ==== Sys2Proof/Machine/Ops.lean ====
section
/-!
DEFINITION. The named operations every family shares: the module's figures, events, alarms and scorecard, the host
window and the rings, the checks and answers of a GMP request, the ante and its stores, and completion notices.
-/

namespace Sys2Proof.Machine

open Sys2Proof

abbrev Result := Host.Outcome State Fault Refusal

/-- `l` with its entry `i` replaced by `f` of it. -/
def updAt {α : Type} (l : List α) (i : Nat) (f : α → α) : List α := l.modify i f

/-- 1 for true, 0 for false: a one-bit field. -/
def bit (b : Bool) : Nat := if b then 1 else 0

/-- `a / b` rounded up. -/
def ceilDiv (a b : Nat) : Nat := if b = 0 then 0 else (a + b - 1) / b

/-- The state codes of 01 Table 1.7. -/
def modeCode : Mode → Nat
  | .off => 0x00
  | .boot => 0x01
  | .quarantine => 0x02
  | .commissioning => 0x03
  | .declarer => 0x04
  | .dummy => 0x05
  | .update => 0x06
  | .standby => 0x07
  | .failLit => 0x08

/-- The lifecycle code of 01 Table 1.9: the thermometer position of the highest LIFECYCLE bit that reads 1 (16 R423). -/
def lifecycle (s : State) : Nat :=
  let l := s.sec.fuses.lifecycle
  if l.getLsbD 2 then 3 else if l.getLsbD 1 then 2 else if l.getLsbD 0 then 1 else 0

/-- Number of bits that read 1: the value of a fuse counter (16 R423). -/
def popCount {w : Nat} (v : BitVec w) : Nat := ((List.range w).filter fun i => v.getLsbD i).length

/-- Lowest bit that reads 0, which the module programs next (16 R423); `w` when all read 1. -/
def nextBit {w : Nat} (v : BitVec w) : Nat := ((List.range w).find? fun i => !v.getLsbD i).getD w

/-- `v` with its lowest 0 bit programmed (16 R423). -/
def burn {w : Nat} (v : BitVec w) : BitVec w := v ||| BitVec.ofNat w (2 ^ nextBit v)

/-- The present round number (04 R82). -/
def curRound (s : State) : Nat := s.clk.tick / 8000

/-- The tick within its round (04 R82). -/
def tickInRound (s : State) : Nat := s.clk.tick % 8000

/-- A module is one of a pair when its straps show position A or B (02 R47, 06 Table 6.7 FLAGS.PAIR). -/
def paired (s : State) : Bool := s.sys.straps == 0b10#2 || s.sys.straps == 0b01#2

/-- A module strapped to the dealer role (14 Table 14.1). -/
def isDealer (s : State) : Bool := s.sys.straps == 0b00#2

/-- A work is lost in this tick: an item that does it was stopped, and its result is discarded (04 R89). Which item of an
engine does which work is free (log 182). Works: 0 a doorbell poll, 1 the tick-state frame, 2 the handover of lantern
commands, 3 a connection event, 4 an alive mark. The works of slice pairs and metering DSPs are in `pairStopped` and
`dspStops`. -/
def workLost (s : State) (w : Nat) : Bool := s.ctl.stops.any fun x => x.last == s.now && Config.itemWork x.engine x.item w

/-- Its rank (14 Table 14.1). -/
def rank (s : State) : Nat := s.sys.straps.toNat

/-- The mailbox is served on the local transports (05 R125). -/
def ready (s : State) : Bool :=
  match s.sys.mode with
  | .quarantine | .commissioning | .declarer | .dummy | .failLit => true
  | _ => false

/-- Remote GMP accepts handshakes (05 Table 5.7). -/
def remoteServed (s : State) : Bool :=
  match s.sys.mode with
  | .commissioning | .declarer | .dummy | .failLit => true
  | _ => false

/-- Records one output (log 5). -/
def State.emit (s : State) (o : Out) : State := { s with out := o :: s.out }

/-- Moves the counter that names the next free value (log 2). -/
def State.bump (s : State) : State := { s with fresh := s.fresh + 1 }

/-- A model time in seconds, in ticks of the model clock (1 tick = 125 µs, 04 R82). -/
def secs (n : Nat) : Nat := 8000 * n

/-! Time of the module -/

/-- Network time in TAI seconds: the round number, of which the tick number is TAI time (04 R82). -/
def taiSec (s : State) : Int := Int.ofNat (curRound s)

/-- The UTC value (Table 6.1) of a round's start (12 R331): TAI seconds less the offset in force and the epoch. -/
def utcOfRound (s : State) (r : Nat) : Int := Int.ofNat r - s.eth.taiUtc - 946684800

/-- Present UTC by network time. -/
def utcNow (s : State) : Int := utcOfRound s (curRound s)

/-- Days of a month in the calendar of the clock (12 Table 12.2 days(m, y)). -/
def monthDays (m y : Nat) : Nat :=
  if m = 2 then (if y % 4 = 0 ∧ y ≠ 100 then 29 else 28)
  else if m = 4 ∨ m = 6 ∨ m = 9 ∨ m = 11 then 30 else 31

/-- True when year 2000 + `y` is leap (12 Table 12.2). -/
def leapYear (y : Nat) : Bool := y % 4 == 0 && y != 100

/-- Days from 2000-01-01 to the first day of year 2000 + `y`. -/
def daysBeforeYear (y : Nat) : Nat := 365 * y + (y + 3) / 4 - (if y > 100 then 1 else 0)

/-- Days from the first day of the year to the first day of month `m`. -/
def daysBeforeMonth (m y : Nat) : Nat := ((List.range (m - 1)).map fun k => monthDays (k + 1) y).sum

/-- Days from 2000-01-01 to a date. -/
def dayNumber (y m d : Nat) : Nat := daysBeforeYear y + daysBeforeMonth m y + (d - 1)

/-- The year, month and day of a day number from 2000-01-01. -/
def dateOfDay (n : Nat) : Nat × Nat × Nat :=
  let y := ((List.range 201).filter fun k => daysBeforeYear k ≤ n).length - 1
  let r := n - daysBeforeYear y
  let m := ((List.range 12).filter fun k => daysBeforeMonth (k + 1) y ≤ r).length
  (y, m, r - daysBeforeMonth m y + 1)

/-- A field of the real-time clock lies outside its calendar range, or INVALID is set (12 R323). -/
def rtcInvalid (s : State) : Bool :=
  let t := s.rtc.time
  s.rtc.invalid || t.sec > 59 || t.min > 59 || t.hour > 23 || t.day == 0 ||
    t.day > monthDays t.month t.year || t.month == 0 || t.month > 12 || t.year > 199

/-- UTC of the calendar fields at 86,400 s per day (12 R331). -/
def utcOfFields (t : RtcTime) : Nat :=
  86400 * dayNumber t.year t.month t.day + 3600 * t.hour + 60 * t.min + t.sec

/-- RTC time as records carry it: 0 when invalid (15 Table 15.10). -/
def rtcUtc (s : State) : Nat := if rtcInvalid s then 0 else utcOfFields s.rtc.time

/-! Events, alarms and the scorecard (15) -/

/-- Records the ring holds and has not committed; it holds 1,024 (15 R413). -/
def ringFull (s : State) : Bool := decide (1024 ≤ s.rcd.ring.length)

/-- Takes the next sequence number, reserving ahead in blocks of 4,096; `reserved` is the first number not reserved (15 R411, log 136). ENGINE is APP3 for the recorder's own
codes; which engine detects any other condition is left to the implementation and is free (15 R410). -/
def enterRec (s : State) (code : Nat) (kind : Nat) (data : List Byte) : State :=
  let q := s.rcd.nextSeq
  let e := if 1 ≤ code ∧ code ≤ 4 then 0x04 else Config.eventEngine s.fresh % 256
  let r : EventRec := { seq := q, code := BitVec.ofNat 16 code, engine := e, kind := kind, data := padTo 48 data }
  s.bump.mapRcd fun x => { x with
    ring := r :: x.ring
    nextSeq := q + 1
    reserved := if q + 1 > x.reserved then x.reserved + 4096 else x.reserved
    flushTrig := if x.flushTrig.isNone && decide (768 ≤ x.ring.length + 1) then some s.now else x.flushTrig }

/-- Enters a record, or counts and drops it when the ring is full; a freed slot first carries EVENTS_LOST (15 R414). -/
def enterOrDrop (s : State) (code kind : Nat) (data : List Byte) : State :=
  if ringFull s then
    s.mapRcd fun x => { x with
      dropped := x.dropped + 1
      dropFirst := if x.dropped = 0 then s.clk.tick else x.dropFirst
      dropLast := s.clk.tick }
  else enterRec s code kind data

/-- Codes without a token bucket: the recorder's own and METROLOGY (15 R415). -/
def unlimitedCode (code : Nat) : Bool := (1 ≤ code && code ≤ 4) || code == 0x0204

/-- Enters an event under the token bucket of its code (15 R415). A bucket not listed is full. -/
def State.event (s : State) (code : Nat) (data : List Byte) (kind : Nat := 0) : State :=
  if unlimitedCode code then enterOrDrop s code kind data
  else
    let c := BitVec.ofNat 16 code
    match s.rcd.buckets.find? (fun b => b.code == c) with
    | none =>
      let s := s.mapRcd fun x => { x with buckets := { code := c, tokens := 19, count := 0, first := 0, last := 0 } :: x.buckets }
      enterOrDrop s code kind data
    | some b =>
      if b.tokens = 0 then
        s.mapRcd fun x => { x with buckets := x.buckets.map fun e =>
          if e.code == c then { e with
            count := e.count + 1
            first := if e.count = 0 then s.clk.tick else e.first
            last := s.clk.tick } else e }
      else
        let s := s.mapRcd fun x => { x with buckets := x.buckets.map fun e =>
          if e.code == c then { e with tokens := e.tokens - 1 } else e }
        enterOrDrop s code kind data

/-- The key under which an alarm of a code is active: one code may be active for several instances. -/
def alarmKey (code inst : Nat) : Nat := code + 65536 * inst

/-- An alarm is active (06 Table 6.7 FLAGS.ALARM). -/
def State.alarmOn (s : State) (code : Nat) (inst : Nat := 0) : Bool := s.sys.alarms.contains (alarmKey code inst)

/-- A trigger of the event flush: the earliest one counts (15 R413). -/
def State.trigFlush (s : State) : State := s.mapRcd fun x => { x with flushTrig := some (x.flushTrig.getD s.now) }

/-- Raises an alarm: its event with KIND 1, its state, and a flush at the next tick boundary (15 R413, R420). -/
def State.raise (s : State) (code : Nat) (data : List Byte) (inst : Nat := 0) : State :=
  if s.alarmOn code inst then s
  else
    let s := s.mapSys fun y => { y with alarms := alarmKey code inst :: y.alarms }
    s.trigFlush.event code data 1

/-- Clears an alarm: its event with KIND 2 (15 R420). -/
def State.clearAlarm (s : State) (code : Nat) (data : List Byte) (inst : Nat := 0) : State :=
  if s.alarmOn code inst then
    let s := s.mapSys fun y => { y with alarms := y.alarms.filter (fun a => a != alarmKey code inst) }
    s.event code data 2
  else s

/-- A new scorecard entry among the entries of the same tick, which stand in the order of their types; `l` is newest first and
`next` the ENTRY of the newest (15 R417, R418). -/
def placeScore (l : List ScoreEntry) (run next : Nat) (e : ScoreEntry) : List ScoreEntry :=
  let newer := (l.take run).takeWhile fun x => decide (e.typ < x.typ)
  (newer ++ e :: l.drop newer.length).mapIdx fun k x => if k ≤ newer.length then { x with entry := next - k } else x

/-- Writes a scorecard entry (15 R417, R418) and triggers a flush (15 Table 15.9). -/
def State.score (s : State) (typ : Nat) (data : List Byte) : State :=
  let e : ScoreEntry := { entry := s.rcd.scoreNext, typ := typ, state := modeCode s.sys.mode, tick := s.clk.tick, epoch := s.clk.epoch, boot := s.sys.bootNumber, utc := rtcUtc s, eventSeq := s.rcd.nextSeq, claim := s.pair.claim, fw := s.sys.fwVersion, data := data }
  let run := if s.rcd.scoreAt = some s.now then s.rcd.scoreRun else 0
  (s.mapRcd fun x => { x with
    score := (placeScore x.score run x.scoreNext e).take 256
    scoreNext := x.scoreNext + 1
    scoreAt := some s.now
    scoreRun := run + 1 }).trigFlush

/-! The host window and the rings (05) -/

/-- A byte of the host window; an unlisted byte reads 0 (05: cleared by any reset). -/
def winRead (w : List Host.Cell) (a : Nat) : Byte :=
  match w.find? (fun c => c.1 == a) with
  | some c => c.2
  | none => 0

/-- The cells of `b` placed from address `a`, zeros left out. -/
def cellsFrom (a : Nat) : List Byte → List Host.Cell
  | [] => []
  | x :: r => if x = 0 then cellsFrom (a + 1) r else (a, x) :: cellsFrom (a + 1) r

/-- The window with `b` written from address `a`, in its canonical form: addresses rising, no cell equal to 0. -/
def winWrite (w : List Host.Cell) (a : Nat) (b : List Byte) : List Host.Cell :=
  w.filter (fun c => decide (c.1 < a)) ++ cellsFrom a b ++ w.filter (fun c => decide (a + b.length ≤ c.1))

/-- The canonical form of the window: addresses strictly rising, no cell equal to what an unlisted byte reads as. -/
def Window.wf : List Host.Cell → Bool
  | [] => true
  | [c] => c.2 != 0
  | c :: d :: r => c.2 != 0 && decide (c.1 < d.1) && Window.wf (d :: r)

/-- `n` bytes of the window from address `a`. -/
def winBytes (w : List Host.Cell) (a n : Nat) : List Byte := (List.range n).map fun k => winRead w (a + k)

/-- Window offset of channel `n`'s request ring (05 R103). -/
def reqBase (n : Nat) : Nat := 0x20000 * n

/-- Window offset of channel `n`'s response ring (05 R103). -/
def rspBase (n : Nat) : Nat := 0x20000 * n + 0x10000

/-- Writes a message into a ring from slot index `i`; it continues at slot 0 past slot 63 (05 R103). -/
def ringWrite (w : List Host.Cell) (base i : Nat) (b : List Byte) : List Host.Cell :=
  let o := 0x400 * (i % 64)
  let room := 0x10000 - o
  if b.length ≤ room then winWrite w (base + o) b
  else winWrite (winWrite w (base + o) (b.take room)) base (b.drop room)

/-- Reads `n` bytes of a ring from slot index `i`, continuing at slot 0 past slot 63 (05 R103). -/
def ringRead (w : List Host.Cell) (base i n : Nat) : List Byte :=
  (List.range n).map fun k => winRead w (base + (0x400 * (i % 64) + k) % 0x10000)

/-- Cycle of the last doorbell poll of this tick, 0 before the first (05 R106). -/
def pollCycle (s : State) : Nat := 1600 * (s.clk.poll - 1)

/-- Slots that a message of `n` bytes occupies (05 R103). -/
def slotsOf (n : Nat) : Nat := ceilDiv n 1024

/-- Channel `n`. -/
def chan (s : State) (n : Nat) : Chan := s.hif.chans.getD n Chan.reset

/-- Updates channel `n`. -/
def State.onChan (s : State) (n : Nat) (f : Chan → Chan) : State :=
  s.mapHif fun h => { h with chans := updAt h.chans n f }

/-- Free slots of a channel's response ring (05 R104). -/
def rspFree (c : Chan) : Nat := 64 - (c.rspPi - c.rspCi).toNat

/-- Message bytes with header, payload and CRC (05 R109). -/
def msgBytes (ch : Nat) (m : Msg) : List Byte :=
  let body := le 2 m.status.toNat ++ le 2 m.info.toNat ++ le 4 m.detail.toNat ++ m.data
  let head := le 4 m.txn.toNat ++ le 2 m.cmd.toNat ++ le 2 body.length ++ le 1 ch ++
    le 1 (1 + 2 * bit m.notice) ++ le 2 m.compat.toNat ++ le 4 0
  let all := head ++ body
  all ++ le 4 (crc32 all).toNat

/-- Sets an interrupt flag and signals it when its enable is set (05 R107): vector `n` modulo those enabled. For the
state-change flag, which R107 gives no vector, that is bit 8 taken alike, and FLAGS.QUIET leaves the flag itself unset
(DESIGN CHOICE, log 188). -/
def State.irq (s : State) (b : Nat) (quiet : Bool) : State :=
  if quiet then s
  else
    let s := s.mapHif fun h => { h with irqStatus := h.irqStatus ||| BitVec.ofNat 9 (2 ^ b) }
    if s.hif.irqEnable.getLsbD b then s.emit (.irq (b % (max 1 s.hif.msiVectors))) else s

/-- The GCM nonce of a datagram: the direction's salt, then SEQ (05 R128). -/
def gcmNonce (salt : List Byte) (seq : Nat) : List Byte := salt ++ le 8 seq

/-- Bytes 0x00 to 0x0B of a datagram, its additional authenticated data (05 R128, Table 5.9). -/
def datagramHead (sid : U32) (seq : Nat) : List Byte := le 4 sid.toNat ++ le 8 seq

/-- A datagram of a session: head, encrypted BODY and TAG (05 Table 5.9). -/
def datagramBytes (sid : U32) (k : GcmKeys) (seq : Nat) (msg : List Byte) : List Byte :=
  datagramHead sid seq ++ Config.gcmSeal k.txKey (gcmNonce k.txSalt seq) (datagramHead sid seq) msg

/-- Ends the session of a channel and frees it, its registers as after reset (05 R122, log 168); for 60 s a remote session's history can be inherited (R127). -/
def freeChan (s : State) (n : Nat) : State :=
  let c := chan s n
  let s := match s.hif.remotes.find? (fun r => r.ch == n) with
    | none => s
    | some r =>
      let s := s.mapHif fun h => { h with
        remotes := h.remotes.filter (fun x => x.ch != n)
        ended := { cred := r.cred, ch := n, lastId := c.lastId, cache := c.cache, at_ := s.now } :: h.ended }
      s.mapSec fun x => { x with slots := r.slots.foldl (fun l i => l.set i Slot.reset) x.slots }
  s.onChan n fun _ => Chan.reset

/-- Places a message in a channel's response ring, advances RSP_PI and raises the channel's interrupt bit (05 R107).
Of a channel held by a remote session or the service port the module itself moves it on (05 Table 5.1, log 10); a remote
session whose SEQ would pass 2^32 ends instead (05 R129). -/
def place (s : State) (n : Nat) (m : Msg) : State :=
  let c := chan s n
  let b := msgBytes n m
  let s := s.mapHif fun h => { h with window := ringWrite h.window (rspBase n) c.rspPi.toNat b }
  let s := s.onChan n fun c => { c with rspPi := c.rspPi + BitVec.ofNat 16 (slotsOf b.length) }
  let s := s.irq n m.quiet
  if c.owner = 3 then
    let s := s.onChan n fun c => { c with rspCi := c.rspPi }
    match s.hif.remotes.find? (fun r => r.ch == n) with
    | none => s
    | some r =>
      if 2 ^ 32 ≤ r.txSeq then freeChan s n
      else
        let s := s.mapHif fun h => { h with remotes := h.remotes.map fun x => if x.ch == n then { x with txSeq := x.txSeq + 1 } else x }
        s.emit (.remote r.sid (r.txSeq + 1) b (datagramBytes r.sid r.keys (r.txSeq + 1) b))
  else if c.owner = 4 then
    let s := s.onChan n fun c => { c with rspCi := c.rspPi }
    s.emit (.service b)
  else s

/-- What the group tables state of a command (06 R130, R133 to R135, Tables 6.5 to 6.17). -/
structure CmdInfo where
  priv : Nat
  states : List Mode
  later : Bool
  locked : Bool
  deriving DecidableEq, Repr

/-- States written QCDMF in the tables (06 R133). -/
def stQCDMF : List Mode := [.quarantine, .commissioning, .declarer, .dummy, .failLit]

/-- The group tables of 06: lowest privilege, legal states, class A, gated K or F, by command code. -/
def cmdInfo (cmd : Nat) : Option CmdInfo :=
  match cmd with
  | 0x0101 => some ⟨0, stQCDMF, false, false⟩
  | 0x0102 => some ⟨0, stQCDMF, false, false⟩
  | 0x0103 => some ⟨2, stQCDMF, false, false⟩
  | 0x0104 => some ⟨3, [.commissioning], true, false⟩
  | 0x0105 => some ⟨3, [.declarer], false, false⟩
  | 0x0106 => some ⟨0, [.quarantine, .commissioning, .declarer], true, true⟩
  | 0x0107 => some ⟨3, [.commissioning, .declarer], true, true⟩
  | 0x0110 => some ⟨0, stQCDMF, false, false⟩
  | 0x0111 => some ⟨0, stQCDMF, false, false⟩
  | 0x0112 => some ⟨0, stQCDMF, false, false⟩
  | 0x0113 => some ⟨0, stQCDMF, false, false⟩
  | 0x0201 => some ⟨0, [.commissioning, .declarer, .dummy, .failLit], false, false⟩
  | 0x0202 => some ⟨0, [.commissioning, .declarer, .dummy, .failLit], false, false⟩
  | 0x0203 => some ⟨0, [.commissioning, .declarer, .dummy, .failLit], false, false⟩
  | 0x0204 => some ⟨2, [.commissioning, .declarer, .dummy], true, false⟩
  | 0x0205 => some ⟨3, [.commissioning, .declarer, .dummy], true, true⟩
  | 0x0206 => some ⟨2, [.commissioning, .declarer, .dummy], true, false⟩
  | 0x0207 => some ⟨2, [.commissioning, .declarer, .dummy], true, false⟩
  | 0x0208 => some ⟨2, [.declarer, .dummy], false, false⟩
  | 0x0209 => some ⟨2, [.commissioning, .declarer, .dummy], true, false⟩
  | 0x020A => some ⟨0, [.commissioning, .declarer, .dummy, .failLit], false, false⟩
  | 0x020B => some ⟨0, stQCDMF, false, false⟩
  | 0x0301 => some ⟨2, [.commissioning, .declarer, .dummy], true, false⟩
  | 0x0302 => some ⟨2, [.commissioning, .declarer, .dummy], true, false⟩
  | 0x0303 => some ⟨2, [.commissioning, .declarer, .dummy], false, false⟩
  | 0x0304 => some ⟨2, [.commissioning, .declarer, .dummy], true, false⟩
  | 0x0305 => some ⟨1, [.declarer], false, false⟩
  | 0x0306 => some ⟨0, [.commissioning, .declarer, .dummy, .failLit], false, false⟩
  | 0x0307 => some ⟨2, [.commissioning, .declarer, .dummy], false, false⟩
  | 0x0308 => some ⟨1, [.commissioning, .declarer, .dummy], false, false⟩
  | 0x0309 => some ⟨0, [.commissioning, .declarer, .dummy, .failLit], false, false⟩
  | 0x0401 => some ⟨2, [.commissioning, .declarer, .dummy], true, false⟩
  | 0x0402 => some ⟨0, [.commissioning, .declarer, .dummy, .failLit], false, false⟩
  | 0x0403 => some ⟨1, [.declarer], false, false⟩
  | 0x0404 => some ⟨2, [.commissioning, .declarer, .dummy], true, false⟩
  | 0x0405 => some ⟨1, [.declarer], false, false⟩
  | 0x0406 => some ⟨2, [.commissioning, .declarer, .dummy], true, false⟩
  | 0x0407 => some ⟨1, [.declarer], false, false⟩
  | 0x0408 => some ⟨0, stQCDMF, false, false⟩
  | 0x0409 => some ⟨2, [.commissioning], false, false⟩
  | 0x040A => some ⟨3, [.commissioning, .declarer, .dummy], true, false⟩
  | 0x0501 => some ⟨2, [.commissioning, .declarer, .dummy], true, false⟩
  | 0x0502 => some ⟨2, [.commissioning, .declarer, .dummy], true, false⟩
  | 0x0503 => some ⟨0, [.commissioning, .declarer, .dummy, .failLit], false, false⟩
  | 0x0504 => some ⟨0, [.commissioning, .declarer, .dummy, .failLit], false, false⟩
  | 0x0505 => some ⟨3, [.commissioning, .declarer, .dummy], true, false⟩
  | 0x0506 => some ⟨0, [.commissioning, .declarer, .dummy, .failLit], false, false⟩
  | 0x0507 => some ⟨1, [.declarer], false, false⟩
  | 0x0508 => some ⟨3, [.commissioning, .declarer, .dummy], true, false⟩
  | 0x0509 => some ⟨2, [.declarer], true, false⟩
  | 0x0601 => some ⟨0, stQCDMF, false, false⟩
  | 0x0602 => some ⟨2, [.commissioning, .declarer, .dummy], true, false⟩
  | 0x0603 => some ⟨2, [.commissioning, .declarer, .dummy], true, false⟩
  | 0x0604 => some ⟨2, [.commissioning, .declarer, .dummy], true, false⟩
  | 0x0605 => some ⟨2, [.commissioning, .declarer, .dummy], true, false⟩
  | 0x0606 => some ⟨2, [.commissioning, .declarer, .dummy, .failLit], false, false⟩
  | 0x0607 => some ⟨2, [.commissioning, .declarer, .dummy, .failLit], false, false⟩
  | 0x0608 => some ⟨0, stQCDMF, false, false⟩
  | 0x0701 => some ⟨2, [.commissioning, .declarer, .dummy], true, false⟩
  | 0x0702 => some ⟨2, [.commissioning, .declarer, .dummy], true, false⟩
  | 0x0703 => some ⟨2, [.commissioning, .declarer, .dummy], true, false⟩
  | 0x0704 => some ⟨2, [.commissioning, .declarer, .dummy], true, false⟩
  | 0x0705 => some ⟨2, [.commissioning, .declarer, .dummy], true, false⟩
  | 0x0706 => some ⟨2, [.commissioning, .declarer, .dummy], true, false⟩
  | 0x0707 => some ⟨1, [.declarer], false, false⟩
  | 0x0720 => some ⟨1, [.declarer], false, false⟩
  | 0x0721 => some ⟨1, [.declarer], false, false⟩
  | 0x0722 => some ⟨0, [.commissioning, .declarer, .dummy, .failLit], false, false⟩
  | 0x0801 => some ⟨0, stQCDMF, false, false⟩
  | 0x0802 => some ⟨3, [.declarer], true, false⟩
  | 0x0803 => some ⟨3, [.commissioning, .declarer, .dummy], true, false⟩
  | 0x0901 => some ⟨0, [.commissioning, .declarer, .dummy, .failLit], false, false⟩
  | 0x0902 => some ⟨0, stQCDMF, false, false⟩
  | 0x0903 => some ⟨0, stQCDMF, false, false⟩
  | 0x0904 => some ⟨0, stQCDMF, false, false⟩
  | 0x0905 => some ⟨0, [.commissioning, .declarer, .dummy, .failLit], false, false⟩
  | 0x0906 => some ⟨0, [.commissioning, .declarer, .dummy, .failLit], false, false⟩
  | 0x0907 => some ⟨2, [.commissioning, .declarer, .dummy, .failLit], true, false⟩
  | 0x0908 => some ⟨3, [.commissioning], true, false⟩
  | 0x0A01 => some ⟨0, stQCDMF, false, false⟩
  | 0x0A02 => some ⟨4, [.commissioning], true, true⟩
  | 0x0A03 => some ⟨3, [.commissioning, .declarer, .dummy], false, false⟩
  | 0x0A04 => some ⟨3, [.commissioning, .declarer, .dummy], false, false⟩
  | 0x0A05 => some ⟨3, [.commissioning, .declarer, .dummy], true, true⟩
  | 0x0A06 => some ⟨3, [.commissioning, .declarer, .dummy], false, false⟩
  | 0x0A07 => some ⟨3, [.commissioning, .declarer], true, true⟩
  | 0x0A08 => some ⟨3, [.commissioning, .declarer], true, true⟩
  | 0x0A09 => some ⟨3, stQCDMF, false, false⟩
  | 0x0A0A => some ⟨3, stQCDMF, false, false⟩
  | 0x0A0B => some ⟨3, stQCDMF, true, false⟩
  | 0x0A0C => some ⟨0, stQCDMF, false, false⟩
  | 0x0B01 => some ⟨3, stQCDMF, false, false⟩
  | 0x0B02 => some ⟨3, stQCDMF, false, false⟩
  | 0x0B03 => some ⟨3, [.quarantine, .declarer, .dummy, .failLit], true, false⟩
  | 0x0B04 => some ⟨3, stQCDMF, false, false⟩
  | 0x0B05 => some ⟨0, stQCDMF, false, false⟩
  | 0x0B06 => some ⟨3, [.commissioning, .declarer], true, true⟩
  | 0x0B07 => some ⟨3, [.declarer, .dummy], true, false⟩
  | _ => none

/-! Requests (05 R111, 06) -/

/-- The status codes of 05 Table 5.6. -/
def stOk : Nat := 0x0000
def stAccepted : Nat := 0x0001
def stDuplicate : Nat := 0x0002
def stBadLength : Nat := 0x0101
def stBadField : Nat := 0x0102
def stBadCrc : Nat := 0x0103
def stUnknown : Nat := 0x0104
def stPrivilege : Nat := 0x0201
def stState : Nat := 0x0202
def stStale : Nat := 0x0203
def stNoSeat : Nat := 0x0301
def stBusy : Nat := 0x0302
def stAnte : Nat := 0x0303
def stLimit : Nat := 0x0304
def stVerify : Nat := 0x0401
def stMigration : Nat := 0x0402
def stTamper : Nat := 0x0501

/-- What a command answers: the prefix of 05 Table 5.5 and its own response data. -/
structure Reply where
  status : Nat := 0
  info : Nat := 0
  detail : Nat := 0
  data : List Byte := []
  deriving DecidableEq, Repr

/-- OK with response data. -/
def okWith (d : List Byte) : Reply := { data := d }

/-- BAD_FIELD naming the byte offset of the first bad field (05 Table 5.6). -/
def badField (off : Nat) : Reply := { status := stBadField, info := off }

/-- The offset of the first field check that fails (05 R111 check 8). -/
def firstBad : List (Nat × Bool) → Option Nat
  | [] => none
  | (o, ok) :: r => if ok then firstBad r else some o

/-- The operation token of a request (05 R116). -/
def tokOf (s : State) (r : Req) (cmd : Nat) : OpTok :=
  let c := chan s r.ch.toNat
  { ch := r.ch.toNat, transport := c.owner, session := c.session, txn := r.txn, cmd := BitVec.ofNat 16 cmd, quiet := r.flags.getLsbD 2 }

/-- DETAIL of BUSY naming a holder (05 Table 5.6). -/
def busyDetail (t : OpTok) : Nat := t.ch + 256 * t.transport + 65536 * t.session.toNat

/-- BUSY naming a holder (05 Table 5.6). -/
def busyBy (t : OpTok) : Reply := { status := stBusy, detail := busyDetail t }

/-- SUP may read a request of this channel: served state, held channel, four free response slots (05 R106, R125). -/
def readable (s : State) (n : Nat) : Bool :=
  let c := chan s n
  ready s && c.owner != 0 && decide (4 ≤ rspFree c)

/-- The outcome of the transaction-id check (05 R120). -/
inductive IdCheck where
  | accept
  | dup (e : CacheEntry)
  | stale
  deriving DecidableEq, Repr

/-- The transaction-id rule of 05 R120; a cache entry lasts 60 s (05 R121). -/
def idCheck (s : State) (c : Chan) (x : U32) : IdCheck :=
  let d := x - c.lastId
  if !c.hasId then .accept
  else if 1 ≤ d.toNat ∧ d.toNat ≤ 0x7FFFFFFF then .accept
  else match c.cache.find? (fun e => e.txn == x && decide (s.now < e.placed + secs 60)) with
    | some e => .dup e
    | none => .stale

/-- The first header field that check 4 of 05 R111 refuses, by its offset. -/
def headerBad (s : State) (r : Req) : Option Nat :=
  firstBad [(0x08, r.chan.toNat == r.ch.toNat),
    (0x09, !r.flags.getLsbD 0 && !r.flags.getLsbD 1 && decide (r.flags.toNat < 8)),
    (0x0A, r.compat == 0 || (decide (max 1 s.sys.imageCompatLowest.toNat ≤ r.compat.toNat) && decide (r.compat.toNat ≤ s.sys.compatRunning.toNat))),
    (0x0C, r.rsv == 0)]

/-- HIF_COMPAT.LOWEST (18 R475). -/
def compatLowest (s : State) : Nat := max 1 s.sys.imageCompatLowest.toNat

/-- The compatibility level applied to a request (05 Table 5.4), which its response names; the level named in a request
whose COMPAT is refused is sent back (DESIGN CHOICE, log 189). -/
def levelOf (s : State) (r : Req) : U16 := if r.compat = 0 then s.sys.compatRunning else r.compat

/-- Commands of 06 R141 that the lifecycle leaves legal. -/
def lifecycleAllows (s : State) (cmd : Nat) : Bool :=
  if lifecycle s = 0 then 0x0110 ≤ cmd && cmd ≤ 0x0113
  else if lifecycle s = 3 then
    cmd == 0x0101 || cmd == 0x0102 || cmd == 0x0A01 || cmd == 0x0903 || cmd == 0x0904 || (0x0110 ≤ cmd && cmd ≤ 0x0113)
  else true

/-- How one command is checked: its code, payload length, field checks, what 06 R142 narrows for 0x0106, the limited
count it may find exhausted (16 R433), and the refusal of its token (16 R428). -/
structure Rule where
  cmd : Nat
  len : Nat
  fields : List (Nat × Bool) := []
  priv : Option Nat := none
  legal : Option Bool := none
  limit : Option (Nat × Nat) := none
  refuse : Option Reply := none
  deriving DecidableEq, Repr

/-- Asynchronous operations outstanding on a channel's session (05 R117). -/
def opsOn (s : State) (n : Nat) : Nat := (s.hif.ops.filter fun t => t.ch == n).length

/-- Checks 4 to 9 of 05 R111 and then the command's own work `body`; a check that fails has no effect. -/
def checked (s : State) (r : Req) (k : Rule) (body : OpTok → State → State × Reply) : State × Reply :=
  let c := chan s r.ch.toNat
  let t := tokOf s r k.cmd
  match headerBad s r with
  | some o => (s, badField o)
  | none =>
    match cmdInfo k.cmd with
    | none => (s, { status := stUnknown, info := (levelOf s r).toNat })
    | some i =>
      let need := k.priv.getD i.priv
      if c.priv < need then (s, { status := stPrivilege, info := need, detail := c.priv })
      else if !(k.legal.getD (i.states.contains s.sys.mode && lifecycleAllows s k.cmd)) then
        (s, { status := stState, info := if lifecycleAllows s k.cmd then modeCode s.sys.mode else 0x02 })
      else if r.len.toNat ≠ k.len then (s, { status := stBadLength, info := 0, detail := r.len.toNat })
      else match firstBad k.fields with
        | some o => (s, badField o)
        | none => match k.refuse with
        | some p => (s, p)
        | none =>
          if i.locked ∧ s.sec.tamper.latched ≠ 0 then
            (s, { status := stTamper, info := s.sec.tamper.latched.toNat })
          else match k.limit with
            | some (code, d) => (s, { status := stLimit, info := code, detail := d })
            | none =>
              if i.later ∧ 32 ≤ opsOn s r.ch.toNat then (s, busyBy t)
              else body t s

/-- The response message of a reply: data follows only OK, ACCEPTED and DUPLICATE (05 R110). -/
def rspMsg (s : State) (r : Req) (cmd : Nat) (p : Reply) : Msg where
  txn := r.txn
  cmd := BitVec.ofNat 16 cmd
  notice := false
  quiet := r.flags.getLsbD 2
  compat := levelOf s r
  status := BitVec.ofNat 16 p.status
  info := BitVec.ofNat 16 p.info
  detail := BitVec.ofNat 32 p.detail
  data := if p.status ≤ stDuplicate then p.data else []

/-- The session that a channel held when a request was read is still the one in force. -/
def sessionHolds (s : State) (t : OpTok) : Bool :=
  let c := chan s t.ch
  c.owner != 0 && c.session == t.session

/-- Places a response and keeps it in the duplicate cache of 64 (05 R112, R121); an answer ACCEPTED or ANTE_FAILED
opens an asynchronous operation (05 R116). -/
def answer (s : State) (r : Req) (cmd : Nat) (t : OpTok) (p : Reply) : State :=
  let n := r.ch.toNat
  let m := rspMsg s r cmd p
  let e : CacheEntry := { txn := r.txn, cmd := m.cmd, compat := m.compat, status := m.status, info := m.info, detail := m.detail, data := m.data, placed := s.now, notice := none }
  let s := s.onChan n fun c => { c with cache := (e :: c.cache.filter (fun x => x.txn != r.txn)).take 64 }
  let s := if p.status = stAccepted ∨ p.status = stAnte then s.mapHif fun h => { h with ops := h.ops ++ [t] } else s
  place s n m

/-- The DUPLICATE answer with the cached data, then a copy of the notice already issued (05 R121). -/
def answerDup (s : State) (r : Req) (e : CacheEntry) : State :=
  let n := r.ch.toNat
  let m : Msg := { txn := r.txn, cmd := e.cmd, notice := false, quiet := r.flags.getLsbD 2, compat := e.compat, status := BitVec.ofNat 16 stDuplicate, info := e.status, detail := e.detail, data := e.data }
  let s := place s n m
  match e.notice with
  | none => s
  | some k =>
    if 4 ≤ rspFree (chan s n) then place s n k
    else s.onChan n fun c => { c with waiting := c.waiting ++ [k] }

/-- The whole service of one request read with good framing and CRC: id check, checks 4 to 9, effect, response, cache
(05 R111, R112). A request SUP may not read yet leaves the state as it is (log 4). -/
def gmp (s : State) (r : Req) (k : Rule) (body : OpTok → State → State × Reply) : State :=
  let n := r.ch.toNat
  if !readable s n then s
  else if 4076 < r.len.toNat then
    let m := rspMsg s r k.cmd { status := stBadLength, info := 1, detail := 20 + r.len.toNat }
    place (s.onChan n fun c => { c with reqCi := c.reqPi, resync := true }) n m
  else match idCheck s (chan s n) r.txn with
    | .stale => place s n (rspMsg s r k.cmd { status := stStale, detail := (chan s n).lastId.toNat })
    | .dup e => answerDup s r e
    | .accept =>
      let s := s.onChan n fun c => { c with lastId := r.txn, hasId := true }
      let t := tokOf s r k.cmd
      let (s', p) := checked s r k body
      let s' := answer s' r k.cmd t p
      if (chan s' n).closing then freeChan s' n else s'

/-- A completion notice of an operation (05 R116). Its COMPAT is the level in force when it is made (DESIGN CHOICE,
log 189). -/
def noticeMsg (s : State) (t : OpTok) (p : Reply) : Msg where
  txn := t.txn
  cmd := t.cmd
  notice := true
  quiet := t.quiet
  compat := s.sys.compatRunning
  status := BitVec.ofNat 16 p.status
  info := BitVec.ofNat 16 p.info
  detail := BitVec.ofNat 32 p.detail
  data := if p.status ≤ stDuplicate then p.data else []

/-- Places a notice: it is now the one that a duplicate's answer repeats (05 R121). -/
def placeNotice (s : State) (n : Nat) (m : Msg) : State :=
  place (s.onChan n fun c => { c with cache := c.cache.map fun e => if e.txn == m.txn then { e with notice := some m } else e }) n m

/-- Finishes an outstanding operation with its one notice: placed, or waiting for four free slots (05 R117), or, when
its session has ended, recorded as ORPHAN_RESULT (05 after R119, 15 Table 15.13). -/
def finishOp (s : State) (t : OpTok) (p : Reply) : State :=
  if !s.hif.ops.contains t then s
  else
    let s := s.mapHif fun h => { h with ops := h.ops.erase t }
    let m := noticeMsg s t p
    if sessionHolds s t then
      if (chan s t.ch).waiting.isEmpty ∧ 4 ≤ rspFree (chan s t.ch) then placeNotice s t.ch m
      else s.onChan t.ch fun c => { c with waiting := c.waiting ++ [m] }
    else
      s.event 0x0110 (le 1 t.ch ++ le 1 t.transport ++ le 2 t.session.toNat ++ le 4 t.txn.toNat ++ le 2 t.cmd.toNat ++ le 2 p.status)

/-- Finishes the operation when there is one. -/
def finishOpt (s : State) (t : Option OpTok) (p : Reply) : State :=
  match t with
  | none => s
  | some t => finishOp s t p

/-! The ante and its stores (03 R70 to R72) -/

/-- 2 x 10^4 x E_avail in nJ, exactly, by the words of 03 R70: C in mF, V and ESR in mV and milliohm. -/
def availScaled (s : State) : Int :=
  let vlow : Int := 99 * Int.ofNat s.pow.stackMv
  let vend : Int := 100 * (6000 + 3 * Int.ofNat s.pow.stackEsr)
  Int.ofNat s.pow.stackCmF * (vlow * vlow - vend * vend)

/-- E_avail in units of 10 mJ, rounded down, at least 0 (05 Table 5.6 ANTE_FAILED). -/
def availUnits (s : State) : Nat := ((availScaled s) / 200000000000).toNat

/-- 1.5 x E_store of a kind, mJ (03 Table 3.4). -/
def anteMj : StoreKind → Nat
  | .nand => 1080
  | .key => 810
  | .fuse => 675
  | .image => 24000
  | .closing => 1620

/-- The ante passes for `mj` millijoules (03 R70). -/
def antePasses (s : State) (mj : Nat) : Bool := decide (Int.ofNat mj * 20000000000 ≤ availScaled s)

/-- A store of the kind is deferred or waits behind one (03 R72). -/
def deferredKind (s : State) (k : StoreKind) : Bool := s.pow.stores.any fun x => x.kind == k && !x.running

/-- Asks for a store: it runs when its ante passes, no earlier store of its kind is deferred and no early warning
stands (03 R72, R73); otherwise it is deferred. -/
def requestStore (s : State) (k : StoreKind) (mj : Nat) (p : StorePurpose) (t : Option OpTok) : State :=
  let go := antePasses s mj && !deferredKind s k && !s.pow.warning
  s.mapPow fun w => { w with stores := w.stores ++ [{ kind := k, mj := mj, purpose := p, tok := t, since := s.now, running := go }] }

/-- The newest store asked for runs. -/
def storeRuns (s : State) : Bool :=
  match s.pow.stores.getLast? with
  | some x => x.running
  | none => false

/-- The answer to a command whose store starts before the response (06 R136, Table 6.2). -/
def gateReply (s : State) (info mj : Nat) : Reply :=
  if storeRuns s then { status := stAccepted }
  else { status := stAnte, info := info, detail := availUnits s + 65536 * ceilDiv mj 10 }

/-- A store is deferred (06 Table 6.7 FLAGS.ANTE_DEFERRED). -/
def anteDeferred (s : State) : Bool := s.pow.stores.any fun x => !x.running

/-- Fuse changes of the same counter that are accepted and not yet done. -/
def queuedChanges (s : State) (p : FuseChange → Bool) : Nat :=
  (s.sec.fuseQueue.filter fun x => p x.change).length +
  (s.pow.stores.filter fun x => match x.purpose with | .fuse c => p c | _ => false).length

/-! Changes that wait for a round boundary (04 R92) -/

/-- The round at whose end a change admitted now takes force (04 R92). -/
def changeRound (s : State) : Nat := if tickInRound s ≤ 7199 then curRound s else curRound s + 1

/-- Admits a change: it waits for its round boundary (04 R92), and its command is answered ACCEPTED. -/
def admitChange (s : State) (t : OpTok) (i : Instr) (data : List Byte := []) : State × Reply :=
  ({ s with changes := s.changes ++ [{ tok := t, what := i, round := changeRound s }] },
   { status := stAccepted, data := data })

/-- An accepted command of a declarer in a pair passes to the dummy: its request waits to be replayed in the tick in
which it takes effect, the next one (06 R140, 14 R371). -/
def passOn (i : Instr) (x : State × Reply) : State × Reply :=
  if x.2.status ≤ stAccepted ∧ paired x.1 ∧ x.1.sys.mode = .declarer then
    (x.1.mapPair fun p => { p with replays := p.replays ++ [(x.1.clk.tick + 1, requestBytes i)] }, x.2)
  else x

/-- The cut of a paged result (06 R139): items with their keys in ascending order, head bytes after the paging part. -/
def page (cursor : U64) (maxN : U16) (extra : List Byte) (items : List (Nat × List Byte)) : List Byte :=
  let l := items.filter fun x => decide (cursor.toNat ≤ x.1)
  let rec take (room n : Nat) : List (Nat × List Byte) → List (List Byte) × Option Nat
    | [] => ([], none)
    | (k, b) :: r =>
      match n with
      | 0 => ([], some k)
      | m + 1 => if b.length ≤ room then let (x, y) := take (room - b.length) m r; (b :: x, y) else ([], some k)
  let (got, nx) := take (4096 - 16 - 8 - 12 - 4 - extra.length) maxN.toNat l
  le 8 (nx.getD 0xFFFFFFFFFFFFFFFF) ++ le 2 got.length ++ le 2 0 ++ extra ++ got.flatten

/-- The class code and index of an object reference (06 R137). -/
def refClass (v : U32) : Nat := v.toNat / 0x1000000
def refIndex (v : U32) : Nat := v.toNat % 0x1000000

/-- An object reference (06 R137). -/
def mkRef (cls idx : Nat) : U32 := BitVec.ofNat 32 (cls * 0x1000000 + idx)

/-- Every node record, own and adopted (10 R281). -/
def allNodes (s : State) : List NodeRec := s.cfg.nodes ++ s.mesh.adopted

/-- The record of a node. -/
def nodeRec (s : State) (n : U32) : Option NodeRec := (allNodes s).find? fun x => x.node == n

/-- The association of a node. -/
def assocOf (s : State) (n : U32) : Option Assoc := s.mesh.assocs.find? fun a => a.node == n

/-- Updates the association of a node. -/
def State.onAssoc (s : State) (n : U32) (f : Assoc → Assoc) : State :=
  s.mapMesh fun m => { m with assocs := m.assocs.map fun a => if a.node == n then f a else a }

/-- The owner record in force: the valid copy with the higher count (16 R427). -/
def ownerRec (s : State) : Option Owner :=
  (s.sec.owners.filter fun o => o.crcOk).foldl (fun b o =>
    match b with
    | none => some o
    | some x => if x.count < o.count then some o else some x) none

/-- A hand may be delivered: its EXPIRY has not passed at a round boundary, which is not applied while LOCK is 0 (16 R439). -/
def handLive (s : State) (h : Hand) : Bool := !h.expired || s.eth.servo.lock == 0

end Sys2Proof.Machine
end

