-- ==== Sys2Proof/Machine/Calendar.lean ====
section
/-!
DEFINITION. Civil time and the sun (13 R349 to R354): the TZ string and its mapping, schedule days, events of the sun,
and the level a schedule supplies at a UTC second.
-/

namespace Sys2Proof.Machine

open Sys2Proof

/-! Days and dates of the Gregorian calendar, days counted from 2000-01-01 -/

/-- The day number of a date; 10,957 days lie between 1970-01-01 and 2000-01-01. -/
def daysFromCivil (y : Int) (m d : Nat) : Int :=
  let y := if m ≤ 2 then y - 1 else y
  let era := Int.fdiv y 400
  let yoe := y - era * 400
  let doy : Int := (153 * ((m : Int) + (if 2 < m then -3 else 9)) + 2) / 5 + (d : Int) - 1
  era * 146097 + (yoe * 365 + yoe / 4 - yoe / 100 + doy) - 719468 - 10957

/-- The year, month and day of a day number. -/
def civilFromDays (n : Int) : Int × Nat × Nat :=
  let z := n + 10957 + 719468
  let era := Int.fdiv z 146097
  let doe := z - era * 146097
  let yoe := (doe - doe / 1460 + doe / 36524 - doe / 146096) / 365
  let doy := doe - (365 * yoe + yoe / 4 - yoe / 100)
  let mp := (5 * doy + 2) / 153
  let d := doy - (153 * mp + 2) / 5 + 1
  let m := if mp < 10 then mp + 3 else mp - 9
  ((if m ≤ 2 then yoe + era * 400 + 1 else yoe + era * 400), m.toNat, d.toNat)

/-- A year has a 29 February. -/
def isLeap (y : Int) : Bool := (y % 4 == 0 && y % 100 != 0) || y % 400 == 0

/-- Days of a month of a year. -/
def daysOf (y : Int) (m : Nat) : Nat :=
  if m = 2 then (if isLeap y then 29 else 28) else if m = 4 ∨ m = 6 ∨ m = 9 ∨ m = 11 then 30 else 31

/-- Weekday of a day number, 0 Monday to 6 Sunday; 2000-01-01 was a Saturday. -/
def weekday (n : Int) : Nat := ((n + 5) % 7).toNat

/-! The TZ string (13 R354) -/

/-- A parser over the bytes of a TZ string. -/
abbrev Tz (α : Type) := List Byte → Option (α × List Byte)

/-- A decimal digit. -/
def tzDigit (b : Byte) : Bool := decide (0x30 ≤ b.toNat) && decide (b.toNat ≤ 0x39)

/-- A letter. -/
def tzAlpha (b : Byte) : Bool :=
  (decide (0x41 ≤ b.toNat) && decide (b.toNat ≤ 0x5A)) || (decide (0x61 ≤ b.toNat) && decide (b.toNat ≤ 0x7A))

/-- A decimal number of one to three digits. -/
def tzNum : Tz Nat := fun b =>
  let d := b.takeWhile tzDigit
  if d.isEmpty ∨ 3 < d.length then none
  else some (d.foldl (fun n x => 10 * n + (x.toNat - 0x30)) 0, b.drop d.length)

/-- The rest after one given byte. -/
def tzChar (c : Nat) : List Byte → Option (List Byte)
  | [] => none
  | x :: r => if x.toNat = c then some r else none

/-- A zone name: three or more letters, or three or more letters, digits and signs in angle brackets. -/
def tzName (b : List Byte) : Option (List Byte) :=
  match tzChar 0x3C b with
  | some r =>
    let n := r.takeWhile fun x => tzAlpha x || tzDigit x || x == 0x2B || x == 0x2D
    if n.length < 3 then none else tzChar 0x3E (r.drop n.length)
  | none =>
    let n := b.takeWhile tzAlpha
    if n.length < 3 then none else some (b.drop n.length)

/-- `:` and a number of at most 59, when present. -/
def tzSixty : Tz (Option Nat) := fun b =>
  match tzChar 0x3A b with
  | none => some (none, b)
  | some r =>
    match tzNum r with
    | none => none
    | some (n, r) => if n ≤ 59 then some (some n, r) else none

/-- A time hh[:mm[:ss]] in seconds, hours up to 24. -/
def tzTime : Tz Nat := fun b =>
  match tzNum b with
  | none => none
  | some (h, b) =>
    if 24 < h then none
    else match tzSixty b with
      | none => none
      | some (none, b) => some (3600 * h, b)
      | some (some m, b) =>
        match tzSixty b with
        | none => none
        | some (x, b) => some (3600 * h + 60 * m + x.getD 0, b)

/-- A zone offset with its optional sign, in seconds west of UTC. -/
def tzOffset : Tz Int := fun b =>
  match tzChar 0x2D b with
  | some r => (tzTime r).map fun x => (-(x.1 : Int), x.2)
  | none => (tzTime ((tzChar 0x2B b).getD b)).map fun x => ((x.1 : Int), x.2)

/-- The date of a change rule: Jn, n or Mm.w.d; its time is set by `tzRule`. -/
def tzDate : Tz TzRule := fun b =>
  match tzChar 0x4A b with
  | some r =>
    match tzNum r with
    | none => none
    | some (n, r) => if 1 ≤ n ∧ n ≤ 365 then some ({ form := 0, a := n, b := 0, c := 0, time := 7200 }, r) else none
  | none =>
    match tzChar 0x4D b with
    | none =>
      match tzNum b with
      | none => none
      | some (n, r) => if n ≤ 365 then some ({ form := 1, a := n, b := 0, c := 0, time := 7200 }, r) else none
    | some r =>
      match tzNum r with
      | none => none
      | some (m, r) =>
        match (tzChar 0x2E r).bind tzNum with
        | none => none
        | some (w, r) =>
          match (tzChar 0x2E r).bind tzNum with
          | none => none
          | some (d, r) =>
            if 1 ≤ m ∧ m ≤ 12 ∧ 1 ≤ w ∧ w ≤ 5 ∧ d ≤ 6 then some ({ form := 2, a := m, b := w, c := d, time := 7200 }, r) else none

/-- A change rule with its optional /time; without one the time is 02:00:00. -/
def tzRule : Tz TzRule := fun b =>
  match tzDate b with
  | none => none
  | some (u, b) =>
    match tzChar 0x2F b with
    | none => some (u, b)
    | some r => (tzTime r).map fun x => ({ u with time := (x.1 : Int) }, x.2)

/-- The daylight part: its offset and both rules. A daylight name without rules is not parsed (log 21). -/
def tzDst (std : Int) (b : List Byte) : Option (Int × TzRule × TzRule) :=
  match tzName b with
  | none => none
  | some b =>
    let (o, b) := match tzOffset b with
      | some (x, r) => (-x, r)
      | none => (std + 3600, b)
    match (tzChar 0x2C b).bind tzRule with
    | none => none
    | some (r1, b) =>
      match (tzChar 0x2C b).bind tzRule with
      | none => none
      | some (r2, b) => if b.isEmpty then some (o, r1, r2) else none

/-- Parses a POSIX.1 TZ string (13 R354). -/
def parseTz (b : List Byte) : Option Zone :=
  match tzName b with
  | none => none
  | some r =>
    match tzOffset r with
    | none => none
    | some (west, r) =>
      if r.isEmpty then some { std := -west, dst := none, text := b }
      else (tzDst (-west) r).map fun d => { std := -west, dst := some d, text := b }

/-- The day number on which a change rule falls in year `y`. -/
def ruleDay (y : Int) (u : TzRule) : Int :=
  if u.form = 0 then daysFromCivil y 1 1 + (u.a : Int) - 1 + (if isLeap y ∧ 60 ≤ u.a then 1 else 0)
  else if u.form = 1 then daysFromCivil y 1 1 + (u.a : Int)
  else
    let first := daysFromCivil y u.a 1
    let sunday0 := (weekday first + 1) % 7
    let d := (u.c + 7 - sunday0) % 7 + 7 * (u.b - 1)
    first + ((if daysOf y u.a ≤ d then d - 7 else d : Nat) : Int)

/-- The UTC instants at which daylight saving starts and ends in year `y` of the zone. -/
def dstSpan (z : Zone) (y : Int) : Option (Int × Int) :=
  z.dst.map fun d => (86400 * ruleDay y d.2.1 + d.2.1.time - z.std, 86400 * ruleDay y d.2.2 + d.2.2.time - d.1)

/-- Daylight saving holds at a UTC second. -/
def inDst (z : Zone) (u : Int) : Bool :=
  let y := (civilFromDays (Int.fdiv (u + z.std) 86400)).1
  match dstSpan z y with
  | none => false
  | some (a, b) => if a < b then decide (a ≤ u) && decide (u < b) else decide (a ≤ u) || decide (u < b)

/-- Seconds to add to UTC for civil time (13 R354). -/
def zoneOffset (z : Zone) (u : Int) : Int :=
  match z.dst with
  | none => z.std
  | some d => if inDst z u then d.1 else z.std

/-- The UTC second of a local time: its first occurrence, or the first instant after a gap (13 R350). -/
def utcOfLocal (z : Zone) (l : Int) : Int :=
  match z.dst with
  | none => l - z.std
  | some d =>
    let lo := l - max z.std d.1
    let hi := l - min z.std d.1
    if lo + zoneOffset z lo = l then lo
    else if hi + zoneOffset z hi = l then hi
    else
      let y := (civilFromDays (Int.fdiv l 86400)).1
      let edges := ([y - 1, y, y + 1].filterMap (dstSpan z)).flatMap fun x => [x.1, x.2]
      (edges.find? fun t => decide (lo < t) && decide (t ≤ hi)).getD hi

/-- The civil offset in force at a round's start, whole minutes (15 Table 15.5 ZONE). -/
def zoneMinutes (s : State) (u : Int) : Int := Int.tdiv (zoneOffset s.cfg.zone u) 60

/-! The sun (13 R351), in double precision -/

/-- Degrees to radians. -/
def rad (x : Float) : Float := x * 3.141592653589793 / 180.0

/-- Radians to degrees. -/
def deg (x : Float) : Float := x * 180.0 / 3.141592653589793

/-- fmod by 360 of a value that is not negative. -/
def mod360 (x : Float) : Float := x - 360.0 * Float.floor (x / 360.0)

/-- An event of the sun on a date. -/
inductive Sun where
  | at_ (utc : Int)
  | staysAbove
  | staysBelow
  deriving DecidableEq, Repr

/-- The nearest second, as UTC, of a time in days from 2000-01-01 12:00 UTC. -/
def sunSecond (j : Float) : Int := (Float.toInt64 (Float.round (j * 86400.0))).toInt + 43200

/-- The set or rise through h0 on the date of day number `n` (13 R351). -/
def sunEvent (lat lon : Int) (civil rise : Bool) (n : Int) : Sun :=
  let la := Float.ofInt lat / 1000000.0
  let lo := Float.ofInt lon / 1000000.0
  let h0 : Float := if civil then -6.0 else -0.833
  let j := Float.ofInt n - lo / 360.0
  let m := mod360 (357.5291 + 0.98560028 * j)
  let c := 1.9148 * Float.sin (rad m) + 0.0200 * Float.sin (rad (2.0 * m)) + 0.0003 * Float.sin (rad (3.0 * m))
  let lam := mod360 (m + c + 282.9372)
  let jt := j + 0.0053 * Float.sin (rad m) - 0.0069 * Float.sin (rad (2.0 * lam))
  let dec := Float.asin (Float.sin (rad lam) * Float.sin (rad 23.44))
  let cw := (Float.sin (rad h0) - Float.sin (rad la) * Float.sin dec) / (Float.cos (rad la) * Float.cos dec)
  if cw < -1.0 then .staysAbove
  else if cw > 1.0 then .staysBelow
  else
    let w := deg (Float.acos cw)
    .at_ (sunSecond (if rise then jt - w / 360.0 else jt + w / 360.0))

/-! Schedule days and steps (13 R348 to R353) -/

/-- The start of schedule day `d`: 12:00 local on the date (13 R349). -/
def dayStart (z : Zone) (d : Int) : Int := utcOfLocal z (86400 * d + 43200)

/-- The schedule day that holds a UTC second (13 R349). -/
def schedDay (z : Zone) (u : Int) : Int :=
  let d := Int.fdiv (u + zoneOffset z u - 43200) 86400
  if u < dayStart z d then d - 1 else if dayStart z (d + 1) ≤ u then d + 1 else d

/-- The first day of a date entry in year `y`; 29 February moves to 1 March in a year without one (13 R349). -/
def entryStart (e : DateEntry) (y : Int) : Int :=
  if e.month = 2 ∧ e.day = 29 ∧ !isLeap y then daysFromCivil y 3 1 else daysFromCivil y e.month e.day

/-- A date lies within a date entry (13 R349). -/
def entryCovers (e : DateEntry) (d : Int) : Bool :=
  let y := (civilFromDays d).1
  let ys := if e.year = 0xFF then [y - 1, y] else [2000 + (e.year : Int)]
  ys.any fun y => decide (entryStart e y ≤ d) && decide (d < entryStart e y + (e.span : Int))

/-- The schedule is active on schedule day `d` (13 R349). -/
def schedActive (c : Sched) (d : Int) : Bool :=
  (c.days.getLsbD (weekday d) || c.dates.any (fun e => !e.excl && entryCovers e d)) &&
    !(c.dates.any fun e => e.excl && entryCovers e d)

/-- The instant of a step in schedule day `d` (13 R350, R351). -/
def stepInstant (z : Zone) (c : Sched) (t : SchedStep) (d : Int) : Int :=
  let a := dayStart z d
  let b := dayStart z (d + 1)
  if t.ref = 0 then
    let u := utcOfLocal z (86400 * d + 43200 + 60 * t.offset)
    max a (min u b)
  else
    let rise := t.ref == 2 || t.ref == 4
    let civil := t.ref == 3 || t.ref == 4
    let base := match sunEvent c.lat c.lon civil rise (if rise then d + 1 else d) with
      | .at_ u => u
      | .staysAbove => if rise then a else b
      | .staysBelow => if rise then b else a
    max a (min (base + 60 * t.offset) b)

/-- The LEVEL step in force by `u` on day `d`: the last by instant, then table order, at or before it (13 R350). -/
def lastLevel (z : Zone) (c : Sched) (d : Int) (u : Int) : Option SchedStep :=
  ((c.steps.filter fun t => t.act == 0).foldl (fun (b : Option (Int × SchedStep)) t =>
    let i := stepInstant z c t d
    if u < i then b
    else match b with
      | none => some (i, t)
      | some x => if x.1 ≤ i then some (i, t) else b) none).map (·.2)

/-- The level and fade that a schedule supplies at a UTC second (13 R352). On a day that is not active it supplies none
(log 22). -/
def schedLevel (z : Zone) (c : Sched) (u : Int) : Option (Nat × Nat) :=
  let d := schedDay z u
  if !schedActive c d then none
  else match lastLevel z c d u with
    | some t => some (t.value, t.arg)
    | none =>
      if schedActive c (d - 1) then (lastLevel z c (d - 1) (dayStart z d)).map fun t => (t.value, t.arg) else none

end Sys2Proof.Machine
end

