-- ==== Sys2Proof/Machine/Changes.lean ====
section
/-!
DEFINITION. What each configuration command leaves in the configuration records (15 R421, Table 15.15): one function a
command over `Cfg`, and the configuration with every admitted change applied, against which admission is judged
(04 R91, R92).
-/

namespace Sys2Proof.Machine

open Sys2Proof

/-- `l` with the entries that `p` names replaced by `x`, `x` inserted where `lt` places it. -/
def putSorted {α : Type} (l : List α) (key : α → Nat) (x : α) : List α :=
  l.filter (fun y => decide (key y < key x)) ++ x :: l.filter (fun y => decide (key x < key y))

/-! Metering (07) -/

/-- The correction points of a request (07 Table 7.2). -/
def pointsOf (l : List CorrectionSegmentsE) : List CorrPoint :=
  (l.mapIdx fun k e => { brk := if k = 0 then 0 else e.brk.toNat, gain := i32 e.gain, phase := i32 e.phase : CorrPoint })

/-- What 0x0204 leaves. -/
def cfgCorr (p : CorrectionSegmentsP) (c : Cfg) : Cfg :=
  { c with corr := updAt c.corr p.channel.toNat fun _ =>
      { integ := ((p.points.head?.map fun e => e.brk.getLsbD 31).getD false), points := pointsOf p.points } }

/-- Position of a register in an energy set, ascending REG; none for a code that Table 7.8 does not give. -/
def regIndex (reg : Nat) : Option Nat :=
  let q := reg / 16
  let f := reg % 16
  if 1 ≤ q ∧ q ≤ 5 ∧ f ≤ 3 then some (4 * (q - 1) + f) else none

/-- REG of position `i` (07 R167). -/
def regCode (i : Nat) : Nat := 16 * (i / 4 + 1) + i % 4

/-- What 0x0206 leaves. -/
def cfgMode (p : AccumulationModeP) (c : Cfg) : Cfg :=
  match regIndex p.reg.toNat with
  | none => c
  | some i => { c with accModes := updAt c.accModes i fun _ => p.mode == 1 }

/-- The m-sequence a of 07 R175 from a window of ten bits: `n` bits. -/
def mSequence : Nat → List Bool → List Bool
  | 0, _ => []
  | n + 1, w => w.getD 0 false :: mSequence n (w.drop 1 ++ [xor (w.getD 7 false) (w.getD 0 false)])

/-- Sequence a, 1,023 bits (07 R175). -/
def goldA : List Bool := mSequence 1023 (List.replicate 9 false ++ [true])

/-- Sequence b, the decimation of a by 65 (07 R175). -/
def goldB : List Bool :=
  let a := goldA.toArray
  (List.range 1023).map fun i => a.getD (65 * i % 1023) false

/-- The chips of a suit code, 0 to 1,024 (07 R175). -/
def goldCode (code : Nat) : List Bool :=
  if code = 0 then goldA
  else if code = 1 then goldB
  else
    let b := goldB.toArray
    goldA.mapIdx fun i x => xor x (b.getD ((i + (code - 2)) % 1023) false)

/-- A code with 512 chips of one value and 511 of the other (07 R176). -/
def balanced (code : Nat) : Bool :=
  decide (code ≤ 1024) && (let n := (goldCode code).count true; n == 512 || n == 511)

/-- The configured feeder of an own node. -/
def cfgFeeder (c : Cfg) (n : U32) : Option Nat := (c.nodes.find? fun x => x.node == n).map (·.feeder)

/-- A code in use on a feeder by a lantern other than `n`. -/
def codeUsed (c : Cfg) (f : Nat) (code : Nat) (n : U32) : Bool :=
  c.suit.any fun x => x.2 == code && x.1 != n && cfgFeeder c x.1 == some f

/-- The lowest-numbered balanced code not in use on a feeder (07 R176). -/
def lowestCode (c : Cfg) (f : Nat) (n : U32) : Nat :=
  ((List.range 1025).find? fun k => !codeUsed c f k n && balanced k).getD 0

/-- Removes a lantern's code. -/
def dropCode (c : Cfg) (n : U32) : Cfg := { c with suit := c.suit.filter fun x => x.1 != n }

/-- One item of 0x0209. -/
def cfgSuitItem (f : Nat) (c : Cfg) (e : AssignSuitCodesE) : Cfg :=
  if e.code = 0xFFFF then dropCode c e.node
  else
    let code := if e.code = 0xFFFE then lowestCode c f e.node else e.code.toNat
    { c with suit := putSorted (dropCode c e.node).suit (fun x => x.1.toNat) (e.node, code) }

/-- What 0x0209 leaves: its items in order. -/
def cfgSuit (p : AssignSuitCodesP) (c : Cfg) : Cfg := p.items.foldl (cfgSuitItem p.feeder.toNat) c

/-! Control (08) -/

/-- The loop of an index. -/
def cfgLoopOf (c : Cfg) (i : Nat) : Option LoopCfg := c.loops.find? fun x => x.idx == i

/-- What 0x0301 leaves: a loop that exists keeps its banks (08 R189). -/
def cfgLoop (p : ConfigureLoopP) (c : Cfg) : Cfg :=
  let i := refIndex p.loop
  let old := cfgLoopOf c i
  { c with loops := putSorted c.loops (·.idx) {
      idx := i, kind := p.kind.toNat, output := p.output.toNat,
      dEn := p.opts.getLsbD 0, spHost := p.opts.getLsbD 1, satAct := (p.opts.extractLsb' 2 2).toNat, pOnly := p.opts.getLsbD 4,
      pvSrc := p.pvSrc.toNat, ffSrc := p.ffSrc.toNat, rampUp := p.rampUp.toNat, rampDn := p.rampDn.toNat,
      satMs := p.satMs.toNat, group := p.group.toNat,
      bankA := (old.map (·.bankA)).getD Bank.reset, bankB := (old.map (·.bankB)).getD Bank.reset,
      activeB := (old.map (·.activeB)).getD false } }

/-- What 0x0302 leaves. -/
def cfgLoopGone (p : RemoveLoopP) (c : Cfg) : Cfg := { c with loops := c.loops.filter fun x => x.idx != refIndex p.loop }

/-- The bank that 0x0303 carries (08 Table 8.5). -/
def bankOf (p : ShadowCoefficientsP) : Bank where
  kp := i32 p.kp
  ki := i32 p.ki
  kd := i32 p.kd
  n1f := p.n1f.toNat
  n1q := p.n1q.toNat
  n2f := p.n2f.toNat
  n2q := p.n2q.toNat
  kff := i32 p.kff
  outMin := i32 p.outMin
  outMax := i32 p.outMax

/-- A loop with a bank written as its shadow (08 R190). -/
def withShadow (l : LoopCfg) (b : Bank) : LoopCfg := if l.activeB then { l with bankA := b } else { l with bankB := b }

/-- What 0x0303 leaves. -/
def cfgShadow (p : ShadowCoefficientsP) (c : Cfg) : Cfg :=
  { c with loops := c.loops.map fun l => if l.idx = refIndex p.loop then withShadow l (bankOf p) else l }

/-- The active bank of a loop. -/
def activeBank (l : LoopCfg) : Bank := if l.activeB then l.bankB else l.bankA

/-- The shadow bank of a loop. -/
def shadowBank (l : LoopCfg) : Bank := if l.activeB then l.bankA else l.bankB

/-- A loop after a swap: the banks exchanged, the new shadow a copy of the new active bank (08 Table 8.7). -/
def swapped (l : LoopCfg) : LoopCfg :=
  let b := shadowBank l
  { l with activeB := !l.activeB, bankA := b, bankB := b }

/-! Outputs (09) -/

/-- What 0x0401 leaves (09 R225, R232). -/
def cfgStage (p : ConfigureOutputStageP) (c : Cfg) : Cfg :=
  let l := p.link.toNat
  let a := p.addr.toNat
  if l = 2 then { c with aiModes := updAt c.aiModes a fun _ => p.mode.toNat }
  else if a = 0xFF then { c with term := updAt c.term l fun _ => p.mode.getLsbD 0 }
  else if p.feeder = 0xFF then { c with stages := c.stages.filter fun x => !(x.link == l && x.addr == a) }
  else { c with stages := putSorted c.stages (fun x => 16 * x.link + x.addr) { link := l, addr := a, feeder := p.feeder.toNat, cls := p.mode.toNat % 16 } }

/-- What 0x0404 leaves. -/
def cfgString (p : ConfigureStringP) (c : Cfg) : Cfg :=
  { c with strings := putSorted c.strings (·.ch) { ch := p.ch.toNat, maxMa := p.maxMa.toNat, vfMax := p.vfMax.toNat, probe := p.probe.toNat } }

/-- What 0x0406 leaves. -/
def cfgChain (p : ConfigureChainPortP) (c : Cfg) : Cfg :=
  { c with chains := updAt c.chains p.port.toNat fun _ => p.expect.toNat }

/-- The instance number of a safe level within its item (15 Table 15.15 0x040A). -/
def safeSub (t i : Nat) : Nat := t * 0x1000000 + i % 0x1000000

/-- What 0x040A leaves. -/
def cfgSafe (p : SafeLevelP) (c : Cfg) : Cfg :=
  { c with safes := putSorted c.safes (fun x => safeSub x.1 x.2.1) (p.target.toNat, p.index.toNat, p.safe.toNat) }

/-- The safe level configured for a target; 10,000 from the factory (09 R223, R236, R246, 13 R343). -/
def cfgSafeOf (c : Cfg) (t i : Nat) : Nat :=
  ((c.safes.find? fun x => x.1 == t && x.2.1 == i).map (·.2.2)).getD 10000

/-! Nodes (10) -/

/-- The RSSI of a segment's beacons that a node reported (10 R290). -/
def rssiOf (n : NodeRec) (seg : U32) : Option Int := (n.beacons.find? fun b => b.1 == seg).map (·.2)

/-- The side of a node by the beacons it reported: 1 for SEG1, which also wins a tie (10 R290). -/
def plainSide (p : PeersCfg) (n : NodeRec) : Nat :=
  match rssiOf n p.seg1, rssiOf n p.seg2 with
  | some a, some b => if a < b then 2 else 1
  | none, some _ => 2
  | _, none => 1

/-- RSSI difference of a node; nodes that report one side only come last to be moved. -/
def sideGap (p : PeersCfg) (n : NodeRec) : Nat :=
  match rssiOf n p.seg1, rssiOf n p.seg2 with
  | some a, some b => (a - b).natAbs
  | none, none => 0
  | _, _ => 512

/-- Nodes by rising RSSI difference, the lower reference first. -/
def byGap (p : PeersCfg) (l : List NodeRec) : List NodeRec :=
  l.foldl (fun a x => putSorted a (fun y => sideGap p y * 2 ^ 32 + y.node.toNat) x) []

/-- The peer preference of every own node (10 R290). -/
def preferences (p : PeersCfg) (l : List NodeRec) : List NodeRec :=
  let one := l.filter fun n => plainSide p n == 1
  let two := l.filter fun n => plainSide p n == 2
  let move := (byGap p one).take (one.length - 2048) ++ (byGap p two).take (two.length - 2048)
  l.map fun n => { n with prefer := if move.any (fun m => m.node == n.node) then 3 - plainSide p n else plainSide p n }

/-- A configuration with the preferences that its node records and peer seats give (10 R290). -/
def withPrefs (c : Cfg) : Cfg := match c.peers with | none => c | some p => { c with nodes := preferences p c.nodes }

/-- What 0x0501 leaves: a record that exists keeps its address, join port and preference (10 R260, 15 R395). -/
def cfgNode (p : AddNodeP) (c : Cfg) : Cfg :=
  let old := c.nodes.find? fun x => x.node == p.node
  withPrefs { c with nodes := putSorted c.nodes (fun x => x.node.toNat) {
      node := p.node, eui := p.eui, typ := p.typ, feeder := p.feeder.toNat, port := p.port.toNat, cls := p.cls.toNat,
      sleepy := p.sleepy == 1, origin := 0, home := 0, short := old.bind (·.short), joinPort := (old.map (·.joinPort)).getD 0,
      prefer := (old.map (·.prefer)).getD 0, beacons := (old.map (·.beacons)).getD [] } }

/-- What 0x0502 leaves: the node record goes; records of other items stay as they were set (15 R421, log 23). -/
def cfgNodeGone (p : RemoveNodeP) (c : Cfg) : Cfg := withPrefs { c with nodes := c.nodes.filter fun x => x.node != p.node }

/-- What 0x0505 leaves. -/
def cfgProfile (p : ConfirmRegionalProfileP) (c : Cfg) : Cfg := { c with profile := some (p.profile.toNat, i8 p.maxA, i8 p.maxB) }

/-- What 0x0508 leaves. -/
def cfgPeers (p : PeerSeatsP) (c : Cfg) : Cfg := withPrefs { c with peers := some { seg1 := p.seg1, seg2 := p.seg2, addr1 := p.addr1, addr2 := p.addr2 } }

/-! Ethernet and time (11) -/

/-- What 0x0602 leaves in the configuration (15 Table 15.15). -/
def cfgPort (p : ConfigurePortP) (c : Cfg) : Cfg :=
  { c with ports := updAt c.ports (p.port.toNat - 1) fun _ => { speed := p.speed.toNat, maxf := p.maxf.toNat, pflags := p.pflags } }

/-- What 0x0603 leaves in the configuration. -/
def cfgPtp (p : ConfigureIeee1588P) (c : Cfg) : Cfg :=
  { c with ptp := { clock := p.clock.toNat, steps := p.steps.toNat, domain := p.domain.toNat, ports := p.ports.toNat } }

/-- What 0x0604 leaves in the configuration. -/
def cfgTell (p : ConfigureTellP) (c : Cfg) : Cfg :=
  { c with tells := updAt c.tells p.tell.toNat fun _ => { enable := p.enable == 1, check := p.check, mask := p.mask } }

/-- What 0x0605 leaves in the configuration. -/
def cfgTai (p : TaiUtcOffsetP) (c : Cfg) : Cfg := { c with tai := some (i16 p.offset, p.since.toNat) }

/-! Groups, schedules and waves (13) -/

/-- The members of a group; none when it does not exist. -/
def groupOf (c : Cfg) (g : Nat) : Option (List U32) := (c.groups.find? fun x => x.1 == g).map (·.2)

/-- Node references in ascending order, each once. -/
def sortNodes (l : List U32) : List U32 := l.foldl (fun a x => putSorted a (·.toNat) x) []

/-- What 0x0701 leaves: MODE 0 replaces, 1 adds, 2 removes (06 Table 6.13, 13 R337). -/
def cfgGroup (p : GroupMembersP) (c : Cfg) : Cfg :=
  let g := refIndex p.group
  let old := (groupOf c g).getD []
  let new := p.nodes.map (·.node)
  let l := if p.mode = 0 then new else if p.mode = 1 then old ++ new else old.filter fun x => !new.contains x
  { c with groups := putSorted c.groups (·.1) (g, sortNodes l) }

/-- What 0x0702 leaves: the group and every schedule that names it go (13 R337). -/
def cfgGroupGone (p : DeleteGroupP) (c : Cfg) : Cfg :=
  { c with groups := c.groups.filter (fun x => x.1 != refIndex p.group), scheds := c.scheds.filter fun x => x.group != p.group }

/-- The date entry at an offset of RULE (13 Table 13.4). -/
def dateAt (b : List Byte) (o : Nat) : DateEntry where
  year := num b o 1
  month := num b (o + 1) 1
  day := num b (o + 2) 1
  span := num b (o + 4) 2
  excl := num b (o + 6) 1 == 1

/-- The step at an offset of RULE (13 Table 13.5). -/
def stepAt (b : List Byte) (o : Nat) : SchedStep where
  ref := num b o 1
  act := num b (o + 1) 1
  offset := (fld b (o + 2) 16).toInt
  value := num b (o + 4) 2
  arg := num b (o + 6) 2

/-- The schedule that RULE states (13 Table 13.3). -/
def ruleOf (i : Nat) (b : List Byte) : Sched where
  sched := i
  group := fld b 0 32
  priority := num b 4 1
  days := BitVec.ofNat 7 (num b 5 1)
  lat := (fld b 8 32).toInt
  lon := (fld b 12 32).toInt
  dates := (List.range (num b 7 1)).map fun k => dateAt b (16 + 8 * k)
  steps := (List.range (num b 6 1)).map fun k => stepAt b (16 + 8 * num b 7 1 + 8 * k)

/-- What 0x0703 leaves. -/
def cfgSched (p : DefineScheduleP) (c : Cfg) : Cfg :=
  { c with scheds := putSorted c.scheds (·.sched) (ruleOf (refIndex p.sched) p.rule) }

/-- What 0x0704 leaves. -/
def cfgSchedGone (p : DeleteScheduleP) (c : Cfg) : Cfg := { c with scheds := c.scheds.filter fun x => x.sched != refIndex p.sched }

/-- What 0x0705 leaves. -/
def cfgZone (p : ZoneRulesP) (c : Cfg) : Cfg := { c with zone := (parseTz p.tz).getD c.zone }

/-- A NODE and path-position entry of a light-wave record (13 Table 13.6). -/
def waveEntry (b : List Byte) (o : Nat) : U32 × Int := (fld b o 32, (fld b (o + 4) 32).toInt)

/-- The wave that RECORD states (13 Table 13.6). -/
def waveOf (i : Nat) (b : List Byte) : Wave where
  wave := i
  level := num b 0 2
  kinds := num b 2 2
  lead := num b 4 2
  hold := num b 6 2
  fadeUp := num b 8 2
  fadeDn := num b 10 2
  reach := num b 12 4
  back := num b 16 4
  vDef := num b 20 2
  sensors := (List.range (num b 22 1)).map fun k => waveEntry b (28 + 8 * k)
  lanterns := (List.range (num b 24 2)).map fun k => waveEntry b (28 + 8 * num b 22 1 + 8 * k)

/-- What 0x0706 leaves: WLEN 0 deletes the wave (13 R360). -/
def cfgWave (p : ConfigureLightWaveP) (c : Cfg) : Cfg :=
  if p.wlen = 0 then { c with waves := c.waves.filter fun x => x.wave != p.wave.toNat }
  else { c with waves := putSorted c.waves (·.wave) (waveOf p.wave.toNat p.rcd) }

/-- What 0x0803 leaves. -/
def cfgDealer (p : ConfigurePairP) (c : Cfg) : Cfg := { c with dealer := p.dealer.toNat }

/-- The commissioned settings are valid: commissioning was completed (01 Table 1.8). A segment number that a peer seat
restored stands without them (18 R480). -/
def commissioned (c : Cfg) : Bool := c.comm.any fun x => x.nominal != 0

/-- What an accepted configuration command leaves in the configuration; other commands leave it as it is. -/
def cfgOf (i : Instr) (c : Cfg) : Cfg :=
  match i with
  | .correctionSegments _ p => cfgCorr p c
  | .accumulationMode _ p => cfgMode p c
  | .assignSuitCodes _ p => cfgSuit p c
  | .configureLoop _ p => cfgLoop p c
  | .removeLoop _ p => cfgLoopGone p c
  | .shadowCoefficients _ p => cfgShadow p c
  | .configureOutputStage _ p => cfgStage p c
  | .configureString _ p => cfgString p c
  | .configureChainPort _ p => cfgChain p c
  | .safeLevel _ p => cfgSafe p c
  | .addNode _ p => cfgNode p c
  | .removeNode _ p => cfgNodeGone p c
  | .confirmRegionalProfile _ p => cfgProfile p c
  | .peerSeats _ p => cfgPeers p c
  | .configurePort _ p => cfgPort p c
  | .configureIeee1588 _ p => cfgPtp p c
  | .configureTell _ p => cfgTell p c
  | .taiUtcOffset _ p => cfgTai p c
  | .groupMembers _ p => cfgGroup p c
  | .deleteGroup _ p => cfgGroupGone p c
  | .defineSchedule _ p => cfgSched p c
  | .deleteSchedule _ p => cfgSchedGone p c
  | .zoneRules _ p => cfgZone p c
  | .configureLightWave _ p => cfgWave p c
  | .configurePair _ p => cfgDealer p c
  | .eraseSettings _ _ => Cfg.reset
  | _ => c

/-- The configuration once every admitted change has taken force (04 R91, R92). -/
def planned (s : State) : Cfg := s.changes.foldl (fun c x => cfgOf x.what c) s.cfg

/-- NO_SEAT on check 1 with engine 0xFF, a capacity (04 R91, 06 R138). -/
def noSeatCapacity : Reply := { status := stNoSeat, info := 0x01FF }

/-- Admits a configuration command when the configuration that results holds within a capacity (04 R91). -/
def admitIf (s : State) (t : OpTok) (i : Instr) (ok : Cfg → Bool) : State × Reply :=
  if ok (cfgOf i (planned s)) then admitChange s t i else (s, noSeatCapacity)

end Sys2Proof.Machine
end

