-- ==== Sys2Proof/Machine/Mailbox.lean ====
section
/-!
DEFINITION. The mailbox: the host registers and window, channels and their sessions, remote GMP and the service port
(05), and the commands of group 0x01 that concern identity, status and sessions (06 R144).
-/

namespace Sys2Proof.Machine

open Sys2Proof

/-- Field checks for three reserved bytes from offset `o` (00 R9). -/
def rsv3 (o : Nat) (v : BitVec 24) : List (Nat × Bool) :=
  [(o, v.extractLsb' 0 8 == 0), (o + 1, v.extractLsb' 8 8 == 0), (o + 2, v.extractLsb' 16 8 == 0)]

/-- ASCII bytes of a part number (00 Table 0.3), zero-padded to 16. -/
def partNo : Variant → List Byte
  | .e30 => padTo 16 [0x53, 0x50, 0x58, 0x2D, 0x53, 0x43, 0x4D, 0x38, 0x2D, 0x45, 0x33, 0x30]
  | .a30 => padTo 16 [0x53, 0x50, 0x58, 0x2D, 0x53, 0x43, 0x4D, 0x38, 0x2D, 0x41, 0x33, 0x30]

/-- FW_VERSION of the resident loader that booted (06 Table 6.6, 17 R471). -/
def loaderVersion (s : State) : U32 := ((s.upd.copies.getD s.upd.booted LoaderCopy.reset).version)

/-- Identity response data (06 Table 6.6). -/
def identityData (s : State) : List Byte :=
  partNo s.sys.variant ++ le 8 s.sys.serial.toNat ++ le 2 s.sys.hwRev.toNat ++ le 1 s.sys.straps.toNat ++
    le 1 (lifecycle s) ++ le 4 s.sys.fwVersion.toNat ++ le 2 s.sys.schema.toNat ++ le 2 s.sys.compatRunning.toNat ++
    le 2 (compatLowest s) ++ le 2 0 ++ le 4 (loaderVersion s).toNat

/-- Command 0x0101, get identity (06 R144, Table 6.6). -/
def execGetIdentity (r : Req) (s : State) : Result :=
  .next (gmp s r { cmd := 0x0101, len := 0 } fun _ s => (s, okWith (identityData s)))

/-- KITTY_LAST (06 Table 6.7, 15 R397): bit k while an advisory or exhaustion of kind k is active. -/
def kittyLast (s : State) : Nat :=
  ((List.range 6).map fun k => if (s.rcd.kitty.getD k Kind.reset).advised = 0 then 0 else 2 ^ k).sum

/-- The FLAGS byte of 06 Table 6.7. -/
def statusFlags (s : State) : Nat :=
  bit (s.eth.servo.lock == 0) + 2 * bit (s.eth.servo.lock == 1) + 4 * bit s.met.calHeld +
    8 * bit (s.sec.tamper.latched != 0) + 16 * bit (anteDeferred s) + 32 * bit (!s.sys.alarms.isEmpty || s.upd.failAlarm) + 64 * bit (paired s)

/-- Status response data (06 Table 6.7). -/
def statusData (s : State) : List Byte :=
  le 1 (modeCode s.sys.mode) ++ le 1 (lifecycle s) ++ le 1 s.sys.resetCause.toNat ++ le 1 (statusFlags s) ++
    le 4 s.sys.bootNumber.toNat ++ le 8 s.clk.tick ++ le 4 s.clk.epoch.toNat ++ le 2 s.pow.stackMv ++
    le 2 (s.pow.stackCmF / 10) ++ le 2 s.pow.stackEsr ++ le 1 (kittyLast s) ++ le 1 0

/-- Command 0x0102, get status (06 R144, Table 6.7). -/
def execGetStatus (r : Req) (s : State) : Result :=
  .next (gmp s r { cmd := 0x0102, len := 0 } fun _ s => (s, okWith (statusData s)))

/-- Command 0x0103, warm reset at the round boundary after DELAY further rounds (06 R143). -/
def execWarmResetCommand (r : Req) (p : WarmResetCommandP) (s : State) : Result :=
  .next (gmp s r { cmd := 0x0103, len := 4 } fun _ s =>
    (s.mapSys fun y => { y with warmResetRound := some (curRound s + 1 + p.delay.toNat) }, {}))

/-- Command 0x0110, session challenge: 32 fresh bytes, valid once for 10 s (06 R144). -/
def execSessionChallenge (r : Req) (p : SessionChallengeP) (s : State) : Result :=
  .next (gmp s r { cmd := 0x0110, len := 4, fields := (0x10, decide (p.priv.toNat ≤ 4)) :: rsv3 0x11 p.rsv } fun t s =>
    let b := padTo 32 (Config.freeBytes s.fresh 32)
    let s := s.bump
    (s.onChan t.ch fun c => { c with challenge := some { priv := p.priv.toNat, bytes := b, at_ := s.now } }, okWith b))

/-- Highest privilege by transport and state (05 Table 5.7). -/
def privCap (s : State) (transport : Nat) : Nat :=
  if transport = 3 then (if s.sys.mode = .quarantine then 0 else 3)
  else if s.sys.mode = .quarantine then 3
  else if lifecycle s = 1 then 4 else 3

/-- A root slot is programmed and not revoked (16 R422, R426). -/
def rootGood (s : State) (n : Nat) : Bool :=
  !(s.sec.fuses.rootHash.getD n []).isEmpty && !s.sec.fuses.rootRevoke.getLsbD n

/-- A certificate date has not passed by the time in force, unless LOCK is 0 (16 R426). -/
def notExpired (s : State) (utc : Nat) : Bool := s.eth.servo.lock == 0 || decide (utcNow s ≤ Int.ofNat utc)

/-- The identity bytes of the owner record in force that credential checks use (16 R426, R427). -/
def ownerBytes (s : State) : List Byte :=
  match ownerRec s with
  | none => []
  | some o => o.ownerId ++ o.caHash

/-- A session credential is accepted (16 R426): chain, root, expiry, and in DEPLOYED the owner. -/
def credAccepted (s : State) (c : Config.Cred) : Bool :=
  c.chainOk && rootGood s c.root && notExpired s c.expiry && (lifecycle s != 2 || c.ownerOk)

/-- Privilege a credential names, n = 4 honoured only in PROVISIONING (16 R426). -/
def credPriv (s : State) (n : Nat) : Nat := if lifecycle s = 1 then n else min n 3

/-- Command 0x0111, session prove (06 R144): the lower of the privilege asked, named and capped. -/
def execSessionProve (r : Req) (p : SessionProveP) (s : State) : Result :=
  .next (gmp s r { cmd := 0x0111, len := 4 + p.clen.toNat + 96, fields := [(0x12, p.rsv == 0)] } fun t s =>
    let c := chan s t.ch
    let refuse : Reply := { status := stPrivilege, detail := c.priv }
    match c.challenge with
    | none => (s, refuse)
    | some h =>
      let s := s.onChan t.ch fun c => { c with challenge := none }
      let v := Config.credential p.chain p.sig h.bytes (ownerBytes s)
      if decide (s.now ≤ h.at_ + secs 10) && credAccepted s v then
        let g := min h.priv (min (credPriv s v.priv) (privCap s t.transport))
        (s.onChan t.ch fun c => { c with priv := g, credExpiry := v.expiry, credOwner := v.ownerOk, credRoot := v.root, credId := v.id },
          okWith (le 1 g ++ le 3 0 ++ le 8 v.expiry))
      else (s, refuse))

/-- Command 0x0112, session lower (06 R144): a PRIV at or above the present privilege is refused. -/
def execSessionLower (r : Req) (p : SessionLowerP) (s : State) : Result :=
  .next (gmp s r { cmd := 0x0112, len := 4, fields := (0x10, decide (p.priv.toNat < (chan s r.ch.toNat).priv)) :: rsv3 0x11 p.rsv } fun t s =>
    (s.onChan t.ch fun c => { c with priv := p.priv.toNat }, {}))

/-- Command 0x0113, channel close: the session ends after its response is placed (06 R144). -/
def execChannelClose (r : Req) (s : State) : Result :=
  .next (gmp s r { cmd := 0x0113, len := 0 } fun t s => (s.onChan t.ch fun c => { c with closing := true }, {}))

/-- A challenge older than 10 s is no longer valid (06 R144). -/
def execChallengeExpiry (ch : BitVec 3) (s : State) : Result :=
  .next (match (chan s ch.toNat).challenge with
    | none => s
    | some h => if h.at_ + secs 10 ≤ s.now then s.onChan ch.toNat fun c => { c with challenge := none } else s)

/-! Host registers (05 Table 5.2) -/

/-- The transport code of a host bus (05 Table 5.1). -/
def busCode : Bus → Nat
  | .pcie => 1
  | .qspi => 2

/-- A write by a bus that does not hold the channel is ignored and sets FOREIGN (05 R100). -/
def foreignWrite (s : State) (n : Nat) : State := s.onChan n fun c => { c with foreign := true }

/-- Opens a session for a transport on a free channel: the session number rises module-wide (05 Table 5.2, R123). -/
def openSession (s : State) (n transport : Nat) : State :=
  let q := s.hif.sessions + 1
  let s := s.mapHif fun h => { h with sessions := q }
  s.onChan n fun c => { c with owner := transport, session := q, priv := 0, hasId := false, closing := false }

/-- A write of 1 to CLAIM (05 R99): a free channel is taken, another's channel sets FOREIGN. -/
def claimWrite (s : State) (b : Bus) (n : Nat) : State :=
  if !ready s then s
  else
    let o := (chan s n).owner
    if o = 0 then openSession s n (busCode b) else if o = busCode b then s else foreignWrite s n

/-- Command CHANNEL_CLAIM (05 R99). -/
def execChannelClaim (bus : Bus) (ch : BitVec 3) (s : State) : Result := .next (claimWrite s bus ch.toNat)

/-- A write of 0 to CLAIM releases the holder's channel and ends its session (05 Table 5.2, R122). -/
def releaseWrite (s : State) (b : Bus) (n : Nat) : State :=
  if !ready s then s
  else if (chan s n).owner = busCode b then freeChan s n else foreignWrite s n

/-- Command CHANNEL_RELEASE (05 R122). -/
def execChannelRelease (bus : Bus) (ch : BitVec 3) (s : State) : Result := .next (releaseWrite s bus ch.toNat)

/-- A doorbell write (05 R104): refused with OVERRUN above 64 slots or backwards. -/
def doorbellWrite (s : State) (b : Bus) (n : Nat) (v : U32) : State :=
  let c := chan s n
  if !ready s then s
  else if c.owner ≠ busCode b then foreignWrite s n
  else
    let pi : U16 := v.setWidth 16
    if (pi - c.reqCi).toNat ≤ 64 ∧ (c.reqPi - c.reqCi).toNat ≤ (pi - c.reqCi).toNat then
      s.onChan n fun c => { c with reqPi := pi }
    else s.onChan n fun c => { c with overrun := true }

/-- Command DOORBELL (05 R104). -/
def execDoorbell (bus : Bus) (ch : BitVec 3) (v : U32) (s : State) : Result := .next (doorbellWrite s bus ch.toNat v)

/-- A write to RSP_CI (05 R104): refused with OVERRUN when it would pass RSP_PI or move back. -/
def consumeWrite (s : State) (b : Bus) (n : Nat) (v : U32) : State :=
  let c := chan s n
  if !ready s then s
  else if c.owner ≠ busCode b then foreignWrite s n
  else
    let ci : U16 := v.setWidth 16
    if (ci - c.rspCi).toNat ≤ (c.rspPi - c.rspCi).toNat then s.onChan n fun c => { c with rspCi := ci }
    else s.onChan n fun c => { c with overrun := true }

/-- Command RESPONSE_CONSUMED (05 R104). -/
def execResponseConsumed (bus : Bus) (ch : BitVec 3) (v : U32) (s : State) : Result := .next (consumeWrite s bus ch.toNat v)

/-- A W1C write to HIF_IRQ_STATUS (05 R107). -/
def irqClear (s : State) (v : U32) : State :=
  if !ready s then s else s.mapHif fun h => { h with irqStatus := h.irqStatus &&& ~~~(v.setWidth 9) }

/-- Command IRQ_STATUS_CLEAR (05 R107). -/
def execIrqStatusClear (v : U32) (s : State) : Result := .next (irqClear s v)

/-- A W1C write to HIF_CHn_STATUS by its holder (05 R102). -/
def statusWrite (s : State) (b : Bus) (n : Nat) (v : U32) : State :=
  if !ready s then s
  else if (chan s n).owner ≠ busCode b then foreignWrite s n
  else s.onChan n fun c => { c with
    resync := c.resync && !v.getLsbD 6
    overrun := c.overrun && !v.getLsbD 7
    foreign := c.foreign && !v.getLsbD 8 }

/-- Command CHANNEL_STATUS_CLEAR (05 R102). -/
def execChannelStatusClear (bus : Bus) (ch : BitVec 3) (v : U32) (s : State) : Result :=
  .next (statusWrite s bus ch.toNat v)

/-- The tick number software reads: 0 until the tick generator runs (05 Table 5.2). -/
def tickLatch (s : State) : State :=
  s.mapHif fun h => { h with tickHi := BitVec.ofNat 32 (s.clk.tick / 0x100000000) }

/-- A read of HIF_TICK_LO returns the low bits and latches HIF_TICK_HI (05 R102). -/
def execTickLoRead (s : State) : Result :=
  .next ((tickLatch s).mapHif fun h => { h with rdata := le 4 s.clk.tick })

/-- HIF_CHn_STATUS (05 Table 5.2). -/
def chanStatus (c : Chan) : Nat :=
  c.owner + 8 * c.priv + 64 * bit c.resync + 128 * bit c.overrun + 256 * bit c.foreign +
    512 * bit (!c.waiting.isEmpty) + 65536 * c.session.toNat

/-- The value of the register at an aligned offset (05 Table 5.2); offsets not listed read 0. -/
def regValue (s : State) (o : Nat) : Nat :=
  if o = 0x000 then 0x5C080001
  else if o = 0x004 then bit (ready s) + 2 * bit (remoteServed s) + 256 * modeCode s.sys.mode + 65536 * lifecycle s
  else if o = 0x008 then s.hif.irqStatus.toNat
  else if o = 0x00C then s.hif.irqEnable.toNat
  else if o = 0x010 then s.sys.compatRunning.toNat + 65536 * compatLowest s
  else if o = 0x014 then s.clk.tick % 0x100000000
  else if o = 0x018 then s.hif.tickHi.toNat
  else if o = 0x01C then s.sys.bootNumber.toNat
  else if o = 0x020 then s.hif.scratch.toNat
  else if 0x100 ≤ o ∧ o < 0x200 then
    let c := chan s ((o - 0x100) / 0x20)
    let k := (o - 0x100) % 0x20
    if k = 0x00 then bit (c.owner != 0)
    else if k = 0x04 then c.reqPi.toNat
    else if k = 0x08 then c.reqCi.toNat
    else if k = 0x0C then c.rspPi.toNat
    else if k = 0x10 then c.rspCi.toNat
    else if k = 0x14 then chanStatus c
    else if k = 0x18 then c.lastId.toNat
    else 0
  else 0

/-- A write of HIF_IRQ_ENABLE: a flag that stands is signalled when its enable comes on (05 R107). -/
def irqEnableWrite (s : State) (v : BitVec 9) : State :=
  let rise := v &&& ~~~s.hif.irqEnable &&& s.hif.irqStatus
  let s := s.mapHif fun h => { h with irqEnable := v }
  (List.range 9).foldl (fun s b => if rise.getLsbD b then s.emit (.irq (b % (max 1 s.hif.msiVectors))) else s) s

/-- A write of one aligned word to a host register, by its access code (00 R7, 05 R101, Table 5.2). -/
def regWrite (s : State) (b : Bus) (o : Nat) (v : U32) : State :=
  if o = 0x020 then s.mapHif fun h => { h with scratch := v }
  else if !ready s then s
  else if o = 0x008 then irqClear s v
  else if o = 0x00C then irqEnableWrite s (v.setWidth 9)
  else if 0x100 ≤ o ∧ o < 0x200 then
    let n := (o - 0x100) / 0x20
    let k := (o - 0x100) % 0x20
    if k = 0x00 then (if v.getLsbD 0 then claimWrite s b n else releaseWrite s b n)
    else if k = 0x04 then doorbellWrite s b n v
    else if k = 0x10 then consumeWrite s b n v
    else if k = 0x14 then statusWrite s b n v
    else if (chan s n).owner = busCode b then s else foreignWrite s n
  else s

/-- The bytes of a write that fall in a channel's part of the window, when its holder writes them (05 R100, R103). -/
def winPart (s : State) (b : Bus) (a : Nat) (d : List Byte) (n : Nat) : State :=
  let lo := max a (0x20000 * n)
  let hi := min (a + d.length) (0x20000 * (n + 1))
  if hi ≤ lo then s
  else if (chan s n).owner = busCode b then
    s.mapHif fun h => { h with window := winWrite h.window lo ((d.drop (lo - a)).take (hi - lo)) }
  else foreignWrite s n

/-- A write to the window: each ring area as if written separately (05 R100, R108). -/
def windowWrite (s : State) (b : Bus) (a : Nat) (d : List Byte) : State :=
  (List.range 8).foldl (fun s n => winPart s b a d n) s

/-- A byte of the window as a host bus reads it: areas of channels held by transports 3 and 4 read 0 (05 R100). -/
def windowByte (s : State) (a : Nat) : Byte :=
  let o := (chan s (a / 0x20000)).owner
  if o = 3 ∨ o = 4 ∨ 0x100000 ≤ a then 0 else winRead s.hif.window a

/-- Command REGISTER_WRITE: a host bus access to a register or to the window (00 R7, 05 R101, R103). Registers take
aligned 32-bit accesses only. -/
def execRegisterWrite (a : BusAccess) (s : State) : Result :=
  .next (
    let o := a.addr.toNat
    if a.bar2 then
      if a.write then windowWrite s a.bus o a.data
      else s.mapHif fun h => { h with rdata := (List.range a.len).map fun k => windowByte s (o + k) }
    else if a.write then
      (if a.data.length = 4 ∧ o % 4 = 0 ∧ o < 0x1000 then regWrite s a.bus o (fld a.data 0 32) else s)
    else if a.len = 4 ∧ o % 4 = 0 ∧ o < 0x1000 then
      (if o = 0x014 then tickLatch s else s).mapHif fun h => { h with rdata := le 4 (regValue s o) }
    else s.mapHif fun h => { h with rdata := List.replicate a.len 0 })

/-- The aligned words that a Quad-SPI write carries in full, in ascending order (05 R108). -/
def qspiWords (a : Nat) (d : List Byte) : List (Nat × U32) :=
  (List.range (d.length / 4 + 1)).filterMap fun k =>
    let o := 4 * (ceilDiv a 4) + 4 * k
    if o + 4 ≤ a + d.length ∧ o < 0x1000 then some (o, fld d (o - a) 32) else none

/-- A read of `n` bytes from `from_` covers the aligned word of an address in full (05 R101). -/
def wholeWord (from_ n a : Nat) : Bool := decide (from_ ≤ 4 * (a / 4)) && decide (4 * (a / 4) + 4 ≤ from_ + n)

/-- A byte that a Quad-SPI read of `n` bytes from `from_` returns: registers read whole, window, reserved space 0
(05 R101, R108). -/
def qspiByte (s : State) (from_ n a : Nat) : Byte :=
  if a < 0x1000 then (if wholeWord from_ n a then BitVec.ofNat 8 (regValue s (4 * (a / 4)) / 256 ^ (a % 4)) else 0)
  else if 0x100000 ≤ a ∧ a < 0x200000 then windowByte s (a - 0x100000)
  else 0

/-- Command QSPI_TRANSACTION (05 R108, Table 5.3): 0x3B reads, 0x38 writes, other instructions are ignored. -/
def execQspiTransaction (q : QspiTx) (s : State) : Result :=
  .next (
    let a := q.addr.toNat
    if q.instr = 0x38 then
      let s := (qspiWords a q.data).foldl (fun s w => regWrite s .qspi w.1 w.2) s
      let lo := max a 0x100000
      let hi := min (a + q.data.length) 0x200000
      if lo < hi then windowWrite s .qspi (lo - 0x100000) ((q.data.drop (lo - a)).take (hi - lo)) else s
    else if q.instr = 0x3B then
      let s := if wholeWord a q.len 0x014 then tickLatch s else s
      s.mapHif fun h => { h with rdata := (List.range q.len).map fun k => qspiByte s a q.len (a + k) }
    else s)

/-- Command PERST_N: the fields of channels held by PCI Express reset and the channels are released (05 R102). The host
then enables 1, 2, 4 or 8 MSI vectors anew, which are free (05 R107, log 187). -/
def execPerstN (s : State) : Result :=
  .next ((List.range 8).foldl (fun s n => if (chan s n).owner = 1 then freeChan s n else s)
    (s.bump.mapHif fun h => { h with msiVectors := 2 ^ (Config.freeNat s.fresh % 4) }))

/-! Notices and the duplicate cache -/

/-- Work still open for an operation: changes, stores, swaps and the other things that end with its notice. -/
def opOpen (s : State) (t : OpTok) : Bool :=
  s.changes.any (fun c => c.tok == t) || s.sys.arbTok == some t || s.pow.stores.any (fun x => x.tok == some t) ||
  s.ctl.swaps.any (fun x => x.tok == t) || (s.pair.swapHasTok && s.pair.swapHolder == t) ||
  s.mesh.safeToks.any (fun x => x.2.2 == t) || s.mesh.adoptTok.any (fun x => x.2.1 == t) ||
  s.upd.tok == some t || s.sec.compatNext.any (fun x => x.tok == t) || s.rcd.flushToks.contains t || s.sec.fuseQueue.any (fun x => x.tok == some t) ||
  (match s.sec.debugTok with | some x => x.1 == t | none => false) ||
  (match s.upd.relay with | some x => x.tok == t | none => false) ||
  s.outs.stages.any (fun x => match x.store with | some y => y.tok == some t | none => false) ||
  s.outs.chains.any (fun x => x.enum == some t) || s.outs.chainStores.any (fun x => x.tok == some t)

/-- Command COMPLETION_NOTICE: an operation with nothing left to do gets its single notice, OK (05 R116). -/
def execCompletionNotice (ch : BitVec 3) (session : U16) (txn : U32) (s : State) : Result :=
  .next (match s.hif.ops.find? (fun t => t.ch == ch.toNat && t.session == session && t.txn == txn) with
    | none => s
    | some t => if opOpen s t then s else finishOp s t {})

/-- Places waiting notices in order while four response slots are free (05 R117). -/
def releaseNotices (s : State) (n : Nat) : List Msg → State
  | [] => s
  | m :: r =>
    if 4 ≤ rspFree (chan s n) then
      releaseNotices (placeNotice (s.onChan n fun c => { c with waiting := r }) n m) n r
    else s

/-- Command NOTICE_WAIT_RELEASE (05 R117). -/
def execNoticeWaitRelease (ch : BitVec 3) (s : State) : Result :=
  .next (releaseNotices s ch.toNat (chan s ch.toNat).waiting)

/-- Command CACHE_ENTRY_EXPIRY: an entry goes 60 s after its response was placed (05 R121). -/
def execCacheEntryExpiry (ch : BitVec 3) (txn : U32) (s : State) : Result :=
  .next (s.onChan ch.toNat fun c => { c with cache := c.cache.filter fun e => !(e.txn == txn && decide (e.placed + secs 60 ≤ s.now)) })

/-! Remote GMP (05 R126 to R129) -/

/-- The highest-numbered free channel from 2 to 7 (05 R99). -/
def highestFree (s : State) : Option Nat := [7, 6, 5, 4, 3, 2].find? fun n => (chan s n).owner == 0

/-- The lowest free session key slot, 24 to 31; one slot holds a session's keys (16 R436, log 11). -/
def freeSlot (s : State) : Option Nat :=
  ((List.range 8).map (· + 24)).find? fun i => !(s.sec.slots.getD i Slot.reset).occupied

/-- Session key slots still free. -/
def freeSlots (s : State) : Nat :=
  (((List.range 8).map (· + 24)).filter fun i => !(s.sec.slots.getD i Slot.reset).occupied).length

/-- Takes a session key slot for an engine mask (16 R436, R439). -/
def takeSlot (s : State) (i mask : Nat) : State :=
  s.mapSec fun x => { x with slots := x.slots.set i { occupied := true, hand := none, mask := mask } }

/-- A dropped handshake is recorded as an event (05 R127, 15 Table 15.13). -/
def handshakeDropped (s : State) (port cause : Nat) (udp : U16) (addr : List Byte) : State :=
  s.event 0x0601 (le 1 port ++ le 1 cause ++ le 2 udp.toNat ++ padTo 16 addr)

/-- What the signatures of a handshake cover: both shares, both nonces and SESSION_ID (05 Table 5.8). -/
def handshakeText (share own nonce ownNonce : List Byte) (sid : U32) : List Byte := share ++ own ++ nonce ++ ownNonce ++ le 4 sid.toNat

/-- A signature by the device key, sealed hand 0 (16 R440). -/
def deviceSign (s : State) (text : List Byte) : List Byte :=
  padTo 96 (Config.sign (((s.sec.hands.getD 0 none).map (·.key)).getD []) (Config.sha384 text) s.fresh)

/-- The keys and salts that both sides derive (05 R127): the module's share, the other's, the nonces. -/
def sessionKeys (own share nonces : List Byte) : GcmKeys :=
  let tx := Config.sessionKey own share nonces true
  let rx := Config.sessionKey own share nonces false
  { txKey := padTo 32 tx.1, txSalt := padTo 4 tx.2, rxKey := padTo 32 rx.1, rxSalt := padTo 4 rx.2 }

/-- A fresh ephemeral share, which exists for the one handshake (05 R127). -/
def freshShare (s : State) : List Byte := Config.freeBytes s.fresh 97

/-- A fresh 32-byte nonce (05 Table 5.8). -/
def freshNonce (s : State) : List Byte := padTo 32 (Config.freeBytes (s.fresh + 1) 32)

/-- Step 2 of a handshake: SESSION_ID, the module's share and nonce, and its signature over the items of both sides. -/
def stepTwo (s : State) (h : HsReq) : List (List Byte) :=
  [le 4 s.hif.sidNext.toNat, freshShare s, freshNonce s,
    deviceSign s (handshakeText h.share (freshShare s) h.nonce (freshNonce s) s.hif.sidNext)]

/-- Command REMOTE_HANDSHAKE_REQUEST: step 1 arrives and step 2 answers it, or it is dropped and recorded (05 R127). -/
def execRemoteHandshakeRequest (h : HsReq) (s : State) : Result :=
  .next (
    if !remoteServed s then s
    else
      let good := h.chainOk && rootGood s h.root && notExpired s h.expiry &&
        (h.peer || lifecycle s != 2 || h.ownerOk) && decide (s.hif.handshakes.length < 4) && (h.peer || (highestFree s).isSome)
      if !good then handshakeDropped s h.port 1 h.udp h.addr
      else if freeSlots s ≤ s.hif.handshakes.length then handshakeDropped s h.port 3 h.udp h.addr
      else
        let q := s.hif.sidNext
        let e : Handshake := { addr := h.addr, udp := h.udp, port := h.port, peer := h.peer, sid := q, cred := h.cred, credOwner := h.ownerOk, priv := h.priv, expiry := h.expiry, since := s.now, share := h.share, nonce := h.nonce, own := freshShare s, ownNonce := freshNonce s }
        ({ s with fresh := s.fresh + 2 }.mapHif fun x => { x with handshakes := x.handshakes ++ [e], sidNext := q + 1 }).emit (.handshake 2 q h.addr (stepTwo s h)))

/-- The channel a new remote session takes: its previous one within 60 s when free, else the highest free (05 R127). -/
def remoteChannel (s : State) (cred : U32) : Option (Nat × Option Ended) :=
  match s.hif.ended.find? (fun e => e.cred == cred && decide (s.now < e.at_ + secs 60) && (chan s e.ch).owner == 0) with
  | some e => some (e.ch, some e)
  | none => (highestFree s).map fun n => (n, none)

/-- Opens a remote session on its channel, with what it inherits (05 R127). -/
def openRemote (s : State) (h : Handshake) (n slot : Nat) (inh : Option Ended) : State :=
  let s := takeSlot (openSession s n 3) slot 2
  let s := s.onChan n fun c => { c with
    priv := min (credPriv s h.priv) 3
    credExpiry := h.expiry
    credOwner := h.credOwner
    credId := h.cred
    lastId := (match inh with | some e => e.lastId | none => 0)
    hasId := inh.isSome
    cache := (match inh with | some e => e.cache | none => []) }
  s.mapHif fun x => { x with
    ended := x.ended.filter (fun e => e.cred != h.cred)
    remotes := { ch := n, sid := h.sid, addr := h.addr, cred := h.cred, rxHi := 0, rxSeen := [], txSeq := 0, last := s.now, slots := [slot], keys := sessionKeys h.own h.share (h.nonce ++ h.ownNonce) } :: x.remotes }

/-- A peer session opened by another segment's module (10 R289). -/
def openInbound (s : State) (h : Handshake) (slot : Nat) : State :=
  let s := takeSlot s slot 32
  s.mapMesh fun m => { m with inbound := { seg := 0, addr := h.addr, up := true, hsSince := none, sid := h.sid, rxHi := 0, rxSeen := [], txSeq := 0, lastRx := s.now, lastTx := s.now, silent := false, sentVer := 0, sentAt := s.now, outs := [], slots := [slot], hsShare := [], hsNonce := [], keys := sessionKeys h.own h.share (h.nonce ++ h.ownNonce) } :: m.inbound }

/-- Command REMOTE_HANDSHAKE_PROOF: step 3 opens the session, or the handshake is dropped and recorded (05 R127). -/
def execRemoteHandshakeProof (p : HsProof) (s : State) : Result :=
  .next (match s.hif.handshakes.find? (fun h => h.sid == p.sid && h.addr == p.addr) with
    | none => s
    | some h =>
      let s := s.mapHif fun x => { x with handshakes := x.handshakes.filter (fun y => y.sid != p.sid) }
      if !p.sigOk || decide (h.since + secs 2 < s.now) then handshakeDropped s h.port 1 h.udp h.addr
      else match freeSlot s with
        | none => handshakeDropped s h.port 3 h.udp h.addr
        | some slot =>
          if h.peer then openInbound s h slot
          else match remoteChannel s h.cred with
            | none => handshakeDropped s h.port 1 h.udp h.addr
            | some (n, inh) => openRemote s h n slot inh)

/-- Command HANDSHAKE_TIMEOUT: a handshake not completed within 2 s is dropped and recorded (05 R127). -/
def execHandshakeTimeout (sid : U32) (s : State) : Result :=
  .next (match s.hif.handshakes.find? (fun h => h.sid == sid && decide (h.since + secs 2 ≤ s.now)) with
    | none => s
    | some h => handshakeDropped (s.mapHif fun x => { x with handshakes := x.handshakes.filter (fun y => y.sid != sid) }) h.port 2 h.udp h.addr)

/-- The replay check of 05 R128: above the highest accepted SEQ less 64, and not repeated. -/
def seqFresh (hi : Nat) (seen : List Nat) (q : Nat) : Bool := decide (hi < q + 64) && !seen.contains q

/-- The accepted SEQ values after `q`: only those above the new highest less 64 matter (05 R128). -/
def seqAccept (hi : Nat) (seen : List Nat) (q : Nat) : Nat × List Nat :=
  let hi' := max hi q
  (hi', (q :: seen).filter fun x => decide (hi' < x + 64))

/-- Puts a message's bytes into a channel's request ring and rings its doorbell, where the ring has room (05 R104). -/
def ringIn (s : State) (n : Nat) (b : List Byte) : State :=
  let c := chan s n
  if (c.reqPi - c.reqCi).toNat + slotsOf b.length ≤ 64 then
    let s := s.mapHif fun h => { h with window := ringWrite h.window (reqBase n) c.reqPi.toNat b }
    s.onChan n fun c => { c with reqPi := c.reqPi + BitVec.ofNat 16 (slotsOf b.length) }
  else s

/-- A datagram to the remote sessions (05 R126, R128, R129): one of no open session fails authentication. -/
def remoteDatagram (s : State) (d : Datagram) : State :=
  match s.hif.remotes.find? (fun r => r.sid == d.sid) with
  | none => s.mapHif fun h => { h with dropAuth := h.dropAuth + 1 }
  | some r =>
    if 4096 < d.body.length then s.mapHif fun h => { h with dropReasm := h.dropReasm + 1 } else
    if !d.authOk then s.mapHif fun h => { h with dropAuth := h.dropAuth + 1 }
    else if !seqFresh r.rxHi r.rxSeen d.seq.toNat then s.mapHif fun h => { h with dropReplay := h.dropReplay + 1 }
    else if 2 ^ 32 < d.seq.toNat then freeChan s r.ch
    else
      let (hi, seen) := seqAccept r.rxHi r.rxSeen d.seq.toNat
      let s := s.mapHif fun h => { h with remotes := h.remotes.map fun x => if x.sid == d.sid then { x with rxHi := hi, rxSeen := seen, last := s.now } else x }
      if 20 ≤ d.body.length then ringIn s r.ch d.body else s

/-- Command REMOTE_DATAGRAM (05 R128). -/
def execRemoteDatagram (d : Datagram) (s : State) : Result := .next (remoteDatagram s d)

/-- Ends the remote session with an identity, when a condition holds of it. -/
def endRemoteIf (s : State) (sid : U32) (p : Remote → Bool) : State :=
  match s.hif.remotes.find? (fun r => r.sid == sid && p r) with
  | none => s
  | some r => freeChan s r.ch

/-- Command REMOTE_SESSION_TIMEOUT: 900 s without an authenticated datagram (05 R129). -/
def execRemoteSessionTimeout (sid : U32) (s : State) : Result :=
  .next (endRemoteIf s sid fun r => decide (r.last + secs 900 ≤ s.now))

/-- Command CREDENTIAL_EXPIRY: the session ends when its credential expires (05 R129). -/
def execCredentialExpiry (sid : U32) (s : State) : Result :=
  .next (endRemoteIf s sid fun r => !notExpired s (chan s r.ch).credExpiry)

/-- The bytes of a reassembly from offset 0, when its fragments leave no hole. -/
def joined (frags : List (Nat × List Byte)) (n : Nat) : Option (List Byte) :=
  let b := (List.range n).map fun i => (frags.find? fun f => decide (f.1 ≤ i) && decide (i < f.1 + f.2.length)).map fun f => byteAt f.2 (i - f.1)
  if b.all Option.isSome then some (b.filterMap id) else none

/-- Command IP_FRAGMENT (05 R126): at most 4,124 bytes of payload, 16 reassemblies and 2 s; what is dropped is counted.
The fragment that completes the datagram hands it on. A fragment that would begin a 17th reassembly is dropped and counted
(DESIGN CHOICE, log 190). -/
def execIpFragment (f : IpFrag) (s : State) : Result :=
  .next (
    let drop (s : State) : State := s.mapHif fun h => { h with dropReasm := h.dropReasm + 1, reasms := h.reasms.filter (fun x => x.key != f.key) }
    if 4124 < f.off + f.data.length then drop s
    else
      let s := if s.hif.reasms.any fun x => x.key == f.key && decide (x.since + secs 2 ≤ s.now) then drop s else s
      let old := s.hif.reasms.find? fun x => x.key == f.key
      if old.isNone ∧ 16 ≤ s.hif.reasms.length then s.mapHif fun h => { h with dropReasm := h.dropReasm + 1 }
      else
        let fr := (f.off, f.data) :: (match old with | some x => x.frags | none => [])
        let since := match old with | some x => x.since | none => s.now
        let total := if f.more then (match old with | some x => x.total | none => none) else some (f.off + f.data.length)
        let rest := s.hif.reasms.filter (fun x => x.key != f.key)
        let keep := s.mapHif fun h => { h with reasms := { key := f.key, frags := fr, since := since, total := total } :: rest }
        match total with
        | none => keep
        | some n =>
          match joined fr n with
          | none => keep
          | some _ => remoteDatagram (s.mapHif fun h => { h with reasms := rest }) f.body)

/-- Command REASSEMBLY_TIMEOUT: a reassembly is dropped after 2 s and counted (05 R126). -/
def execReassemblyTimeout (key : U32) (s : State) : Result :=
  .next (match s.hif.reasms.find? (fun x => x.key == key && decide (x.since + secs 2 ≤ s.now)) with
    | none => s
    | some _ => s.mapHif fun h => { h with dropReasm := h.dropReasm + 1, reasms := h.reasms.filter (fun x => x.key != key) })

/-! The service port (05 R99, R100) -/

/-- Command SERVICE_PORT_CONNECT: the highest free channel from 2 to 7 (05 R99). -/
def execServicePortConnect (s : State) : Result :=
  .next (
    if !ready s then s
    else
      let s := s.mapHif fun h => { h with usbUp := true }
      match highestFree s with
      | none => s
      | some n => openSession s n 4)

/-- Command SERVICE_PORT_DISCONNECT: the connection ends and releases its channel (05 R122). -/
def execServicePortDisconnect (ch : BitVec 3) (s : State) : Result :=
  .next (
    let s := s.mapHif fun h => { h with usbUp := false }
    if (chan s ch.toNat).owner = 4 then freeChan s ch.toNat else s)

/-- Command SERVICE_PORT_MESSAGE: bytes go into the channel's request ring; without a channel the message is answered
BUSY with channel 0xFF (05 after R100, Table 5.6). -/
def execServicePortMessage (ch : BitVec 3) (msg : List Byte) (s : State) : Result :=
  .next (
    if !ready s || !s.hif.usbUp then s
    else if (chan s ch.toNat).owner = 4 then ringIn s ch.toNat msg
    else if (List.range 8).any (fun n => (chan s n).owner == 4) then s
    else s.emit (.service (msgBytes 0xFF { txn := fld msg 0 32, cmd := fld msg 4 16, notice := false, quiet := true, compat := s.sys.compatRunning, status := BitVec.ofNat 16 stBusy, info := 0, detail := 0xFF, data := [] })))

end Sys2Proof.Machine
end

