-- ==== Sys2Proof/Machine/RealTime.lean ====
section
/-!
DEFINITION. The real-time clock (12): counting and rollover, reading and writing, setting by command, following network
time, alarms and its supply.
-/

namespace Sys2Proof.Machine

open Sys2Proof

/-! Rollover (12 Table 12.2): a field is compared with its limit by "greater than or equal". -/

/-- YEAR at its carry. -/
def rollYear (t : RtcTime) : RtcTime := { t with year := if 199 ≤ t.year then 0 else t.year + 1 }

/-- MONTH at its carry. -/
def rollMonth (t : RtcTime) : RtcTime :=
  if 12 ≤ t.month then rollYear { t with month := 1 } else { t with month := t.month + 1 }

/-- DAY at its carry. -/
def rollDay (t : RtcTime) : RtcTime :=
  if monthDays t.month t.year ≤ t.day then rollMonth { t with day := 1 } else { t with day := t.day + 1 }

/-- WDAY at its carry. -/
def rollWday (t : RtcTime) : RtcTime := { t with wday := if 6 ≤ t.wday then 0 else t.wday + 1 }

/-- HOUR at its carry: WDAY and DAY carry with it. -/
def rollHour (t : RtcTime) : RtcTime :=
  if 23 ≤ t.hour then rollDay (rollWday { t with hour := 0 }) else { t with hour := t.hour + 1 }

/-- MIN at its carry. -/
def rollMin (t : RtcTime) : RtcTime :=
  if 59 ≤ t.min then rollHour { t with min := 0 } else { t with min := t.min + 1 }

/-- SEC at the wrap of the prescaler (12 R326, R328). -/
def rollSec (t : RtcTime) : RtcTime :=
  let t := { t with subsec := 0 }
  if 59 ≤ t.sec then rollMin { t with sec := 0 } else { t with sec := t.sec + 1 }

/-- An enabled alarm equals the clock in its six fields; WDAY is not compared (12 R336). -/
def alarmMatches (a : AlarmReg) (t : RtcTime) : Bool :=
  a.en && a.sec == t.sec && a.min == t.min && a.hour == t.hour && a.day == t.day && a.month == t.month && a.year == t.year

/-- Crystal edges in the second that ends: 32,768, and in the last second of a calibration cycle CAL fewer, since CAL edges count
twice, or more, since they do not count (12 R326, R327). -/
def secondEdges (r : Rtc) : Nat := if r.calSec = 31 then (32768 - r.cal).toNat else 32768

/-- Command RTC_SECOND: the fields roll over, alarms are compared, unfrozen shadows reload (12 R326, R327). -/
def execRtcSecond (s : State) : Result :=
  .next (s.mapRtc fun r =>
    let t := rollSec r.time
    { r with
      time := t
      hits := (r.hits.zip r.alarms).map fun x => x.1 || alarmMatches x.2 t
      calSec := (r.calSec + 1) % 32
      edges := r.edges + secondEdges r
      shadow := if r.frozen then r.shadow else t })

/-- The prescaler count at an instant is a free value: the crystal has no relation to ticks (12 R321, log 13). -/
def subsecNow (s : State) : Nat := Config.freeNat s.fresh % 32768

/-- Freezes the shadows with the present prescaler count (12 R329). -/
def rtcFreeze (s : State) : State :=
  if s.rtc.frozen then s
  else
    let q := subsecNow s
    s.bump.mapRtc fun r => { r with frozen := true, shadow := { r.shadow with subsec := q } }

/-- The shadow value of a time register (12 Table 12.1). -/
def shadowAt (t : RtcTime) (o : Nat) : Nat :=
  if o = 0x00 then t.subsec
  else if o = 0x04 then t.sec
  else if o = 0x08 then t.min
  else if o = 0x0C then t.hour
  else if o = 0x10 then t.wday
  else if o = 0x14 then t.day
  else t.month

/-- ALMn_T as a word (12 Table 12.1). -/
def almT (a : AlarmReg) : Nat := a.sec + 64 * a.min + 4096 * a.hour + 131072 * a.day + 4194304 * a.month

/-- ALMn_Y as a word (12 Table 12.1). -/
def almY (a : AlarmReg) : Nat := a.year + 256 * bit a.en

/-- STATUS as a word (12 Table 12.1). -/
def rtcStatus (r : Rtc) : Nat :=
  bit r.frozen + 2 * bit r.invalid + 4 * bit r.vlow + 8 * bit r.oscStop + 16 * bit (r.hits.getD 0 false) + 32 * bit (r.hits.getD 1 false)

/-- A register that neither freezes nor releases the shadows (12 R329); offsets not listed read 0. -/
def rtcPlain (r : Rtc) (o : Nat) : Nat :=
  let a (n : Nat) := r.alarms.getD n AlarmReg.reset
  if o = 0x20 then (r.cal % 512).toNat
  else if o = 0x24 then almT (a 0)
  else if o = 0x28 then almY (a 0)
  else if o = 0x2C then almT (a 1)
  else if o = 0x30 then almY (a 1)
  else if o = 0x34 then rtcStatus r
  else if o = 0x38 then r.csub + 32768 * r.csec
  else 0

/-- Releases the shadows: unfrozen, they follow the live registers (12 R326, R329, log 12). -/
def rtcRelease (r : Rtc) : Rtc := { r with frozen := false, shadow := r.time }

/-- A read of YEAR: the shadow year, releasing the shadows; while nothing is frozen the live year (12 R329). -/
def rtcReadYear (s : State) : State :=
  let y := if s.rtc.frozen then s.rtc.shadow.year else s.rtc.time.year
  (s.mapRtc rtcRelease).mapHif fun h => { h with rdata := le 4 y }

/-- Command RTC_SHADOW_READ: SUBSEC to MONTH freeze the shadows and return them (12 R329); CAL, the alarms, STATUS and
CAPT are read as they are, YEAR as RTC_YEAR_READ reads it. -/
def execRtcShadowRead (offset : U8) (s : State) : Result :=
  .next (
    let o := offset.toNat
    if o ≤ 0x18 ∧ o % 4 = 0 then
      let s := rtcFreeze s
      s.mapHif fun h => { h with rdata := le 4 (shadowAt s.rtc.shadow o) }
    else if o = 0x1C then rtcReadYear s
    else s.mapHif fun h => { h with rdata := le 4 (rtcPlain s.rtc o) })

/-- Command RTC_YEAR_READ (12 R329). -/
def execRtcYearRead (s : State) : Result := .next (rtcReadYear s)

/-- A write of SEC: the second starts, the prescaler is 0, the calibration cycle restarts, INVALID clears
(12 R322, R330). The shadows are released and take the second that starts (log 12). -/
def rtcSecWrite (r : Rtc) (v : Nat) : Rtc :=
  let t := { r.time with sec := v % 64, subsec := 0 }
  { r with time := t, shadow := t, calSec := 0, edges := 0, invalid := false, frozen := false }

/-- Command RTC_SEC_WRITE (12 R330). -/
def execRtcSecWrite (v : U32) (s : State) : Result := .next (s.mapRtc fun r => rtcSecWrite r v.toNat)

/-- Sets an alarm's date word (12 Table 12.1). -/
def almSetT (a : AlarmReg) (v : Nat) : AlarmReg :=
  { a with sec := v % 64, min := v / 64 % 64, hour := v / 4096 % 32, day := v / 131072 % 32, month := v / 4194304 % 16 }

/-- Sets an alarm's year word (12 Table 12.1). -/
def almSetY (a : AlarmReg) (v : Nat) : AlarmReg := { a with year := v % 256, en := v / 256 % 2 == 1 }

/-- A write to a field other than SEC; every value its bits carry is accepted (12 R325, R330). Read-only registers and
offsets not listed ignore it; any write releases the shadows (12 R329). -/
def rtcFieldWrite (r : Rtc) (o v : Nat) : Rtc :=
  let t := r.time
  rtcRelease <|
  if o = 0x08 then { r with time := { t with min := v % 64 } }
  else if o = 0x0C then { r with time := { t with hour := v % 32 } }
  else if o = 0x10 then { r with time := { t with wday := v % 8 } }
  else if o = 0x14 then { r with time := { t with day := v % 32 } }
  else if o = 0x18 then { r with time := { t with month := v % 16 } }
  else if o = 0x1C then { r with time := { t with year := v % 256 } }
  else if o = 0x20 then { r with cal := (BitVec.ofNat 9 v).toInt }
  else if o = 0x24 then { r with alarms := updAt r.alarms 0 fun a => almSetT a v }
  else if o = 0x28 then { r with alarms := updAt r.alarms 0 fun a => almSetY a v }
  else if o = 0x2C then { r with alarms := updAt r.alarms 1 fun a => almSetT a v }
  else if o = 0x30 then { r with alarms := updAt r.alarms 1 fun a => almSetY a v }
  else r

/-- W1C of VLOW, OSC_STOP and the hits (12 R325). -/
def rtcClear (r : Rtc) (v : U32) : Rtc :=
  { rtcRelease r with
    vlow := r.vlow && !v.getLsbD 2
    oscStop := r.oscStop && !v.getLsbD 3
    hits := [r.hits.getD 0 false && !v.getLsbD 4, r.hits.getD 1 false && !v.getLsbD 5] }

/-- Command RTC_FIELD_WRITE (12 R330); a write of SEC acts as RTC_SEC_WRITE, one of STATUS as RTC_STATUS_CLEAR. -/
def execRtcFieldWrite (offset : U8) (v : U32) (s : State) : Result :=
  .next (s.mapRtc fun r =>
    if offset.toNat = 0x04 then rtcSecWrite r v.toNat
    else if offset.toNat = 0x34 then rtcClear r v
    else rtcFieldWrite r offset.toNat v.toNat)

/-- Command RTC_STATUS_CLEAR (12 R325). -/
def execRtcStatusClear (v : U32) (s : State) : Result := .next (s.mapRtc fun r => rtcClear r v)

/-- Command OSC_STOP: the crystal gave no edge for 1 ms (12 R322). -/
def execOscStop (s : State) : Result := .next (s.mapRtc fun r => { r with oscStop := true, invalid := true })

/-- The domain after its own power-up: every reset value of 12 Table 12.1; the settings lie in MRAM (12 R322, R335). -/
def rtcPowerUp (r : Rtc) : Rtc :=
  { Rtc.reset with settings := r.settings, setPending := r.setPending, ePrev := r.ePrev, eLast := r.eLast, rewriteDue := r.rewriteDue }

/-- Command RTC_SUPPLY_LOW: below 1.5 V the domain loses its registers, below 1.7 V VLOW sets (12 R322). -/
def execRtcSupplyLow (mv : Nat) (s : State) : Result :=
  .next (
    if mv < 1500 then s.mapRtc rtcPowerUp
    else if mv < 1700 then s.mapRtc fun r => { r with vlow := true } else s)

/-- The calendar fields of a UTC value, WDAY from the date (12 R331). -/
def fieldsOfUtc (utc : Nat) : RtcTime :=
  let d := utc / 86400
  let (y, m, dd) := dateOfDay d
  let q := utc % 86400
  { subsec := 0, sec := q % 60, min := q / 60 % 60, hour := q / 3600, wday := (5 + d) % 7, day := dd, month := m, year := y }

/-- Writes a full time (12 R331). -/
def rtcWriteFull (s : State) (utc : Nat) : State :=
  s.mapRtc fun r =>
    let t := fieldsOfUtc utc
    let r := rtcSecWrite r t.sec
    { r with time := t, shadow := t }

/-- The last UTC value of the clock, 2199-12-31 23:59:59 (12 R332). -/
def utcLast : Nat := 6311433599

/-- The round whose start is the boundary at which a step decided now would be applied (04 R86). -/
def stepRound (s : State) : Nat :=
  if tickInRound s = 7999 ∧ 20000 < pollCycle s then curRound s + 2 else curRound s + 1

/-- Command 0x0606, set real-time clock (12 R332): by LOCK first and state second. -/
def execSetRealTimeClock (r : Req) (p : SetRealTimeClockP) (s : State) : Result :=
  .next (gmp s r { cmd := 0x0606, len := 8, fields := [(0x10, decide (p.utc.toNat ≤ utcLast))] } fun _ s =>
    if s.eth.servo.lock = 2 then (s, { status := stBusy, detail := 0xFD })
    else (s.mapRtc fun x => { x with setPending := some (p.utc.toNat, stepRound s, s.sys.mode != .dummy) }, {}))

/-- Command 0x0607, real-time clock alarm: a setting in MRAM (12 R335). -/
def execRealTimeClockAlarm (r : Req) (p : RealTimeClockAlarmP) (s : State) : Result :=
  .next (gmp s r { cmd := 0x0607, len := 12, fields := [(0x10, decide (p.alarm.toNat ≤ 1)), (0x11, decide (p.enable.toNat ≤ 2)), (0x12, p.rsv == 0), (0x14, decide (p.utc.toNat ≤ utcLast))] } fun _ s =>
    (s.mapRtc fun x => { x with settings := updAt x.settings p.alarm.toNat fun _ => { enable := p.enable.toNat, utc := p.utc.toNat } }, {}))

/-- Enters RTC_ALARM for alarm `n` (15 Table 15.13 0x0111). -/
def alarmEvent (s : State) (n cause utc : Nat) : State := s.event 0x0111 (le 1 n ++ le 1 cause ++ le 2 0 ++ le 8 utc)

/-- The first time after `now` that a daily alarm names (12 R335). -/
def dailyNext (utc now : Nat) : Nat := if now < utc then utc else utc + 86400 * ((now - utc) / 86400 + 1)

/-- The register pair of an armed alarm. -/
def armedReg (utc : Nat) : AlarmReg :=
  let t := fieldsOfUtc utc
  { sec := t.sec, min := t.min, hour := t.hour, day := t.day, month := t.month, year := t.year, en := true }

/-- Arms alarm `n` at entry to BATTERY_STANDBY (12 R335). -/
def armAlarm (s : State) (n : Nat) : State :=
  let a := s.rtc.settings.getD n AlarmSet.reset
  if a.enable = 0 then s
  else if rtcInvalid s then alarmEvent s n 2 a.utc
  else
    let now := utcOfFields s.rtc.time
    if a.enable = 1 ∧ a.utc ≤ now then
      alarmEvent (s.mapRtc fun r => { r with settings := updAt r.settings n fun x => { x with enable := 0 } }) n 1 a.utc
    else
      let u := if a.enable = 2 then dailyNext a.utc now else a.utc
      s.mapRtc fun r => { rtcRelease r with
        settings := updAt r.settings n fun x => { x with utc := u }
        alarms := updAt r.alarms n fun _ => armedReg u }

/-- Arms both alarms (12 R335). -/
def armAlarms (s : State) : State := armAlarm (armAlarm s 0) 1

/-- Step 7 of BOOT: hits clear, a fired once alarm goes off, a fired daily alarm advances, EN clears (12 R335, R336). -/
def bootAlarms (s : State) : State :=
  s.mapRtc fun r => { r with
    settings := (r.settings.zip r.hits).map fun x =>
      if x.2 then (if x.1.enable = 1 then { x.1 with enable := 0 } else if x.1.enable = 2 then { x.1 with utc := x.1.utc + 86400 } else x.1) else x.1
    hits := [false, false]
    alarms := r.alarms.map fun a => { a with en := false } }

/-- CAPT at a round-boundary strobe (12 R333). -/
def rtcStrobe (s : State) : State :=
  let q := subsecNow s
  s.bump.mapRtc fun r => { r with csub := q, csec := r.time.sec }

/-- e of 12 R333: clock time at the strobe less expected UTC, in crystal counts. -/
def clockError (s : State) : Int := (Int.ofNat (utcOfFields s.rtc.time) - utcNow s) * 32768 + Int.ofNat s.rtc.csub

/-- The whole seconds differ, a SUBSEC of 16,384 or more counting as negative (12 R333). -/
def secondsDiffer (s : State) : Bool :=
  let d := Int.ofNat (utcOfFields s.rtc.time) - utcNow s
  if 16384 ≤ s.rtc.csub then d + 1 != 0 else d != 0

/-- Nearest integer to `a / b`, halves away from zero. -/
def roundDiv (a : Int) (b : Nat) : Int :=
  if 0 ≤ a then (2 * a + b) / (2 * b) else -((2 * (-a) + b) / (2 * b))

/-- Command RTC_COMPARE: every 3,600 locked rounds the clock is compared and CAL adjusted (12 R333). -/
def execRtcCompare (s : State) : Result :=
  .next (
    if s.eth.servo.lock ≠ 2 ∨ s.sys.mode = .standby ∨ curRound s % 3600 ≠ 0 ∨ tickInRound s ≠ 0 then s
    else
      let e := clockError s
      let de := e - s.rtc.ePrev
      let due := secondsDiffer s || decide (66 ≤ e.natAbs)
      let skip := s.eth.servo.lockBroken
      let s := s.mapEth fun x => { x with servo := { x.servo with lockBroken := false } }
      let fast := decide (1179648 < 100 * de.natAbs)
      let cal := clampInt (s.rtc.cal - roundDiv (32 * de) 3600) (-256) 255
      let s :=
        if skip then s
        else if fast then
          let q := Int.fdiv (de * 1000000000) (3600 * 32768) + (if Config.roundUp s.fresh then 1 else 0)
          s.bump.event 0x0112 (leInt 4 q ++ leInt 4 e ++ leInt 2 s.rtc.cal ++ le 2 0)
        else s.mapRtc fun r => { rtcRelease r with cal := cal }
      s.mapRtc fun r => { r with ePrev := if due then 0 else e, eLast := e, rewriteDue := if due then some (curRound s + 1) else none })

/-- Command RTC_REWRITE: a rewrite that is due, at the round boundary after its comparison; never in BATTERY_STANDBY (12 R331, R333,
R336). -/
def execRtcRewrite (s : State) : Result :=
  .next (
    if (s.rtc.rewriteDue.any fun n => decide (n ≤ curRound s)) && tickInRound s == 0 && s.sys.mode != .standby then
      let s := rtcWriteFull s (utcNow s).toNat
      let s := s.mapRtc fun r => { r with rewriteDue := none }
      s.event 0x010C (leInt 4 s.rtc.eLast ++ leInt 2 s.rtc.cal ++ le 2 0)
    else s)

/-- A leap or a step makes every group and lantern be evaluated again (13 R355) and spoils the hour (12 R333). -/
def timeMoved (s : State) : State :=
  (s.mapSch fun x => { x with evalAll := true }).mapEth fun x => { x with servo := { x.servo with lockBroken := true } }

/-- Command LEAP_SECOND: an announced leap reaches the offset and the clock at its instant; one that falls in BATTERY_STANDBY leaves
the clock out (11 R320, 12 R334). -/
def execLeapSecond (s : State) : Result :=
  .next (
    let u := utcNow s
    let take (d : Int) (s : State) : State := timeMoved (s.mapEth fun x => { x with taiUtc := x.taiUtc + d, leap := 0 })
    if tickInRound s ≠ 0 ∨ s.sys.mode = .standby then s
    else if s.eth.leap = 1 ∧ u = Int.ofNat s.eth.leapAt then
      (take 1 s).mapRtc fun r => rtcSecWrite r 59
    else if s.eth.leap = 2 ∧ u = Int.ofNat s.eth.leapAt - 1 then rtcWriteFull (take (-1) s) s.eth.leapAt
    else s)

/-- Command VBAK_CHECK: once per TAI day while VIN is present (12 R324). -/
def execVbakCheck (mv : Nat) (s : State) : Result :=
  .next (
    if !s.pow.vinGood || curRound s % 86400 != 0 then s
    else
      let s := s.mapPow fun w => { w with vbakMv := mv }
      let d := le 2 mv ++ le 2 0
      if mv < 1800 then (if s.alarmOn 0x010B then s.event 0x010B d else s.raise 0x010B d)
      else
        let s := s.clearAlarm 0x010B d
        if mv < 2200 then s.event 0x010B d else s)

end Sys2Proof.Machine
end

