-- ==== Sys2Proof/Machine/Ethernet.lean ====
section
/-!
DEFINITION. Ethernet and network time (11): ports, classes and the bridge, PAUSE, tells, IEEE 1588, timestamps and the
servo.
-/

namespace Sys2Proof.Machine

open Sys2Proof

/-- Ethernet carries traffic in the state (01 Table 1.7). -/
def ethUp (s : State) : Bool := remoteServed s || s.sys.mode == .quarantine

/-- The configuration of port `n`, 1 to 3 (11 R303). -/
def portCfg (s : State) (n : Nat) : PortCfg := s.cfg.ports.getD (n - 1) PortCfg.reset

/-- A bit of PFLAGS (11 Table 11.4). -/
def pflag (s : State) (n b : Nat) : Bool := (portCfg s n).pflags.getLsbD b

/-- Port `n`. -/
def ethPort (s : State) (n : Nat) : Port := s.eth.ports.getD (n - 1) Port.reset

/-- Updates port `n`. -/
def State.onPort (s : State) (n : Nat) (f : Port → Port) : State :=
  s.mapEth fun e => { e with ports := updAt e.ports (n - 1) f }

/-- Adds to a port counter (11 Table 11.5). -/
def State.count (s : State) (n i : Nat) (k : Nat := 1) : State :=
  s.onPort n fun p => { p with counters := updAt p.counters i (· + k) }

/-! Commands of group 0x06 -/

/-- An exact figure in whole units where the spec names no rounding: rounded down, or up by a free value (log 16). -/
def rounded (s : State) (q : Rat) : State × Int :=
  if q.den = 1 then (s, q.num) else (s.bump, q.floor + (if Config.roundUp s.fresh then 1 else 0))

/-- Seconds spent in holdover (11 R319). -/
def holdSecs (s : State) : Nat := if s.eth.servo.lock = 1 then (s.now - s.eth.servo.holdAt) / 8000 else 0

/-- Command 0x0601, time status (11 R319). -/
def execTimeStatus (r : Req) (s : State) : Result :=
  .next (gmp s r { cmd := 0x0601, len := 0 } fun _ s =>
    let v := s.eth.servo
    let (s, q) := rounded s (v.integ * 1000)
    (s, okWith (le 1 v.lock ++ le 1 0 ++ leInt 2 s.eth.taiUtc ++ le 4 s.clk.epoch.toNat ++ leInt 8 v.offset ++ leInt 4 q ++ le 4 (holdSecs s))))

/-- PFLAGS is a value the port can take (11 Table 11.4). -/
def pflagsOk (n : Nat) (v : U32) : Bool :=
  v.extractLsb' 5 11 == 0 && v.extractLsb' 26 6 == 0 && decide ((v.extractLsb' 16 10).toNat ≤ 1000) &&
    (n != 3 || (!v.getLsbD 2 && !v.getLsbD 3 && !v.getLsbD 4))

/-- Command 0x0602, configure port (11 R303, 14 R370). -/
def execConfigurePort (r : Req) (p : ConfigurePortP) (s : State) : Result :=
  .next (gmp s r { cmd := 0x0602, len := 8, fields := [
      (0x10, decide (1 ≤ p.port.toNat) && decide (p.port.toNat ≤ 3)),
      (0x11, if p.port = 1 then decide (p.speed.toNat ≤ 3) else p.speed == 0 || p.speed == 3),
      (0x12, (p.maxf == 1522 || p.maxf == 2000 || p.maxf == 9018) && !(p.port == 3 && p.maxf == 1522 && paired s)),
      (0x14, pflagsOk p.port.toNat p.pflags)] } fun t s => admitChange s t (.configurePort r p))

/-- SFP_TX_DIS is high while P2 is disabled and while SFP_TX_FAULT reads high (11 R303). -/
def sfpDrive (s : State) : State :=
  s.mapEth fun e => { e with sfp := { e.sfp with txDis := !pflag s 2 0 || e.sfp.txFault } }

/-- The link of a port whose speed changed is renegotiated, so preemption is verified anew; a port without PREEMPT has none
(11 R303, R305). -/
def forcePort (p : ConfigurePortP) (s : State) : State :=
  let old := (portCfg s p.port.toNat).speed
  let s := s.mapCfg (cfgPort p)
  let s := if old = p.speed.toNat ∧ p.pflags.getLsbD 0 ∧ p.pflags.getLsbD 2 then s else s.onPort p.port.toNat fun x => { x with preempt := false, verifyTries := 0 }
  sfpDrive s

/-- Command 0x0603, configure IEEE 1588 (11 R312). -/
def execConfigureIeee1588 (r : Req) (p : ConfigureIeee1588P) (s : State) : Result :=
  .next (gmp s r { cmd := 0x0603, len := 8, fields := [
      (0x10, decide (p.clock.toNat ≤ 1)), (0x11, p.steps == 1 || p.steps == 2), (0x12, decide (p.domain.toNat ≤ 127)),
      (0x13, decide (p.ports.toNat ≤ 7)), (0x14, p.rsv == 0)] } fun t s => admitChange s t (.configureIeee1588 r p))

/-- Command 0x0604, configure tell (11 R310, Table 11.7). -/
def execConfigureTell (r : Req) (p : ConfigureTellP) (s : State) : Result :=
  .next (gmp s r { cmd := 0x0604, len := 20, fields := [
      (0x10, decide (p.tell.toNat ≤ 7)), (0x11, decide (p.enable.toNat ≤ 1)),
      (0x14, !(p.enable == 1 && p.mask.all (· == 0)))] } fun t s => admitChange s t (.configureTell r p))

/-- Command 0x0605, TAI-UTC offset (11 R320). -/
def execTaiUtcOffset (r : Req) (p : TaiUtcOffsetP) (s : State) : Result :=
  .next (gmp s r { cmd := 0x0605, len := 12, fields := [(0x12, p.rsv == 0)] } fun t s => admitChange s t (.taiUtcOffset r p))

/-- A datagram that leaves the module in frames of its own (05 R127, R128, 07 R173, 10 R289). -/
def isDatagram : Out → Bool
  | .remote .. | .handshake .. | .peer .. | .replica .. | .phasor .. => true
  | _ => false

/-- The frames of the module's own datagrams on a port since its counters were cleared, by length (11 R304, log 206). -/
def ownFrames (s : State) (n : Nat) : List Nat :=
  ((s.out.reverse.zipIdx.drop (ethPort s n).outMark).filter fun x => isDatagram x.1).flatMap fun x => Config.datagramFrames x.2 n

/-- The 16 counters of a port (11 R304, Table 11.5). PREEMPT_TX and MM_ERR count what happens within frames on the wire: free,
and 0 on P3, which has no preemption (R305, log 206). -/
def portCounts (s : State) (n : Nat) : List Nat :=
  let l := ownFrames s n
  let c := updAt (updAt (ethPort s n).counters 2 (· + l.length)) 3 (· + l.sum)
  if n = 3 then c else updAt (updAt c 12 (· + Config.freeNat s.fresh)) 13 (· + Config.freeNat (s.fresh + 1))

/-- Command 0x0608, port counters, cleared in the same instant with CLEAR 1 (11 R304). -/
def execPortCounters (r : Req) (p : PortCountersP) (s : State) : Result :=
  .next (gmp s r { cmd := 0x0608, len := 4, fields := [
      (0x10, decide (1 ≤ p.port.toNat) && decide (p.port.toNat ≤ 3)), (0x11, decide (p.clear.toNat ≤ 1)), (0x12, p.rsv == 0)] } fun _ s =>
    let d := ((portCounts s p.port.toNat).map (le 8)).flatten
    let s := { s with fresh := s.fresh + 2 }
    (if p.clear = 1 then s.onPort p.port.toNat fun x => { x with counters := List.replicate 16 0, outMark := s.out.length } else s, okWith d))

/-! Frames -/

/-- Time of a cycle of the present tick, ns of the model clock. -/
def nsAt (s : State) (cyc : Nat) : Nat := 5 * (s.clk.tclk + cyc)

/-- EtherType of a frame; one IEEE 802.1Q tag is passed over (11 R297). -/
def etherType (b : List Byte) : Nat :=
  let t (o : Nat) := 256 * (byteAt b o).toNat + (byteAt b (o + 1)).toNat
  if t 12 = 0x8100 then t 16 else t 12

/-- The broadcast address. -/
def bcastMac : List Byte := List.replicate 6 0xFF

/-- Addressed to the module: its MAC address, broadcast, or a multicast address it has joined (11 Table 11.2). -/
def toModule (s : State) (f : EthFrame) : Bool :=
  let d := f.bytes.take 6
  d == s.eth.mac || d == bcastMac || f.joined

/-- A destination that is never forwarded (11 R298): the module's own address, 01-80-C2-00-00-0x, the PTP address. -/
def neverTo (s : State) (f : EthFrame) : Bool :=
  let d := f.bytes.take 6
  d == s.eth.mac ||
    (d.take 5 == [0x01, 0x80, 0xC2, 0x00, 0x00] && decide ((byteAt d 5).toNat < 16)) ||
    d == [0x01, 0x1B, 0x19, 0x00, 0x00, 0x00]

/-- Never forwarded (11 R298): such a destination, and any PTP message. -/
def neverForwarded (s : State) (f : EthFrame) : Bool :=
  neverTo s f || etherType f.bytes == 0x88F7 || f.udpPort == 319 || f.udpPort == 320

/-- The bridge runs between P1 and P2 (11 R298). -/
def bridged (s : State) (n : Nat) : Bool := (n == 1 || n == 2) && pflag s 1 4 && pflag s 2 4 && pflag s 1 0 && pflag s 2 0

/-- Room in a transmit queue (11 R299). -/
def queueRoom (p : Port) (q n : Nat) : Bool :=
  let used := ((p.held.filter fun x => x.1 == q).map fun x => x.2.length).sum
  decide (used + n ≤ (if q = 0 then 16384 else if q = 1 then 65536 else 131072))

/-- TCLK that a frame takes on P3 at 1 Gbit/s with its FCS, its preamble and the gap after it. -/
def p3Cycles (len : Nat) : Nat := (8 * (len + 24) + 4) / 5

/-- The gate of P3 is shut for a frame: the tick-state frame of this tick is still to go and the frame might not end by
cycle 14,400 (04 R97). The cycle of the present instant is known to lie within 1,600 of the last poll (log 186). -/
def gateShut (s : State) (n len : Nat) : Bool :=
  n == 3 && s.sys.mode == .declarer && paired s && !s.sys.failSilent && s.clk.running && s.pair.sentTick != some s.now &&
    decide (14400 < pollCycle s + 1600 + p3Cycles len)

/-- Sends a frame from a queue of a port, or holds it while a pause is in force or the gate of P3 is shut (11 R299,
Table 11.6, 04 R97). -/
def sendFrame (s : State) (n q : Nat) (b : List Byte) : State :=
  let p := ethPort s n
  if p.pauseUntil.isSome || gateShut s n b.length then
    if queueRoom p q b.length then s.onPort n fun x => { x with held := x.held ++ [(q, b)] } else s.count n 9
  else ((s.count n 2).count n 3 b.length).emit (.eth n b)

/-- Learns a source address on a bridged port; the table holds 1,024 (11 R298). A full table learns nothing (log 17). -/
def learn (s : State) (n : Nat) (mac : List Byte) : State :=
  s.mapEth fun e =>
    let l := e.bridge.filter fun x => x.mac != mac
    { e with bridge := if l.length < 1024 then { mac := mac, port := n, seen := s.now } :: l else e.bridge }

/-- The bridge forwards a DATA frame to the other port, or filters it (11 R298, Table 11.3); one that finds no queue room
is counted at both ports (11 Table 11.5). -/
def forward (s : State) (f : EthFrame) : State :=
  let other := 3 - f.port
  let s := learn s f.port (cut f.bytes 6 6)
  let known := s.eth.bridge.find? fun x => x.mac == f.bytes.take 6
  if (match known with | some x => x.port == f.port | none => false) then s
  else if (portCfg s other).maxf < f.bytes.length then s.count other 9
  else
    let p := ethPort s other
    let s := if p.pauseUntil.isSome && !queueRoom p 2 f.bytes.length then s.count f.port 7 else s
    sendFrame s other 2 f.bytes

/-- A bad frame: a runt, oversize, or with an error, classed by its destination alone (11 R301). FLAGS of BAD_FRAME: bit 0 runt, 1 oversize, 2 error
(log 18). -/
def badFrame (s : State) (f : EthFrame) (flags : Nat) : State :=
  let n := f.bytes.length
  if n < 14 then s
  else
    let s := if toModule s f then
        (if pflag s f.port 1 then s.event 0x0606 (le 1 f.port ++ le 1 flags ++ le 2 n ++ padTo 44 (f.bytes.take (portCfg s f.port).maxf))
         else s.count f.port 8)
      else s
    if bridged s f.port && !neverTo s f then s.count f.port 7 else s

/-- A frame delivered to the module: ARP, IPv6 neighbour discovery and ICMP echo are answered, by frames of 64 bytes or more that
those protocols give and the manual does not (11 R297, R302, log 201). -/
def deliverOwn (s : State) (f : EthFrame) : State :=
  let s := s.emit (.eth 0 f.bytes)
  match Config.ipAnswer s.eth.mac f.bytes with
  | none => s
  | some b => sendFrame s f.port 1 (padTo (max 64 b.length) b)

/-- Command FRAME_RECEIVE (11 R300 to R302). -/
def execFrameReceive (f : EthFrame) (s : State) : Result :=
  .next (
    let n := f.bytes.length
    if !ethUp s || !pflag s f.port 0 then s
    else if n ≤ 63 then badFrame (s.count f.port 4) f 1
    else if (portCfg s f.port).maxf < n then badFrame (s.count f.port 5) f 2
    else if !f.fcsOk then badFrame (s.count f.port 6) f 4
    else
      let s := (s.count f.port 0).count f.port 1 n
      let ty := etherType f.bytes
      if ty = 0x8808 then
        if f.port ≠ 3 ∧ byteAt f.bytes 14 = 0 ∧ byteAt f.bytes 15 = 1 then s else s.count f.port 8
      else if ty = 0x88F7 ∨ f.udpPort = 319 ∨ f.udpPort = 320 ∨ (f.udpPort = 47321 ∧ f.bytes.take 6 = s.eth.mac) ∨ (f.port = 3 ∧ ty = 0x88B5) then s
      else
        let mgmt := toModule s f
        let data := bridged s f.port && !neverForwarded s f && (f.bytes.take 6 != s.eth.mac)
        let s := if mgmt then (if f.room then deliverOwn s f else s.count f.port 8) else s
        if data then forward s f else if mgmt then s else s.count f.port 8)

/-- Command BRIDGE_AGEING: an address goes 300 s after it was last seen (11 R298). -/
def execBridgeAgeing (mac : List Byte) (s : State) : Result :=
  .next (s.mapEth fun e => { e with bridge := e.bridge.filter fun x => !(x.mac == mac && decide (x.seen + secs 300 ≤ s.now)) })

/-! PAUSE (11 R307, R308) -/

/-- Counts a frame of the module's own; its length depends on the transport and is a free value (log 14). -/
def countOwn (s : State) (n : Nat) : State :=
  ((s.count n 2).count n 3 (64 + Config.freeNat s.fresh)).bump

/-- Puts a transmit timestamp in the queue of four, or counts it lost (11 R315). The capture is a free value. -/
def pushTs (s : State) (port q msg : Nat) : State :=
  if (ethPort s port).tsq.length < 4 then
    let ns := Config.freeNat s.fresh % 2 ^ 32
    s.bump.onPort port fun p => { p with tsq := p.tsq ++ [(q, s.clk.epoch.toNat % 256, msg, ns, s.now)] }
  else s.count port 14

/-- The dataset of an Announce: as grandmaster the module's own, else that of its master one step further (11 Table 11.8,
IEEE 1588). -/
def announceData (s : State) : List Nat :=
  match s.eth.best with
  | none => [250, 248, 0xFE, 0xFFFF, 250, 0, 0xA0]
  | some (n, _) =>
    let q := (s.eth.ptp.getD (n - 1) PtpPort.reset).prio
    q.take 5 ++ [q.getD 6 0 + 1, Config.freeNat s.fresh]

/-- Puts a PTP message on the wire; a two-step Sync, a request and a two-step Pdelay_Resp leave their timestamp in the queue
(11 R312, R315). -/
def putPtp (s : State) (port msg q t : Nat) : State :=
  let s := (countOwn s port).emit (.ptp port msg q t (if msg = 11 then announceData s else []))
  if ((msg = 0 ∨ msg = 3) ∧ s.cfg.ptp.steps = 2) ∨ msg = 1 ∨ msg = 2 then pushTs s port q msg else s

/-- Sends a PTP message, or holds it while a pause is in force or the gate of P3 is shut (11 R307, 04 R97; log 186). -/
def sendPtp (s : State) (port msg q t : Nat) : State :=
  if (ethPort s port).pauseUntil.isSome || gateShut s port 128 then
    s.onPort port fun p => { p with ptpHeld := p.ptpHeld ++ [(msg, q, t)] }
  else putPtp s port msg q t

/-- Sends the frames that a pause or the gate held, in strict priority (11 R299); PTP is express (Table 11.2). -/
def releaseHeld (s : State) (n : Nat) : State :=
  let l := (ethPort s n).held
  let ptp := (ethPort s n).ptpHeld
  let s := s.onPort n fun p => { p with held := [], ptpHeld := [] }
  let s := ptp.foldl (fun s x => sendPtp s n x.1 x.2.1 x.2.2) s
  ((l.filter fun x => x.1 == 0) ++ (l.filter fun x => x.1 == 1) ++ (l.filter fun x => x.1 == 2)).foldl (fun s x => sendFrame s n x.1 x.2) s

/-- Ends the pause in force at a time, and resumes sending. -/
def endPause (s : State) (n t : Nat) : State :=
  let s := s.onPort n fun p => { p with pauseUntil := none, pauseEnd := t, wdAcc := p.wdAcc + (t - p.pauseSince) }
  releaseHeld s n

/-- PAUSE watchdog of a port, ns; PWD 0 means 500 ms (11 Table 11.4). -/
def pauseWatchNs (s : State) (n : Nat) : Nat :=
  let w := ((portCfg s n).pflags.extractLsb' 16 10).toNat
  10000000 * (if w = 0 then 50 else w)

/-- Command PAUSE: sets, reloads or ends the pause timer (11 R307, Table 11.6). -/
def execPause (f : PauseFrame) (s : State) : Result :=
  .next (
    if !ethUp s || !pflag s f.port 0 then s
    else if f.port = 3 ∨ !f.own then s.count f.port 8
    else
      let s := s.count f.port 10
      let t := nsAt s f.at_
      let p := ethPort s f.port
      if !pflag s f.port 3 || decide (t < p.pauseIgnore) then s
      else if f.quanta = 0 then (if p.pauseUntil.isSome then endPause s f.port t else s)
      else
        let dur := f.quanta.toNat * 512000 / f.mbps
        s.onPort f.port fun p =>
          if p.pauseUntil.isSome then { p with pauseUntil := some (t + dur) }
          else { p with
            pauseUntil := some (t + dur)
            pauseSince := t
            wdAcc := if p.pauseEnd + 1000000 ≤ t then 0 else p.wdAcc })

/-- Command PAUSE_EXPIRY: the pause timer expires and transmission resumes (11 R307). -/
def execPauseExpiry (port : Nat) (cyc : Nat) (s : State) : Result :=
  .next (match (ethPort s port).pauseUntil with
    | none => s
    | some u => if u ≤ nsAt s cyc then endPause s port u else s)

/-- Command PAUSE_WATCHDOG: the watchdog reaches PWD; PAUSE is then ignored for 1 s (11 R308). -/
def execPauseWatchdog (port : Nat) (cyc : Nat) (s : State) : Result :=
  .next (
    let p := ethPort s port
    let t := nsAt s cyc
    if p.pauseUntil.isSome ∧ pauseWatchNs s port ≤ p.wdAcc + (t - p.pauseSince) then
      let s := (endPause s port t).count port 11
      let s := s.onPort port fun p => { p with pauseIgnore := t + 1000000000 }
      s.event 0x0605 (le 1 port ++ le 3 0)
    else s)

/-- Command PREEMPT_VERIFY: the verify procedure, 3 attempts of 10 ms; without an answer preemption stays off
(11 R305). -/
def execPreemptVerify (port : Nat) (answered : Bool) (s : State) : Result :=
  .next (
    if (port = 1 ∨ port = 2) ∧ pflag s port 0 ∧ pflag s port 2 ∧ !(port = 1 ∧ (portCfg s 1).speed = 1) ∧ ethUp s ∧ (ethPort s port).verifyTries < 3 then
      if answered then s.onPort port fun p => { p with preempt := true }
      else s.onPort port fun p => { p with verifyTries := p.verifyTries + 1 }
    else s)

/-- Command TS_EXPIRY: transmit timestamps not read within 1.0 s are discarded and counted (11 R315). -/
def execTsExpiry (port : Nat) (s : State) : Result :=
  .next (
    let old := (ethPort s port).tsq.filter fun x => decide (x.2.2.2.2 + secs 1 ≤ s.now)
    (s.onPort port fun p => { p with tsq := p.tsq.filter fun x => !decide (x.2.2.2.2 + secs 1 ≤ s.now) }).count port 15 old.length)

/-- Command SFP_SIGNAL_CHANGE: an event for each pin that changed, and SFP_TX_DIS (11 R303). -/
def execSfpSignalChange (modAbs : Bool) (los : Bool) (txFault : Bool) (s : State) : Result :=
  .next (
    let o := s.eth.sfp
    let s := s.mapEth fun e => { e with sfp := { e.sfp with modAbs := modAbs, los := los, txFault := txFault } }
    let ev (s : State) (a b : Bool) (code : Nat) : State := if a == b then s else s.event code (le 1 (bit b) ++ le 3 0)
    sfpDrive (ev (ev (ev s o.modAbs modAbs 0x0602) o.los los 0x0603) o.txFault txFault 0x0604))

/-- The frame bytes a tell's MASK selects, in ascending order of offset (11 R310). -/
def tellBytes (m : List Byte) (b : List Byte) : List Byte :=
  (List.range 128).filterMap fun i => if (byteAt m (i / 8)).getLsbD (i % 8) then some (byteAt b i) else none

/-- A tell matches a frame with a good FCS: long enough, and the CRC of the selected bytes equals CHECK (11 R310). -/
def tellMatches (c : TellCfg) (b : List Byte) : Bool :=
  let top := ((List.range 128).filter fun i => (byteAt c.mask (i / 8)).getLsbD (i % 8)).getLast?
  c.enable && (match top with
    | none => false
    | some h => decide (h < b.length) && crc16 (tellBytes c.mask b) == c.check)

/-- The lowest enabled tell that a frame matches. -/
def matchingTell (s : State) (b : List Byte) : Option Nat :=
  (List.range 8).find? fun i => tellMatches (s.cfg.tells.getD i TellCfg.reset) b

/-! Timestamps (11 R314 to R316) -/

/-- Network time at the start of the present tick, TAI ns: steps decided count at once (04 R84, 11 R314). A stretch tick
ends where the next tick number holds (04 R84). -/
def netNs (s : State) : Int :=
  125000 * Int.ofNat (s.clk.tick + 1) - 5 * Int.ofNat s.clk.stretchTcl + s.clk.stepPending + s.clk.stepLate

/-- Latches a reference for the time epoch in force; those of the present and previous epochs are kept (11 R316). -/
def latchRef (s : State) : State :=
  let e := s.clk.epoch.toNat % 256
  let n := (netNs s).toNat
  s.mapEth fun x => { x with refs := ({ epoch := e, full := n, ctr := BitVec.ofNat 32 n } :: x.refs.filter fun r => r.epoch != e).take 2 }

/-- Extends a timestamp to TAI ns (11 R316). -/
def extendTs (s : State) (ns : U32) (epoch : Nat) : Option Int :=
  (s.eth.refs.find? fun r => r.epoch == epoch).map fun r => Int.ofNat r.full + (ns - r.ctr).toInt

/-- PTP runs from step 8 of BOOT in every state in which Ethernet is up (11 R313). -/
def ptpRuns (s : State) (port : Nat) : Bool :=
  (ethUp s || (s.sys.mode == .boot && s.clk.running)) && s.cfg.ptp.ports.testBit (port - 1) && pflag s port 0

/-- A message of the configured version and domain on a PTP port (11 R312, Table 11.8). -/
def ptpTaken (s : State) (m : PtpMsg) : Bool := ptpRuns s m.port && m.version == 2 && m.domain == s.cfg.ptp.domain

/-- PTP state of a port. -/
def ptpPort (s : State) (n : Nat) : PtpPort := s.eth.ptp.getD (n - 1) PtpPort.reset

/-- Updates the PTP state of a port. -/
def State.onPtp (s : State) (n : Nat) (f : PtpPort → PtpPort) : State :=
  s.mapEth fun e => { e with ptp := updAt e.ptp (n - 1) f }

/-! The servo (11 R317 to R319) -/

/-- Sets LOCK, with its event when it changes (11 R319, 15 Table 15.13). -/
def setLock (s : State) (v : Nat) : State :=
  let o := s.eth.servo.lock
  if o = v then s
  else
    let s := s.mapEth fun e => { e with servo := { e.servo with lock := v, holdAt := if v = 1 then s.now else e.servo.holdAt, lockBroken := e.servo.lockBroken || v != 2 } }
    s.event 0x0608 (le 1 o ++ le 1 v ++ le 2 0)

/-- A step decided now comes after cycle 20,000 of the last tick of a round (04 R86). Between the polls at 19,200 and
20,800 the model cannot tell on which side of 20,000 it lies: the answer is free (log 183). -/
def stepIsLate (s : State) : Bool :=
  decide (tickInRound s = 7999) && (decide (20000 < pollCycle s) || (decide (pollCycle s = 19200) && Config.freeBool s.fresh))

/-- Asks for a step of network time: it is applied at its round boundary (04 R84, R86); the counter takes it at once. -/
def requestStep (s : State) (d : Int) : State :=
  let late := stepIsLate s
  let s := s.bump.mapClk fun c => if late then { c with stepLate := c.stepLate + d } else { c with stepPending := c.stepPending + d }
  latchRef s

/-- `v` limited to the servo's range (11 R318). -/
def clampRate (v : Rat) : Rat := if v < -100000 then -100000 else if 100000 < v then 100000 else v

/-- Largest less smallest. -/
def spread (l : List Int) : Int :=
  match l with
  | [] => 0
  | a :: r => r.foldl max a - r.foldl min a

/-- The servo's answer to an accepted offset `o` received at `t2` (11 R318). -/
def servoDrive (s : State) (o t2 : Int) : State :=
  let v := s.eth.servo
  if 1000000 < o.natAbs then
    let big := if v.big < 3 then v.big + 1 else 3
    let bigs := (o :: v.bigs).take 3
    if big = 3 ∧ spread bigs ≤ 100000 then
      let s := s.mapEth fun e => { e with servo := { e.servo with big := 0, bigs := bigs, first := false, lastAt := t2 - o } }
      timeMoved (requestStep s (-o))
    else s.mapEth fun e => { e with servo := { e.servo with big := big, bigs := bigs, first := false, lastAt := t2 } }
  else
    let dt : Rat := if v.first then 1 else ((t2 - v.lastAt : Int) : Rat) / 1000000000
    let integ := if v.first ∨ 10000 < o.natAbs then v.integ else clampRate (v.integ - (o : Rat) / (64 * dt))
    let rate := clampRate (integ - (o : Rat) / (4 * dt))
    s.mapEth fun e => { e with servo := { e.servo with big := 0, bigs := [], integ := integ, rate := rate, first := false, lastAt := t2 } }

/-- An offset is accepted or discarded (11 R317); each accepted one locks and drives the servo (R318, R319). -/
def offsetIn (s : State) (o t2 : Int) : State :=
  let v := s.eth.servo
  let raw := (o :: v.raw).take 3
  let s := s.mapEth fun e => { e with servo := { e.servo with raw := raw } }
  let take := v.fresh || v.lock != 2 || decide ((o - v.offset).natAbs ≤ 100000) || (raw.length == 3 && decide (spread raw ≤ 100000))
  if take then
    let s := setLock s 2
    let s := s.mapEth fun e => { e with servo := { e.servo with fresh := false, offset := o, accAt := s.now } }
    servoDrive s o t2
  else s

/-- Median of the delays; of an even number, half the sum of the middle two (log 16). -/
def median (s : State) (l : List Int) : State × Option Int :=
  let q := l.mergeSort
  let n := q.length
  if n = 0 then (s, none)
  else if n % 2 = 1 then (s, some (q.getD (n / 2) 0))
  else
    let (s, v) := rounded s (((q.getD (n / 2 - 1) 0 + q.getD (n / 2) 0 : Int) : Rat) / 2)
    (s, some v)

/-- Forms the offset of a Sync once its origin time is known; without a path delay there is none (11 R317). -/
def syncOffset (s : State) (port : Nat) (t1 t2 : Int) : State :=
  let s := s.onPtp port fun p => { p with t21 := some (t2 - t1) }
  let (s, d) := median s s.eth.servo.delays
  match d with
  | none => s
  | some d => offsetIn s (t2 - t1 - d) t2

/-- The message comes from the selected master (11 R317). -/
def fromMaster (s : State) (m : PtpMsg) : Bool := s.eth.best == some (m.port, m.source)

/-- Asks the master for a delay, one request outstanding: Delay_Req or Pdelay_Req (11 Table 11.8, log 19). -/
def askDelay (s : State) (port : Nat) : State :=
  let p := ptpPort s port
  let q := p.seqId.toNat
  let s := s.onPtp port fun x => { x with dreq := some q, seqId := x.seqId + 1 }
  sendPtp s port (if p.p2p then 2 else 1) q 0

/-- Reads the queue of a port (11 R315, log 19): a Sync has its Follow_Up, a Pdelay_Resp its own, a request its transmit time. An
entry not read within 1.0 s is discarded and counted. -/
def readTsq (s : State) (port : Nat) : State :=
  let l := (ethPort s port).tsq
  let s := s.onPort port fun p => { p with tsq := [] }
  l.foldl (fun s x =>
    if x.2.2.2.2 + secs 1 ≤ s.now then s.count port 15
    else match extendTs s (BitVec.ofNat 32 x.2.2.2.1) x.2.1 with
      | none => s
      | some t =>
        match x.2.2.1 with
        | 0 => sendPtp s port 8 x.1 t.toNat
        | 3 => sendPtp s port 10 x.1 t.toNat
        | _ => s.onPtp port fun p => { p with reqTx := some (x.1, t) }) s

/-- The transmit time of the request `q` of a port; none when its timestamp was lost (11 R315). -/
def requestTx (s : State) (port q : Nat) : Option Int :=
  match (ptpPort s port).reqTx with
  | some (k, t) => if k = q then some t else none
  | none => none

/-- Command PTP_SYNC (11 R317). -/
def execPtpSync (m : PtpMsg) (s : State) : Result :=
  .next (
    if !(ptpTaken s m && fromMaster s m) then s
    else match extendTs s m.rx m.rxEpoch with
      | none => s
      | some t2 =>
        let s := if m.twoStep then s.onPtp m.port fun p => { p with sync := some (m.seqId, t2, m.corr) }
          else syncOffset s m.port (Int.ofNat m.t + m.corr) t2
        askDelay s m.port)

/-- Command PTP_FOLLOW_UP completes the two-step Sync of its sequenceId (11 R317). -/
def execPtpFollowUp (m : PtpMsg) (s : State) : Result :=
  .next (
    if !(ptpTaken s m && fromMaster s m) then s
    else match (ptpPort s m.port).sync with
      | none => s
      | some (q, t2, c) =>
        if q = m.seqId then
          syncOffset (s.onPtp m.port fun p => { p with sync := none }) m.port (Int.ofNat m.t + c + m.corr) t2
        else s)

/-- Keeps a delay measurement among the last 8 (11 R317). -/
def delayIn (s : State) (twice : Int) : State :=
  let (s, d) := rounded s ((twice : Rat) / 2)
  s.mapEth fun e => { e with servo := { e.servo with delays := (d :: e.servo.delays).take 8 } }

/-- Command PTP_DELAY_REQ: answered by a boundary clock's master port (11 R312). -/
def execPtpDelayReq (m : PtpMsg) (s : State) : Result :=
  .next (
    if ptpTaken s m && s.cfg.ptp.clock == 1 && (ptpPort s m.port).isMaster then
      match extendTs s m.rx m.rxEpoch with
      | none => s
      | some t4 => sendPtp s m.port 9 m.seqId t4.toNat
    else s)

/-- Command PTP_DELAY_RESP: the mean of the two ways; a request without its timestamp yields nothing (11 R315, R317). -/
def execPtpDelayResp (m : PtpMsg) (s : State) : Result :=
  .next (
    let p := ptpPort s m.port
    if ptpTaken s m && fromMaster s m && p.dreq == some m.seqId && !p.p2p then
      let s := readTsq (s.onPtp m.port fun x => { x with dreq := none }) m.port
      match p.t21, requestTx s m.port m.seqId with
      | some t21, some t3 => delayIn s (t21 + (Int.ofNat m.t - m.corr - t3))
      | _, _ => s
    else s)

/-- Command PTP_PDELAY_REQ: answered with Pdelay_Resp, and its Follow_Up in two-step mode with the time in the queue (11 R312,
R315). -/
def execPtpPdelayReq (m : PtpMsg) (s : State) : Result :=
  .next (
    if ptpTaken s m then
      match extendTs s m.rx m.rxEpoch with
      | none => s
      | some t2 => readTsq (sendPtp s m.port 3 m.seqId t2.toNat) m.port
    else s)

/-- Command PTP_PDELAY_RESP: a one-step response yields the delay, a two-step one waits (11 R317). -/
def execPtpPdelayResp (m : PtpMsg) (s : State) : Result :=
  .next (
    let p := ptpPort s m.port
    if ptpTaken s m && p.dreq == some m.seqId && p.p2p then
      let s := readTsq s m.port
      match requestTx s m.port m.seqId, extendTs s m.rx m.rxEpoch with
      | some t1, some t4 =>
        if m.twoStep then s.onPtp m.port fun x => { x with pdelay := some (m.seqId, t1, Int.ofNat m.t, t4 - m.corr) }
        else delayIn (s.onPtp m.port fun x => { x with dreq := none }) (t4 - t1 - m.corr)
      | _, _ => s
    else s)

/-- Command PTP_PDELAY_RESP_FOLLOW_UP completes a two-step peer delay (11 R317). -/
def execPtpPdelayRespFollowUp (m : PtpMsg) (s : State) : Result :=
  .next (
    if !ptpTaken s m then s
    else match (ptpPort s m.port).pdelay with
      | none => s
      | some (q, t1, t2, t4) =>
        if q = m.seqId then
          delayIn (s.onPtp m.port fun x => { x with pdelay := none, dreq := none }) ((t4 - t1) - (Int.ofNat m.t + m.corr - t2))
        else s)

/-- Lexicographic order of datasets (11 Table 11.8, default best master clock algorithm, log 15). -/
def prioLt : List Nat → List Nat → Bool
  | a :: l, b :: r => decide (a < b) || (a == b && prioLt l r)
  | [], _ :: _ => true
  | _, [] => false

/-- The module's own dataset as a boundary clock (11 Table 11.8). -/
def ownPrio : List Nat := [250, 248, 0xFE, 0xFFFF, 250]

/-- The port whose announced master is best. -/
def bestPort (s : State) : Option (Nat × PtpPort) :=
  ([1, 2, 3].filterMap fun n =>
    let p := ptpPort s n
    if p.master.isSome && s.cfg.ptp.ports.testBit (n - 1) then some (n, p) else none).foldl (fun b x =>
      match b with
      | none => some x
      | some y => if prioLt x.2.prio y.2.prio then some x else some y) none

/-- Selects the master anew (11 R312, R317): a boundary clock better than all has none; a change of master clears the
offset history; without a master LOCK 2 falls to holdover (R319). -/
def reselect (s : State) : State :=
  let b := match bestPort s with
    | none => none
    | some (n, p) =>
      if s.cfg.ptp.clock = 1 ∧ prioLt ownPrio p.prio then none else p.master.map fun m => (n, m)
  let changed := b.map Prod.snd != s.eth.best.map Prod.snd
  let s := s.mapEth fun e => { e with
    best := b
    ptp := (List.range 3).map fun i => { (e.ptp.getD i PtpPort.reset) with
      isMaster := s.cfg.ptp.clock == 1 && s.cfg.ptp.ports.testBit i && b.map Prod.fst != some (i + 1) } }
  let s := if changed then s.mapEth fun e => { e with
      annOffset := none
      servo := { e.servo with raw := [], delays := [], bigs := [], big := 0, first := true, fresh := true } } else s
  if b.isNone ∧ s.eth.servo.lock = 2 then
    (setLock s 1).mapEth fun e => { e with servo := { e.servo with first := true, rate := e.servo.integ } }
  else s

/-- Command PTP_ANNOUNCE: the best master clock algorithm, TAI-UTC and leaps (11 R312, R320). -/
def execPtpAnnounce (m : Announce) (s : State) : Result :=
  .next (
    if !(ptpRuns s m.port && m.version == 2 && m.domain == s.cfg.ptp.domain) then s
    else
      let old := ptpPort s m.port
      let prio := [m.prio1, m.cls, m.acc, m.variance, m.prio2, m.gm.toNat, m.steps]
      let s := if old.master == none || old.master == some m.source || prioLt prio old.prio then
          s.onPtp m.port fun p => { p with master := some m.source, prio := prio, annAt := s.now, annMs := m.intervalMs, p2p := m.p2p } else s
      let s := reselect s
      if s.eth.best == some (m.port, m.source) then
        let s := s.mapEth fun e => { e with annOffset := if m.utcValid then some m.utcOffset else none }
        let s := if m.leap ≠ 0 then s.mapEth fun e => { e with leap := m.leap, leapAt := 86400 * ((utcNow s).toNat / 86400 + 1) } else s
        match s.cfg.tai with
        | some (c, _) =>
          let diff := m.utcValid && m.utcOffset != c
          let s' := s.mapEth fun e => { e with taiDiff := diff }
          if diff && !s.eth.taiDiff then s'.event 0x0609 (leInt 2 m.utcOffset ++ leInt 2 c) else s'
        | none => s
      else s)

/-- Command ANNOUNCE_TIMEOUT: three Announce intervals without one, and the master is reselected (11 R312). -/
def execAnnounceTimeout (port : Nat) (s : State) : Result :=
  .next (
    let p := ptpPort s port
    if p.master.isSome ∧ p.annAt + 24 * p.annMs ≤ s.now then
      reselect (s.onPtp port fun x => { x with master := none, prio := [] })
    else s)

/-- TAI-UTC at a round boundary: the announced value, else the commanded one from its FROM (11 R320). -/
def taiApply (s : State) : State :=
  let want := match s.eth.annOffset with
    | some o => some o
    | none => match s.cfg.tai with
      | some (o, f) => if s.eth.servo.lock ≠ 0 ∧ Int.ofNat f ≤ utcNow s then some o else none
      | none => none
  match want with
  | none => s
  | some o => if o = s.eth.taiUtc ∨ s.eth.leap ≠ 0 then s else timeMoved (s.mapEth fun e => { e with taiUtc := o })

/-- Command PTP_MASTER_SEND: Sync, and Announce once a second, from a boundary clock's master port (11 R312). -/
def execPtpMasterSend (port : Nat) (s : State) : Result :=
  .next (
    let p := ptpPort s port
    if ptpRuns s port && s.cfg.ptp.clock == 1 && p.isMaster then
      let s := readTsq s port
      let s := if p.sent + secs 1 ≤ s.now ∨ p.sent = 0 then
          sendPtp (s.onPtp port fun x => { x with sent := s.now }) port 11 p.seqId.toNat 0 else s
      let s := s.onPtp port fun x => { x with seqId := x.seqId + 1 }
      sendPtp s port 0 p.seqId.toNat (if s.cfg.ptp.steps = 2 then 0 else (netNs s).toNat)
    else s)

/-- While locked the module stores integ at every round boundary (11 R319). -/
def storeRate (s : State) : State :=
  if s.eth.servo.lock = 2 then s.mapEth fun e => { e with servo := { e.servo with stored := e.servo.integ } } else s

/-- Command HOLDOVER_ENTRY: 4 s without an accepted offset (11 R319); TCLK keeps the rate integ. -/
def execHoldoverEntry (s : State) : Result :=
  .next (
    if s.eth.servo.lock = 2 ∧ s.eth.servo.accAt + secs 4 ≤ s.now then
      (setLock s 1).mapEth fun e => { e with servo := { e.servo with first := true, rate := e.servo.integ } }
    else s)

end Sys2Proof.Machine
end

