-- ==== Sys2Proof/Machine/Items.lean ====
section
/-!
DEFINITION. Configuration records (15 R421, Tables 15.14 and 15.15): the items of a configuration, their keys and bytes,
what setting or removing one leaves, and the digest over them (14 R372).
-/

namespace Sys2Proof.Machine

open Sys2Proof

/-- The items of a configuration that are not at their factory value (15 R421). -/
def itemsOf (c : Cfg) : List CfgItem :=
  let f := Cfg.reset
  let differ {α : Type} [DecidableEq α] (l old : List α) (d : α) (n : Nat) (mk : Nat → α → CfgItem) : List CfgItem :=
    (List.range n).filterMap fun i => if l.getD i d = old.getD i d then none else some (mk i (l.getD i d))
  (match c.comm with | some x => [.comm x] | none => []) ++
  differ c.corr f.corr ChanCorr.reset 40 (fun i x => .corr i x) ++
  differ c.accModes f.accModes false 20 (fun i x => .accMode i x) ++
  c.suit.map (fun x => .suit x.1 x.2) ++ c.loops.map .loop ++ c.stages.map .stage ++
  differ c.term f.term true 2 (fun i x => .term i x) ++
  differ c.aiModes f.aiModes 0 8 (fun i x => .aiMode i x) ++
  c.strings.map .string ++
  differ c.chains f.chains 0 2 (fun i x => .chain i x) ++
  c.safes.map (fun x => .safe x.1 x.2.1 x.2.2) ++ c.nodes.map .node ++
  (match c.profile with | some x => [.profile x.1 x.2.1 x.2.2] | none => []) ++
  (match c.peers with | some x => [.peers x.seg1 x.seg2 x.addr1 x.addr2] | none => []) ++
  differ c.ports f.ports PortCfg.reset 3 (fun i x => .port (i + 1) x) ++
  (if c.ptp = f.ptp then [] else [.ptp c.ptp]) ++
  differ c.tells f.tells TellCfg.reset 8 (fun i x => .tell i x) ++
  (match c.tai with | some x => [.tai x.1 x.2] | none => []) ++
  c.groups.map (fun x => .group x.1 x.2) ++ c.scheds.map .sched ++
  (if c.zone = f.zone then [] else [.zone c.zone]) ++ c.waves.map .wave ++
  (if c.dealer = f.dealer then [] else [.dealer c.dealer])

/-- KEY of a module-level item (15 Table 15.14). -/
def modKey (cmd : Nat) : Nat := 0xFE000000 + cmd

/-- KEY, SUB and CMD of an item (15 Table 15.15); of a loop those of its 0x0301 record. -/
def itemKey (i : CfgItem) : Nat × Nat × Nat :=
  match i with
  | .comm _ => (modKey 0x0104, 0, 0x0104)
  | .corr ch _ => (modKey 0x0204, ch, 0x0204)
  | .accMode r _ => (modKey 0x0206, regCode r, 0x0206)
  | .suit n _ => (n.toNat, 0, 0x0209)
  | .loop l => ((mkRef 5 l.idx).toNat, 0, 0x0301)
  | .stage c => (modKey 0x0401, 256 * c.link + c.addr, 0x0401)
  | .term l _ => (modKey 0x0401, 256 * l + 0xFF, 0x0401)
  | .aiMode n _ => (modKey 0x0401, 512 + n, 0x0401)
  | .string c => (modKey 0x0404, c.ch, 0x0404)
  | .chain p _ => (modKey 0x0406, p, 0x0406)
  | .safe t i _ => (modKey 0x040A, safeSub t i, 0x040A)
  | .node n => (n.node.toNat, 0, 0x0501)
  | .profile _ _ _ => (modKey 0x0505, 0, 0x0505)
  | .peers _ _ _ _ => (modKey 0x0508, 0, 0x0508)
  | .port n _ => (modKey 0x0602, n, 0x0602)
  | .ptp _ => (modKey 0x0603, 0, 0x0603)
  | .tell n _ => (modKey 0x0604, n, 0x0604)
  | .tai _ _ => (modKey 0x0605, 0, 0x0605)
  | .group n _ => ((mkRef 3 n).toNat, 0, 0x0701)
  | .sched c => ((mkRef 4 c.sched).toNat, 0, 0x0703)
  | .zone _ => (modKey 0x0705, 0, 0x0705)
  | .wave w => (modKey 0x0706, w.wave, 0x0706)
  | .dealer _ => (modKey 0x0803, 0, 0x0803)

/-- The bytes of a coefficient bank as 0x0303 carries them (08 Table 8.5). -/
def bankBytes (b : Bank) : List Byte :=
  leInt 4 b.kp ++ leInt 4 b.ki ++ leInt 4 b.kd ++ le 2 b.n1f ++ le 2 b.n1q ++ le 2 b.n2f ++ le 2 b.n2q ++
    leInt 4 b.kff ++ leInt 4 b.outMin ++ leInt 4 b.outMax

/-- The bytes of a correction point; BREAK of point 0 carries INTEG in bit 31 (07 Table 7.2). -/
def pointBytes (integ : Bool) (k : Nat) (p : CorrPoint) : List Byte :=
  le 4 (p.brk + (if k = 0 ∧ integ then 0x80000000 else 0)) ++ leInt 4 p.gain ++ leInt 4 p.phase

/-- RULE of a schedule (13 Tables 13.3 to 13.5). -/
def ruleBytes (c : Sched) : List Byte :=
  le 4 c.group.toNat ++ le 1 c.priority ++ le 1 c.days.toNat ++ le 1 c.steps.length ++ le 1 c.dates.length ++
    leInt 4 c.lat ++ leInt 4 c.lon ++
    (c.dates.map fun e => le 1 e.year ++ le 1 e.month ++ le 1 e.day ++ le 1 0 ++ le 2 e.span ++ le 1 (bit e.excl) ++ le 1 0).flatten ++
    (c.steps.map fun t => le 1 t.ref ++ le 1 t.act ++ leInt 2 t.offset ++ le 2 t.value ++ le 2 t.arg).flatten

/-- RECORD of a light wave (13 Table 13.6). -/
def waveBytes (w : Wave) : List Byte :=
  let entry (e : U32 × Int) : List Byte := le 4 e.1.toNat ++ leInt 4 e.2
  le 2 w.level ++ le 2 w.kinds ++ le 2 w.lead ++ le 2 w.hold ++ le 2 w.fadeUp ++ le 2 w.fadeDn ++ le 4 w.reach ++
    le 4 w.back ++ le 2 w.vDef ++ le 1 w.sensors.length ++ le 1 0 ++ le 2 w.lanterns.length ++ le 2 0 ++
    (w.sensors.map entry).flatten ++ (w.lanterns.map entry).flatten

/-- PAYLOAD of a record (15 Table 15.15); of a loop that of its 0x0301 record. -/
def itemPayload (i : CfgItem) : List Byte :=
  match i with
  | .comm c => le 4 c.segment.toNat ++ le 1 c.nominal ++ le 1 0 ++ le 2 c.uDinA ++ le 2 c.uDinB ++ le 2 0
  | .corr ch c => le 1 ch ++ le 3 0 ++ (c.points.mapIdx (pointBytes c.integ)).flatten
  | .accMode r a => le 2 (regCode r) ++ le 1 (bit a) ++ le 1 0
  | .suit _ code => le 2 code ++ le 2 0
  | .loop l => le 1 l.kind ++ le 1 l.output ++ le 2 (bit l.dEn + 2 * bit l.spHost + 4 * l.satAct + 16 * bit l.pOnly) ++
      le 2 l.pvSrc ++ le 2 l.ffSrc ++ le 4 l.rampUp ++ le 4 l.rampDn ++ le 4 l.satMs ++ le 2 l.group ++ le 2 0
  | .stage c => le 1 c.feeder ++ le 1 c.cls ++ le 2 0
  | .term _ on => le 1 0 ++ le 1 (bit on) ++ le 2 0
  | .aiMode _ m => le 1 0 ++ le 1 m ++ le 2 0
  | .string c => le 2 c.maxMa ++ le 2 c.vfMax ++ le 2 c.probe
  | .chain _ e => le 2 e ++ le 2 0
  | .safe _ _ v => le 2 v ++ le 2 0
  | .node n => padTo 8 n.eui ++ le 2 n.typ.toNat ++ le 1 n.feeder ++ le 1 n.port ++ le 1 n.cls ++ le 1 (bit n.sleepy) ++
      le 2 (n.short.getD 0) ++ le 1 n.joinPort ++ le 3 0
  | .profile p a b => le 2 p ++ leInt 1 a ++ leInt 1 b
  | .peers s1 s2 a1 a2 => le 4 s1.toNat ++ le 4 s2.toNat ++ padTo 16 a1 ++ padTo 16 a2
  | .port n c => le 1 n ++ le 1 c.speed ++ le 2 c.maxf ++ le 4 c.pflags.toNat
  | .ptp c => le 1 c.clock ++ le 1 c.steps ++ le 1 c.domain ++ le 1 c.ports ++ le 4 0
  | .tell n c => le 1 n ++ le 1 (bit c.enable) ++ le 2 c.check.toNat ++ padTo 16 c.mask
  | .tai o f => leInt 2 o ++ le 2 0 ++ le 8 f
  | .group _ l => le 2 l.length ++ le 2 0 ++ (l.map fun n => le 4 n.toNat).flatten
  | .sched c => ruleBytes c
  | .zone z => le 1 z.text.length ++ le 3 0 ++ z.text
  | .wave w => waveBytes w
  | .dealer d => le 1 d ++ le 3 0

/-- The records of an item: KEY, SUB, CMD and PAYLOAD. A loop has its banks and its active bank in records of their own;
a bank at its factory value has none (15 Table 15.15). -/
def itemRecords (i : CfgItem) : List ((Nat × Nat × Nat) × List Byte) :=
  let k := itemKey i
  (k, itemPayload i) :: match i with
    | .loop l =>
      (if l.bankA = Bank.reset then [] else [((k.1, 0, 0x0303), bankBytes l.bankA)]) ++
      (if l.bankB = Bank.reset then [] else [((k.1, 1, 0x0303), bankBytes l.bankB)]) ++
      (if l.activeB then [((k.1, 2, 0x0304), le 1 1 ++ le 3 0)] else [])
    | _ => []

/-- The order of records: KEY, then SUB, then CMD (15 R421). -/
def keyOrder (k : Nat × Nat × Nat) : Nat := k.1 * 2 ^ 48 + k.2.1 * 2 ^ 16 + k.2.2

/-- The bytes of a record (15 Table 15.14). -/
def recordBytes (x : (Nat × Nat × Nat) × List Byte) : List Byte :=
  le 2 x.1.2.2 ++ le 2 x.2.length ++ le 4 x.1.1 ++ le 4 x.1.2.1 ++ x.2 ++ List.replicate ((4 - x.2.length % 4) % 4) 0

/-- The configuration records of a configuration, in order (15 R421). -/
def cfgRecords (c : Cfg) : List ((Nat × Nat × Nat) × List Byte) :=
  ((itemsOf c).map itemRecords).flatten.foldl (fun l x => putSorted l (fun y => keyOrder y.1) x) []

/-- CFG_DIGEST: the first 64 bits of SHA-384 over the records in order, without the slot position (14 R372, 15 R421). -/
def cfgDigest (c : Cfg) : U64 := fld (Config.sha384 ((cfgRecords c).map recordBytes).flatten) 0 64

/-- The configuration with one item set. -/
def putItem (c : Cfg) (i : CfgItem) : Cfg :=
  match i with
  | .comm x => { c with comm := some x }
  | .corr ch x => { c with corr := updAt c.corr ch fun _ => x }
  | .accMode r a => { c with accModes := updAt c.accModes r fun _ => a }
  | .suit n code => { c with suit := putSorted c.suit (fun x => x.1.toNat) (n, code) }
  | .loop l => { c with loops := putSorted c.loops (·.idx) l }
  | .stage x => { c with stages := putSorted c.stages (fun y => 16 * y.link + y.addr) x }
  | .term l on => { c with term := updAt c.term l fun _ => on }
  | .aiMode n m => { c with aiModes := updAt c.aiModes n fun _ => m }
  | .string x => { c with strings := putSorted c.strings (·.ch) x }
  | .chain p e => { c with chains := updAt c.chains p fun _ => e }
  | .safe t i v => { c with safes := putSorted c.safes (fun x => safeSub x.1 x.2.1) (t, i, v) }
  | .node n => { c with nodes := putSorted c.nodes (fun x => x.node.toNat) n }
  | .profile p a b => { c with profile := some (p, a, b) }
  | .peers s1 s2 a1 a2 => { c with peers := some { seg1 := s1, seg2 := s2, addr1 := a1, addr2 := a2 } }
  | .port n x => { c with ports := updAt c.ports (n - 1) fun _ => x }
  | .ptp x => { c with ptp := x }
  | .tell n x => { c with tells := updAt c.tells n fun _ => x }
  | .tai o f => { c with tai := some (o, f) }
  | .group n l => { c with groups := putSorted c.groups (·.1) (n, l) }
  | .sched x => { c with scheds := putSorted c.scheds (·.sched) x }
  | .zone z => { c with zone := z }
  | .wave w => { c with waves := putSorted c.waves (·.wave) w }
  | .dealer d => { c with dealer := d }

/-- The configuration that a list of items states. -/
def cfgOfItems (l : List CfgItem) : Cfg := l.foldl putItem Cfg.reset

/-- The key of an item as a record key. -/
def itemRecKey (i : CfgItem) : U32 × U32 × U16 :=
  let k := itemKey i
  (BitVec.ofNat 32 k.1, BitVec.ofNat 32 k.2.1, BitVec.ofNat 16 k.2.2)

/-- The configuration without the items of the keys given: each goes back to its factory value. -/
def dropItems (c : Cfg) (gone : List (U32 × U32 × U16)) : Cfg :=
  cfgOfItems ((itemsOf c).filter fun i => !gone.contains (itemRecKey i))

/-- The items that are new or changed from one configuration to another. -/
def itemsChanged (old new : Cfg) : List CfgItem :=
  let o := itemsOf old
  (itemsOf new).filter fun i => !o.contains i

/-- The keys of the items that one configuration has and another has not. -/
def itemsGone (old new : Cfg) : List (U32 × U32 × U16) :=
  let n := (itemsOf new).map itemRecKey
  ((itemsOf old).map itemRecKey).filter fun k => !n.contains k

end Sys2Proof.Machine
end

