-- ==== Sys2Proof/Machine/Seating.lean ====
section
/-!
DEFINITION. Seating of loops on the control slice pairs (15 R394) and the cycle costs by which a configuration is
admitted (08 R207, 04 R91).
-/

namespace Sys2Proof.Machine

open Sys2Proof

/-- Indices of a kitty kind in service: the first `n` of `total` that are not retired (01 R24, 15 R397). -/
def inService (s : State) (k total n : Nat) : List Nat :=
  ((List.range total).filter fun i => !(s.rcd.kitty.getD k Kind.reset).retired.contains i).take n

/-- The control slice pairs in service, ascending (15 R394 step 1). -/
def slicePairs (s : State) : List Nat := inService s 0 4 3

/-- The metering DSPs in service, ascending (15 R394 step 1). -/
def meterDsps (s : State) : List Nat := inService s 1 4 3

/-- Cycles of one loop (08 Table 8.9). -/
def loopCost (l : LoopCfg) : Nat :=
  let ff := if l.ffSrc = 0 then 0 else 18
  if l.pvSrc = 0 then 60 + ff
  else 150 + (if l.dEn then 22 else 0) + ff +
    (if l.bankA.n1f ≠ 0 ∨ l.bankB.n1f ≠ 0 then 34 else 0) + (if l.bankA.n2f ≠ 0 ∨ l.bankB.n2f ≠ 0 then 34 else 0)

/-- The loops of an output. -/
def loopsOf (c : Cfg) (o : Nat) : List LoopCfg := c.loops.filter fun l => l.output == o

/-- Cycles of an output with its loops; a string's commanded level is one more candidate (08 Table 8.9). -/
def outputCost (c : Cfg) (o : Nat) : Nat :=
  let l := loopsOf c o
  48 + 8 * (l.length + (if 0x30 ≤ o then 1 else 0)) + (l.map loopCost).sum

/-- The outputs that hold a loop, ascending. -/
def loopOutputs (c : Cfg) : List Nat := (List.range 64).filter fun o => c.loops.any fun l => l.output == o

/-- What a slice pair carries while seating proceeds. -/
structure PairLoad where
  cp : Nat
  loops : Nat
  window : Nat
  deriving DecidableEq, Repr

/-- The home pair of an output, as an index into the pairs in service (15 R394). -/
def homePair (n o : Nat) : Nat :=
  if n = 3 then (if o < 4 then 0 else if o < 8 then 1 else 2)
  else if n = 2 then (if o < 4 then 0 else 1)
  else 0

/-- Cycles outside the window: partner-state packing in a pair, and a talon sample for each armed trace
(08 Table 8.9). -/
def outside (inPair : Bool) (loops traces : Nat) : Nat := (if inPair then 14 * loops else 0) + 10 * traces

/-- The traces of a slice pair that are recording (08 R211). -/
def armedTraces (s : State) (cp : Nat) : Nat :=
  ((s.ctl.traces.getD cp []).filter fun t => t.phase == 1 || t.phase == 2).length

/-- The items of a slice pair in order: the control window, then the packing, then the talon writes, each as soon as the
one before it completes (04 R88, R95). -/
def pairItems (inPair : Bool) (window loops traces : Nat) : List Config.DealItem :=
  [{ start := some 1824, worst := window, deadline := 13952 },
   { start := none, worst := outside inPair loops 0, deadline := 25000 },
   { start := none, worst := outside false 0 traces, deadline := 25000 }]

/-- Every item of a list meets its deadline when every item before it takes its worst case, on an engine whose clock runs
`ratio` times TCLK (04 R88). The second argument is the cycle at which the engine is free. -/
def meetsDeadlines (ratio : Nat) : Nat → List Config.DealItem → Bool
  | _, [] => true
  | free, x :: r =>
    let e := max free (x.start.getD free) + (x.worst + ratio - 1) / ratio
    decide (e ≤ x.deadline) && meetsDeadlines ratio e r

/-- Cycles per tick of an engine, by its code (04 Table 4.1). -/
def engineCycles (e : Nat) : Nat :=
  if e = 0 then 50000 else if e ≤ 4 then 125000 else if 0x20 ≤ e ∧ e ≤ 0x23 then 50000 else 25000

/-- The most foreground cycles that an engine is given in a tick (04 R87, Table 4.1). -/
def fgBudget (e : Nat) : Nat := 4 * engineCycles e / 5

/-- The background cycles that an engine keeps in every tick (04 R87, Table 4.1). -/
def bgBudget (e : Nat) : Nat := engineCycles e / 10

/-- An output group fits on a pair: 48 loops, every item in time (the window of 12,128) and the foreground of 20,000
(15 R394 step 3, 04 R91). Seating knows no armed trace (01 R22): all 8 of the pair are counted. -/
def fits (inPair : Bool) (p : PairLoad) (n cost : Nat) : Bool :=
  decide (p.loops + n ≤ 48) && meetsDeadlines 1 0 (pairItems inPair (p.window + cost) (p.loops + n) 8) &&
    decide (p.window + cost + outside inPair (p.loops + n) 8 ≤ fgBudget 0x10)

/-- Adds an output group to a pair. -/
def addTo (p : PairLoad) (n cost : Nat) : PairLoad := { p with loops := p.loops + n, window := p.window + cost }

/-- The shortfall on the home pair (15 R394 step 3). -/
def shortfall (inPair : Bool) (p : PairLoad) (n cost : Nat) : Nat :=
  if 12128 < p.window + cost then p.window + cost - 12128 else p.window + cost + outside inPair (p.loops + n) 8 - fgBudget 0x10

/-- Places output groups in order; the answer is the pairs' loads and the seats, or the home pair and shortfall of the
group that fits nowhere (15 R394 step 3). -/
def seatGroups (inPair : Bool) (c : Cfg) : List Nat → List PairLoad → List (Nat × Nat) → Except (Nat × Nat) (List PairLoad × List (Nat × Nat))
  | [], ps, acc => .ok (ps, acc)
  | o :: r, ps, acc =>
    let k := ps.length
    let n := (loopsOf c o).length
    let cost := outputCost c o
    let h := homePair k o
    let at_ (i : Nat) : PairLoad := ps.getD i { cp := 0, loops := 0, window := 0 }
    match ((List.range k).map fun i => (h + i) % k).find? (fun i => fits inPair (at_ i) n cost) with
    | some i => seatGroups inPair c r (updAt ps i fun p => addTo p n cost) (acc ++ [(o, (at_ i).cp)])
    | none => .error ((at_ h).cp, shortfall inPair (at_ h) n cost)

/-- Seats a configuration on the pairs in service (15 R394). -/
def seating (inPair : Bool) (pairs : List Nat) (c : Cfg) : Except (Nat × Nat) (List PairLoad × List (Nat × Nat)) :=
  seatGroups inPair c (loopOutputs c) (pairs.map fun p => { cp := p, loops := 0, window := 320 }) []

/-- Loops of a kind that an output may hold (08 Table 8.2). -/
def kindLimit (k : Nat) : Nat := if k = 7 then 2 else 1

/-- The capacities of loops (08 R185, Table 8.2, 15 Table 15.2, R394). -/
def loopCapacity (pairs : List Nat) (c : Cfg) : Bool :=
  decide (c.loops.length ≤ 64) && decide (c.loops.length ≤ 48 * pairs.length) &&
    c.loops.all fun l => decide ((c.loops.filter fun x => x.output == l.output && x.kind == l.kind).length ≤ kindLimit l.kind)

/-- Admission of a configuration as far as loops can make it fail: none when it passes (04 R91). -/
def admission (s : State) (c : Cfg) : Option Reply :=
  if !loopCapacity (slicePairs s) c then some noSeatCapacity
  else match seating (paired s) (slicePairs s) c with
    | .ok _ => none
    | .error (cp, d) => some { status := stNoSeat, info := 0x0200 + 0x10 + cp, detail := d }

/-- The seats and loads that a configuration gets; empty when it has no seat. -/
def seatsOf (s : State) (c : Cfg) : List PairLoad × List (Nat × Nat) :=
  match seating (paired s) (slicePairs s) c with
  | .ok x => x
  | .error _ => ([], [])

/-- The seat in force of an output, if any. -/
def seatAt (s : State) (o : Nat) : Option Nat := (s.ctl.seats.find? fun x => x.1 == o).map (·.2)

end Sys2Proof.Machine
end

