-- ==== Sys2Proof/Machine/Records.lean ====
section
/-!
DEFINITION. Records the module keeps (15, 03 R75 to R79, 07 R171, R172): the kitty and its retirements, the flush of the
event ring, energy checkpoints, gap and pause records, and interval profiles.
-/

namespace Sys2Proof.Machine

open Sys2Proof

/-! The kitty (15 R397 to R400) -/

/-- Elements of a kind in service and spare as manufactured (15 Table 15.3). -/
def kindSize : Nat → Nat × Nat
  | 0 => (3, 1)
  | 1 => (3, 1)
  | 2 => (40, 2)
  | 3 => (128, 4)
  | 4 => (648, 376)
  | 5 => (3584, 512)
  | _ => (0, 0)

/-- The kitty's record of a kind. -/
def kindOf (s : State) (k : Nat) : Kind := s.rcd.kitty.getD k Kind.reset

/-- RETIRED of a kind (15 R398). -/
def retiredOf (s : State) (k : Nat) : Nat := (kindOf s k).retired.length

/-- Elements of a kind that are present. -/
def presentOf (s : State) (k : Nat) : Nat := (kindSize k).1 + (kindSize k).2 - retiredOf s k

/-- IN_SERVICE of a kind (15 R398). -/
def inServiceOf (s : State) (k : Nat) : Nat := min (kindSize k).1 (presentOf s k)

/-- SPARE of a kind (15 R398). -/
def spareOf (s : State) (k : Nat) : Nat := presentOf s k - inServiceOf s k

/-- DATA of RETIRE_ADVISORY and KITTY_EXHAUSTED (18 R483). -/
def adviceData (s : State) (k : Nat) : List Byte :=
  le 1 k ++ le 3 0 ++ le 4 (inServiceOf s k) ++ le 4 (spareOf s k) ++ le 4 (retiredOf s k)

/-- The alarm that a kind's spares call for: 1 RETIRE_ADVISORY, 2 KITTY_EXHAUSTED, 0 none (18 R483). A kind that has lost
no element has none. -/
def adviceDue (s : State) (k : Nat) : Nat :=
  if retiredOf s k = 0 then 0 else if spareOf s k = 0 then 2 else if spareOf s k = 1 then 1 else 0

/-- Brings the two alarms of a kind to what its spares call for (18 R483). -/
def advise (s : State) (k : Nat) : State :=
  let n := adviceDue s k
  let d := adviceData s k
  let s := if n = 1 then s else s.clearAlarm 0x0901 d k
  let s := if n = 1 then s.raise 0x0901 d k else s
  let s := if n = 2 then s.raise 0x0903 d k else s
  s.mapRcd fun x => { x with kitty := updAt x.kitty k fun e => { e with advised := n } }

/-- Blocks that the unallocated quota can give once the NAND kitty is exhausted (15 Table 15.1, R403). -/
def unallocatedBlocks : Nat := 1094

/-- Event segments that the quota holds (15 Table 15.1, R403). -/
def eventSegments (s : State) : Nat := 256 - s.rcd.segLost

/-- The event records that the quota keeps: past it the oldest segment of 32,768 goes (15 R416). -/
def keepSegments (n : Nat) (l : List EventRec) : List EventRec :=
  if n * 32768 < l.length then l.take (l.length - 32768) else l

/-- After a NAND block retired past kitty and unallocated quota, its replacement is the oldest event segment (15 R403). -/
def nandFromEvents (s : State) : State :=
  let lost := retiredOf s 5 - (512 + unallocatedBlocks)
  if s.rcd.segLost < lost then
    let s := s.mapRcd fun x => { x with segLost := lost, nand := keepSegments (256 - lost) x.nand }
    s.raise 0x0904 (le 4 lost)
  else s

/-- Retires an element for good: list, scorecard entry, event, advisories, and the list's NAND copy (15 R397 to R400,
R402, R403, 18 R483). The CAUSE byte of the event is not given a value and is free (log 26). -/
def retire (s : State) (k i : Nat) : State :=
  if (kindOf s k).retired.contains i then s
  else
    let s := s.mapRcd fun x => { x with
      kitty := updAt x.kitty k fun e => { e with retired := i :: e.retired }
      listCount := x.listCount + 1
      hotLost := if k = 3 ∧ 4 < retiredOf s 3 + 1 then x.hotLost + 1 else x.hotLost }
    let s := s.score 0x08 (le 1 k ++ le 2 i)
    let s := s.event 0x0902 (le 1 k ++ le 1 (Config.freeNat s.fresh) ++ le 2 i)
    let s := advise s.bump k
    let s := if k = 5 then nandFromEvents s else s
    requestStore s .nand (anteMj .nand) .retireList none

/-- The alarms of 18 R483, raised again at BOOT from the retirement list. -/
def adviseAll (s : State) : State := (List.range 6).foldl advise s

/-- The daily repetition of the events of active alarms (18 R483). -/
def adviseRepeat (s : State) : State :=
  (List.range 6).foldl (fun s k =>
    let n := (kindOf s k).advised
    if n = 0 then s else s.event (if n = 1 then 0x0901 else 0x0903) (adviceData s k) 1) s

/-- Radio associations that the hot tier holds (15 R402). -/
def assocCapacity (s : State) : Nat := min 6144 ((6 * 1024 * 1024 - s.rcd.hotLost * 65536 - 2 * 1024 * 1024) / 512)

/-! The event ring and its flush (15 R410 to R416) -/

/-- The 64 bytes of an event record (15 Table 15.7). -/
def eventBytes (e : EventRec) : List Byte :=
  let b := le 8 e.seq ++ le 2 e.code.toNat ++ le 1 e.engine ++ le 1 e.kind ++ padTo 48 e.data
  b ++ le 4 (crc32 b).toNat

/-- The 256 bytes of a scorecard entry (15 Table 15.10). -/
def scoreBytes (e : ScoreEntry) : List Byte :=
  let b := le 4 e.entry ++ le 1 e.typ ++ le 1 e.state ++ le 2 0 ++ le 8 e.tick ++ le 4 e.epoch.toNat ++ le 4 e.boot.toNat ++
    le 8 e.utc ++ le 8 e.eventSeq ++ le 4 e.claim.toNat ++ le 4 e.fw.toNat ++ padTo 204 e.data
  b ++ le 4 (crc32 b).toNat

/-- Enters a TIME_MARKER (15 R412, Table 15.8). -/
def timeMarker (s : State) : State :=
  s.event 0x0001 (le 8 s.clk.tick ++ le 4 s.clk.epoch.toNat ++ le 1 s.eth.servo.lock ++ le 1 0 ++ leInt 2 s.eth.taiUtc ++
    leInt 8 (utcNow s) ++ le 4 s.sys.bootNumber.toNat ++ leInt 2 (zoneMinutes s (utcNow s)))

/-- A flush commit stands among the stores. -/
def flushAsked (s : State) : Bool := s.pow.stores.any fun x => x.purpose == .flush

/-- The flush whose ante has passed starts: it copies up to the newest record (15 R413) and serves the 0x0907 commands
read so far. -/
def flushBegin (s : State) : State :=
  if s.rcd.flushing.isNone && s.pow.stores.any (fun x => x.purpose == .flush && x.running) then
    s.mapRcd fun x => { x with flushing := some x.nextSeq, flushNow := x.flushNow ++ x.flushToks, flushToks := [] }
  else s

/-- A trigger starts a flush, or, while one is under way, another one when that completes (15 R413). -/
def startFlush (s : State) : State :=
  let s := s.mapRcd fun x => { x with flushTrig := none }
  if s.rcd.flushing.isSome then s.mapRcd fun x => { x with flushAgain := true }
  else if flushAsked s then s
  else flushBegin (requestStore s .nand (anteMj .nand) .flush none)

/-- EVENTS_LOST once a slot is free (15 R414). -/
def reportLost (s : State) : State :=
  if s.rcd.dropped = 0 ∨ ringFull s then s
  else
    let d := le 4 s.rcd.dropped ++ le 4 0 ++ le 8 s.rcd.dropFirst ++ le 8 s.rcd.dropLast
    enterRec (s.mapRcd fun x => { x with dropped := 0 }) 0x0003 0 d

/-- The flush commit completes: its records are in NAND, its slots are free, its 0x0907 commands get their notices
(15 R413, R414, R416). -/
def flushDone (s : State) : State :=
  match s.rcd.flushing with
  | none => s
  | some hi =>
    let again := s.rcd.flushAgain || !s.rcd.flushToks.isEmpty
    let toks := s.rcd.flushNow
    let n := (s.rcd.ring.filter fun e => decide (e.seq < hi)).length
    let s := s.mapRcd fun x => { x with
      nand := keepSegments (eventSegments s) ((x.ring.filter fun e => decide (e.seq < hi)) ++ x.nand)
      ring := x.ring.filter fun e => decide (hi ≤ e.seq)
      committed := x.committed + n
      flushing := none
      flushNow := [] }
    let s := toks.foldl (fun s t => finishOp s t {}) (reportLost s)
    let s := s.mapRcd fun x => { x with flushAgain := false }
    if !again then s
    else if s.pow.rideFlush then
      (startFlush (s.mapPow fun w => { w with warning := false })).mapPow fun w => { w with
        warning := true
        rideFlush := false }
    else startFlush s

/-! Energy checkpoints (01 R15, 03 R75, 07 R171, R172) -/

/-- A checkpoint copy is valid (01 R15). -/
def Ckpt.valid (c : Ckpt) : Bool := c.crcOk && !c.blank

/-- `a` is newer than `b`: first by round, then by snapshot tick (01 R15, 03 R75). -/
def Ckpt.newer (a b : Ckpt) : Bool := decide (b.round < a.round) || (a.round == b.round && decide (b.tick < a.tick))

/-- Index of the newest valid checkpoint copy (01 R15). -/
def newestIdx (l : List Ckpt) : Option Nat :=
  let a := l.getD 0 Ckpt.reset
  let b := l.getD 1 Ckpt.reset
  if a.valid then (if b.valid && b.newer a then some 1 else some 0) else if b.valid then some 1 else none

/-- The newest valid checkpoint. -/
def newestCkpt (s : State) : Option Ckpt := (newestIdx s.met.ckpts).map fun i => s.met.ckpts.getD i Ckpt.reset

/-- What a checkpoint snapshot holds now (07 R171, 08 R200, 09 R230, 13 R346, R356, 15 R406). -/
def snapshot (s : State) (closing : Bool) (reason : Nat) : Ckpt where
  blank := false
  crcOk := true
  round := curRound s
  tick := s.clk.tick
  closing := closing
  reason := reason
  utc := rtcUtc s
  sets := s.met.sets
  lanterns := s.met.lanterns
  setPoints := s.ctl.loops.filterMap fun l => l.sp.map fun v => (l.idx, v)
  contactors := BitVec.ofNat 8 (((List.range 8).map fun i => if (s.outs.contactors.getD i Contactor.reset).want then 2 ^ i else 0).sum)
  overrides := s.sch.overrides
  ledger := s.sch.ledger
  profSeqs := s.rcd.profiles.map fun p => (p.obj, p.next)
  powers := s.ctl.cib.feederP

/-- Writes a checkpoint over the older copy (01 R15). The copy stands whole at once; `cutCkpt` is what a loss of supply
during the write leaves (log 175). -/
def writeCkpt (s : State) (c : Ckpt) : State :=
  let i := match newestIdx s.met.ckpts with
    | some 0 => 1
    | _ => 0
  s.mapMet fun m => { m with
    ckpts := updAt m.ckpts i fun _ => c
    ckptAt := some (i, s.now) }

/-- A planned stop of metering: closing checkpoint, then the event flush (07 R172). -/
def closingStop (s : State) (reason : Nat) : State :=
  let s := if s.met.running then writeCkpt s (snapshot s true reason) else s
  startFlush (s.mapMet fun m => { m with running := false })

/-! Interval profiles (15 R406 to R409) -/

/-- Profile reference of energy set `i`: SET is `i` for a feeder, 0x10 or 0x11 for a supply (15 Table 15.2). -/
def setCode (i : Nat) : Nat := if i < 8 then i else 8 + i

/-- Reference of the profile of energy set `i`. -/
def setProfile (i : Nat) : U32 := mkRef 0x06 (0xFF0000 + setCode i)

/-- Reference of the readings profile. -/
def readingsProfile : U32 := mkRef 0x06 0xFF00FF

/-- Reference of a lantern's profile. -/
def lanternProfile (n : U32) : U32 := mkRef 0x06 (refIndex n)

/-- Records that a ring keeps (15 Table 15.1). -/
def ringSize (obj : U32) : Nat :=
  if obj == readingsProfile then 4096 else if 0xFF0000 ≤ refIndex obj then 73728 else 9600

/-- A profile of its reference; one with no record yet starts at SEQ 0. -/
def profOf (s : State) (obj : U32) : Option Profile := s.rcd.profiles.find? fun p => p.obj == obj

/-- Estimated-energy accumulator of a lantern (07 R180). -/
def lanternAcc (s : State) (n : U32) : Int := ((s.met.lanterns.find? fun x => x.node == n).map (·.acc)).getD 0

/-- The profile as opened at the present round: SHORT when it does not begin at an aligned boundary (15 Table 15.5). -/
def openProfile (s : State) (obj : U32) (next : Nat) (recs : List ProfRec) (short : Bool) (acc0 : Int) : Profile where
  obj := obj
  next := next
  recs := recs
  start := s.clk.tick
  startUtc := (utcNow s).toNat
  flags := if short then 1 else 0
  startNow := s.now
  startEpoch := s.clk.epoch
  startZone := zoneMinutes s (utcNow s)
  levelSum := 0
  acc0 := acc0

/-- Replaces or adds a profile. -/
def putProfile (s : State) (p : Profile) : State :=
  s.mapRcd fun x => { x with profiles := putSorted x.profiles (fun y => y.obj.toNat) p }

/-- Appends a record built from its SEQ; the ring overwrites its oldest (15 R406, R407). -/
def Profile.append (p : Profile) (mk : Nat → List Byte) : Profile :=
  { p with next := p.next + 1, recs := ({ seq := p.next, bytes := mk p.next, stored := false } :: p.recs).take (ringSize p.obj) }

/-- Appends a record to a profile of the module, opening the profile when it has none. -/
def appendRec (s : State) (obj : U32) (mk : Nat → List Byte) : State :=
  let p := (profOf s obj).getD (openProfile s obj 0 [] true 0)
  putProfile s (p.append mk)

/-- A record waits for its commit in a store already asked for. -/
def recordAsked (s : State) (k : U32 × Nat) : Bool :=
  s.pow.stores.any fun x => match x.purpose with
    | .records l => l.contains k
    | _ => false

/-- The records that no NAND commit holds yet, nor any store asked for. -/
def unstored (s : State) : List (U32 × Nat) :=
  ((s.rcd.profiles.map fun p => (p.recs.filter fun r => !r.stored).map fun r => (p.obj, r.seq)).flatten).filter fun k => !recordAsked s k

/-- New records are committed under gate N; until the commit completes their data stays in DRAM (03 R72, 15 R406). -/
def storeRecords (s : State) : State :=
  let l := unstored s
  if l.isEmpty then s else requestStore s .nand (anteMj .nand) (.records l) none

/-- The commit of records is done. -/
def recordsStored (s : State) (l : List (U32 × Nat)) : State :=
  let one (p : Profile) : Profile := { p with recs := p.recs.map fun r => if l.contains (p.obj, r.seq) then { r with stored := true } else r }
  s.mapRcd fun x => { x with profiles := x.profiles.map one }

/-- A record with its CRC-32 over all bytes before it. -/
def withCrc (b : List Byte) : List Byte := b ++ le 4 (crc32 b).toNat

/-- Bytes 0x00 to 0x27 of a feeder or reading record (15 Table 15.5, R409). -/
def recHead (typ : Nat) (flags : U16) (q utc tick : Nat) (epoch : U32) (zone : Int) (dur : Nat) : List Byte :=
  le 2 typ ++ le 2 flags.toNat ++ le 4 q ++ le 8 utc ++ le 8 tick ++ le 4 epoch.toNat ++ leInt 2 zone ++ le 2 0 ++ le 4 dur ++ le 4 0

/-- A feeder interval record (15 Table 15.5) with the accumulators of the newest checkpoint (15 R406). -/
def feederRecord (s : State) (p : Profile) (i : Nat) (flags : U16) (q : Nat) : List Byte :=
  let set := match newestCkpt s with
    | some c => c.sets.getD i []
    | none => s.met.sets.getD i []
  withCrc (recHead 0x0001 flags q p.startUtc p.start p.startEpoch p.startZone (s.now - p.startNow) ++
    ((List.range 20).map fun k => leInt 8 (set.getD k Reg.reset).acc).flatten ++ le 4 0)

/-- A lantern interval record (15 Table 15.6). -/
def lanternRecord (s : State) (p : Profile) (n : U32) (flags : U16) (q : Nat) : List Byte :=
  let ticks := s.now - p.startNow
  withCrc (le 2 0x0002 ++ le 2 flags.toNat ++ le 4 q ++ le 8 p.startUtc ++ le 8 p.start ++ le 4 p.startEpoch.toNat ++
    leInt 2 p.startZone ++ le 2 (if ticks = 0 then 0 else p.levelSum / ticks) ++ leInt 4 (lanternAcc s n - p.acc0))

/-- A reading record written by a REPORT step into the readings profile (15 R409, 13 R352); the answer is its SEQ. -/
def reading (s : State) (code : Nat) : State × Nat :=
  let q := ((profOf s readingsProfile).map (·.next)).getD 0
  let body (n : Nat) : List Byte :=
    withCrc (recHead 0x0005 s.rcd.flags15 n (utcNow s).toNat s.clk.tick s.clk.epoch (zoneMinutes s (utcNow s)) 0 ++
      le 2 code ++ le 2 0 ++ (s.met.sets.map fun set => ((List.range 20).map fun k => leInt 8 (set.getD k Reg.reset).acc).flatten).flatten)
  (storeRecords (appendRec s readingsProfile body), q)

/-- Closes the open interval of energy set `i` and opens the next (15 R406, 13 R358). -/
def closeSet (s : State) (aligned : Bool) (i : Nat) : State :=
  let obj := setProfile i
  match profOf s obj with
  | none => putProfile s (openProfile s obj 0 [] (!aligned) 0)
  | some p =>
    let flags := p.flags ||| s.rcd.flags15 ||| (if aligned then 0 else 1)
    let p := p.append fun q => feederRecord s p i flags q
    putProfile s (openProfile s obj p.next p.recs (!aligned) 0)

/-- Closes the open interval of a lantern and opens the next (15 R406, R408). -/
def closeLantern (s : State) (aligned : Bool) (n : NodeRec) : State :=
  let obj := lanternProfile n.node
  match profOf s obj with
  | none => putProfile s (openProfile s obj 0 [] (!aligned) (lanternAcc s n.node))
  | some p =>
    let own : U16 := if n.origin = 1 then 4 else 0
    let flags := p.flags ||| s.rcd.flags60 ||| own ||| (if aligned then 0 else 1)
    let p := p.append fun q => lanternRecord s p n.node flags q
    putProfile s (openProfile s obj p.next p.recs (!aligned) (lanternAcc s n.node))

/-- The lantern node records, own and adopted. -/
def lanternNodes (s : State) : List NodeRec := (allNodes s).filter fun n => refClass n.node == 1

/-- Closes the intervals that end at the present round boundary: aligned ones, and every open one where a time step
takes effect (15 R406, 13 R358). -/
def closeIntervals (s : State) : State :=
  let u := utcNow s
  let step := s.clk.stretch
  let q15 := u % 900 == 0
  let q60 := u % 3600 == 0
  let s15 := if q15 || step then
      let s := (List.range 10).foldl (fun s i => closeSet s (q15 && !step) i) s
      s.mapRcd fun x => { x with flags15 := if step then 2 else 0 }
    else s
  let s60 := if q60 || step then
      let t := (lanternNodes s15).foldl (fun s n => closeLantern s (q60 && !step) n) s15
      t.mapRcd fun x => { x with flags60 := if step then 2 else 0 }
    else s15
  storeRecords s60

/-- Row INTERVAL_CLOSE: the records of the intervals that end at this round boundary (15 R406). -/
def execIntervalClose (s : State) : Result :=
  .next (if s.met.running && (tickInRound s == 0 || s.clk.stretch) then closeIntervals s else s)

/-- Opens every profile anew after a restart: the first record is SHORT (15 R406). -/
def openIntervals (s : State) : State :=
  let s := (List.range 10).foldl (fun s i =>
    let old := profOf s (setProfile i)
    putProfile s (openProfile s (setProfile i) ((old.map (·.next)).getD 0) ((old.map (·.recs)).getD []) true 0)) s
  (lanternNodes s).foldl (fun s n =>
    let old := profOf s (lanternProfile n.node)
    putProfile s (openProfile s (lanternProfile n.node) ((old.map (·.next)).getD 0) ((old.map (·.recs)).getD []) true (lanternAcc s n.node))) s

/-! Gap and pause records (03 R77 to R79, 07 R172) -/

/-- T of 03 R77 before its limit, in ticks. -/
def gapTicks (alive ckpt : Nat) (valid : Bool) : Nat := (if valid then alive - ckpt else 0) + 1000

/-- bound_f of 03 R77 in 10^-4 Wh, rounded up: power in 0.1 W, time in ticks. -/
def gapBound (p : Int) (t : Nat) : Nat := ceilDiv (p.natAbs * t) 28800

/-- The gap record (03 Table 3.6). Without any alive mark, a case the rule does not take up, T is 1,000 ticks, as with a mark
no newer than the checkpoint, and ALIVE_TICK and the powers are 0 (log 177). -/
def gapRecord (s : State) (c : Ckpt) : List Byte :=
  let a := s.met.alive
  let t0 := gapTicks a.tick c.tick a.valid
  let t := min t0 8002
  let rtcOk := !rtcInvalid s && a.valid && a.utc != 0
  let flags := 1 + 2 * bit (a.valid && decide (c.tick < a.tick)) + 4 * bit rtcOk + 8 * bit (decide (8002 < t0))
  let p := if a.valid then a.powers else List.replicate 8 0
  withCrc (le 2 0x0003 ++ le 2 flags ++ le 4 s.clk.epoch.toNat ++ le 8 c.tick ++ le 8 (if a.valid then a.tick else 0) ++
    le 8 (rtcUtc s) ++ le 4 (125 * t) ++ le 4 (if rtcOk then rtcUtc s - a.utc else 0) ++
    ((List.range 8).map fun f => leInt 4 (p.getD f 0)).flatten ++ ((List.range 8).map fun f => le 4 (gapBound (p.getD f 0) t)).flatten)

/-- Stores a record in each feeder's profile; it waits in DRAM until the commit's ante passes (03 R64, R78, 07 R172). -/
def storeInFeeders (s : State) (b : List Byte) : State :=
  storeRecords ((List.range 8).foldl (fun s f => appendRec s (setProfile f) fun _ => b) s)

/-- Writes the gap record of a restart without a closing checkpoint: numbered, stored, mirrored (03 R77, R78). -/
def writeGap (s : State) (c : Ckpt) : State :=
  let b := gapRecord s c
  let q := ((profOf s (setProfile 0)).map (·.next)).getD 0
  let s := storeInFeeders s b
  let s := s.mapMet fun m => { m with gaps := m.gaps ++ [{ num := m.gapNext, seq := q, bytes := b }], gapNext := m.gapNext + 1 }
  let s := s.mapRcd fun x => { x with flags15 := x.flags15 ||| 16 }
  s.event 0x0205 (b.take 48)

/-- PAUSE_MS: the seconds that the clock's fields differ by, with the fraction of a second at both ends free (log 13);
0 with the clock invalid now (12 R323), and free where it was invalid at the stop. -/
def pauseMs (s : State) (c : Ckpt) : Nat :=
  if rtcInvalid s then 0
  else if c.utc = 0 then Config.freeNat s.fresh
  else 1000 * (rtcUtc s - c.utc) + Config.freeNat s.fresh % 1999 - 999

/-- The pause record (07 Table 7.9). -/
def pauseRecord (s : State) (c : Ckpt) : List Byte :=
  withCrc (le 2 0x0004 ++ le 1 c.reason ++ le 1 0 ++ le 4 s.clk.epoch.toNat ++ le 8 c.tick ++ le 8 s.clk.tick ++ le 8 (if rtcInvalid s then 0 else c.utc) ++
    le 4 (pauseMs s c) ++ ((List.range 8).map fun f => leInt 4 (c.powers.getD f 0)).flatten)

/-- Writes the pause record when metering starts after a planned stop (07 R172). -/
def writePause (s : State) (c : Ckpt) : State :=
  let b := pauseRecord s c
  let s := storeInFeeders s.bump b
  let s := s.mapRcd fun x => { x with flags15 := x.flags15 ||| 16 }
  s.event 0x0206 (b.take 48)

/-- The gap records that 0x020B still returns: those that feeder 0's profile has not overwritten (03 R78). -/
def gapsKept (s : State) : List GapRec :=
  let next := ((profOf s (setProfile 0)).map (·.next)).getD 0
  s.met.gaps.filter fun g => decide (next ≤ g.seq + 73728)

end Sys2Proof.Machine
end

