-- ==== Sys2Proof/Machine/Storage.lean ====
section
/-!
DEFINITION. Storage commands of group 0x09 (15, 06 Table 6.15), the flush of the event ring, and the upkeep tasks of the
housekeeper (15 R402 to R405).
-/

namespace Sys2Proof.Machine

open Sys2Proof

/-! Reports -/

/-- The engines of 06 Table 6.4, ascending. -/
def engineCodes : List Nat :=
  [0x00, 0x01, 0x02, 0x03, 0x04, 0x10, 0x11, 0x12, 0x13, 0x20, 0x21, 0x22, 0x23, 0x30, 0x31, 0x40, 0x41, 0x50, 0x60]

/-- The kitty kind and index of an engine, when it is of a kind that the kitty holds. -/
def engineKind (e : Nat) : Option (Nat × Nat) :=
  if 0x10 ≤ e ∧ e ≤ 0x13 then some (0, e - 0x10) else if 0x20 ≤ e ∧ e ≤ 0x23 then some (1, e - 0x20) else none

/-- ESTATE of an engine: 0 in service, 1 kitty, 2 retired (06 Table 6.15). -/
def engineState (s : State) (e : Nat) : Nat :=
  match engineKind e with
  | none => 0
  | some (k, i) =>
    if (kindOf s k).retired.contains i then 2 else if (inService s k 4 3).contains i then 0 else 1

/-- FG_ADM of an engine: a slice pair's from 08 Table 8.9, another's the sum of its items, an implementation figure that
R91 guarantees within Table 4.1; 0 in the kitty or retired, where it has no item (04 R88). -/
def fgAdmitted (s : State) (e : Nat) : Nat :=
  if engineState s e ≠ 0 then 0
  else match engineKind e with
    | some (0, cp) =>
      match (seatsOf s s.cfg).1.find? (fun p => p.cp == cp) with
      | some p => p.window + outside (paired s) p.loops (armedTraces s cp)
      | none => 0
    | _ => min ((Config.engineItems e).map (·.worst)).sum (fgBudget e)

/-- BG_ADM of an engine, an implementation figure within the share of Table 4.1 (04 R87, R91). -/
def bgAdmitted (s : State) (e : Nat) : Nat := if engineState s e ≠ 0 then 0 else min (Config.engineBackground e) (bgBudget e)

/-- FG_MAX of an engine: the largest count measured in the last round (04 R90). -/
def fgMeasured (s : State) (e : Nat) : Nat :=
  if engineState s e ≠ 0 then 0 else ((s.ctl.fgMax.find? fun x => x.1 == e).map (·.2)).getD 0

/-- An entry of the seating report. -/
def seatItem (s : State) (e : Nat) : Nat × List Byte :=
  (e, le 1 e ++ le 1 (engineState s e) ++ le 2 0 ++ le 4 (fgAdmitted s e) ++ le 4 (bgAdmitted s e) ++ le 4 (fgMeasured s e))

/-- Command 0x0901, seating report (04 R90). -/
def execSeatingReport (r : Req) (p : SeatingReportP) (s : State) : Result :=
  .next (gmp s r { cmd := 0x0901, len := 12, fields := [(0x1A, p.prsv == 0)] } fun _ s =>
    (s, okWith (page p.cursor p.max [] (engineCodes.map (seatItem s)))))

/-- Command 0x0902, kitty telemetry (15 R397, R398). -/
def execKittyTelemetry (r : Req) (s : State) : Result :=
  .next (gmp s r { cmd := 0x0902, len := 0 } fun _ s =>
    (s, okWith (((List.range 6).map fun k => adviceData s k).flatten)))

/-- Command 0x0903, events (15 R416). -/
def execEvents (r : Req) (p : EventsP) (s : State) : Result :=
  .next (gmp s r { cmd := 0x0903, len := 12, fields := [(0x1A, p.prsv == 0)] } fun _ s =>
    (s, okWith (page p.cursor p.max [] ((s.rcd.ring ++ s.rcd.nand).reverse.map fun e => (e.seq, eventBytes e)))))

/-- Command 0x0904, scorecard (15 R417). -/
def execScorecard (r : Req) (p : ScorecardP) (s : State) : Result :=
  .next (gmp s r { cmd := 0x0904, len := 12, fields := [(0x1A, p.prsv == 0)] } fun _ s =>
    (s, okWith (page p.cursor p.max [] (s.rcd.score.reverse.map fun e => (e.entry, scoreBytes e)))))

/-- A profile reference names a profile that the module has assigned (15 R391, Table 15.2). -/
def profileExists (s : State) (obj : U32) : Bool :=
  refClass obj == 6 && (obj == readingsProfile || (List.range 10).any (fun i => setProfile i == obj) ||
    (lanternNodes s).any fun n => lanternProfile n.node == obj)

/-- Command 0x0905, interval profile (15 R407). -/
def execIntervalProfile (r : Req) (p : IntervalProfileP) (s : State) : Result :=
  .next (gmp s r { cmd := 0x0905, len := 16, fields := [(0x1A, p.prsv == 0), (0x1C, profileExists s p.obj)] } fun _ s =>
    let l := ((profOf s p.obj).map (·.recs)).getD []
    (s, okWith (page p.cursor p.max [] (l.reverse.map fun e => (e.seq, e.bytes)))))

/-- The index of an event segment is one that NAND holds (15 Table 15.2 class 0x08). -/
def segmentHeld (s : State) (i : Nat) : Bool :=
  let first := (s.rcd.committed - s.rcd.nand.length) / 32768
  let n := ceilDiv s.rcd.committed 32768 - first
  (List.range n).any fun k => (first + k) % 0x1000000 == i

/-- Tier and engine of an object that exists (15 Table 15.2, R393). -/
def objectSeat (s : State) (obj : U32) : Option (Nat × Nat) :=
  let i := refIndex obj
  match refClass obj with
  | 0x01 => if (nodeRec s obj).isSome then some (1, 0x01) else none
  | 0x02 => if (nodeRec s obj).isSome then some (1, 0x01) else none
  | 0x03 => if (groupOf s.cfg i).isSome then some (1, 0x02) else none
  | 0x04 => if s.cfg.scheds.any (fun c => c.sched == i) then some (1, 0x02) else none
  | 0x05 =>
    match cfgLoopOf s.cfg i with
    | some l => (seatAt s l.output).map fun cp => (0, 0x10 + cp)
    | none => none
  | 0x06 => if profileExists s obj then some (2, 0x03) else none
  | 0x07 => (s.mesh.assocs.find? fun a => a.short == i).map fun a => (0, if a.port = 2 then 0x31 else 0x30)
  | 0x08 => if segmentHeld s i then some (2, 0x04) else none
  | 0x09 => if (s.sec.hands.getD i none).isSome then some (2, 0x50) else none
  | 0x0A => if i < s.mesh.replicas.length then some (2, 0x01) else none
  | _ => none

/-- Command 0x0906, object seat (15 R393). -/
def execObjectSeat (r : Req) (p : ObjectSeatP) (s : State) : Result :=
  .next (gmp s r { cmd := 0x0906, len := 4, fields := [(0x10, (objectSeat s p.obj).isSome)] } fun _ s =>
    let (t, e) := (objectSeat s p.obj).getD (0, 0)
    (s, okWith (le 1 t ++ le 1 e ++ le 2 0)))

/-- Command 0x0907, flush the event ring: a flush starts at the next tick boundary and the notice follows it (15 R413). -/
def execFlushEventRing (r : Req) (s : State) : Result :=
  .next (gmp s r { cmd := 0x0907, len := 0 } fun t s =>
    (s.trigFlush.mapRcd fun x => { x with flushToks := x.flushToks ++ [t] }, { status := stAccepted }))

/-- Command 0x0908, erase settings: configuration and commissioning records go at the round boundary (06 Table 6.15,
04 R92). -/
def execEraseSettings (r : Req) (p : EraseSettingsP) (s : State) : Result :=
  .next (gmp s r { cmd := 0x0908, len := 4, fields := [(0x10, p.confirm == 0x45524153)] } fun t s =>
    admitChange s t (.eraseSettings r p))

/-- Row EVENT_RING_FLUSH: a trigger of an earlier tick starts a flush (15 R413, Table 15.9). -/
def execEventRingFlush (s : State) : Result :=
  .next (match s.rcd.flushTrig with
    | none => s
    | some t => if t < s.now then startFlush s else s)

/-- A running store stands first among the running stores of its kind with this purpose. -/
def firstRunning (s : State) (k : StoreKind) : Option Store := s.pow.stores.find? fun x => x.kind == k && x.running

/-- Removes a store that has completed. -/
def dropStore (s : State) (x : Store) : State := s.mapPow fun w => { w with stores := w.stores.erase x }

/-- Row FLUSH_COMPLETE: the flush commit, first of the running NAND commits, completes (15 R413). -/
def execFlushComplete (s : State) : Result :=
  .next (match firstRunning s .nand with
    | none => s
    | some x => if x.purpose = .flush then flushDone (dropStore s x) else s)

/-- The code of a gate (06 Table 6.2). -/
def gateCode : StoreKind → Nat
  | .nand => 1
  | .key => 2
  | .fuse => 3
  | .image => 4
  | .closing => 1

/-- A store has been deferred for more than 60 s. -/
def overdue (s : State) (x : Store) : Bool := !x.running && decide (x.since + secs 60 < s.now)

/-- Row ANTE_ALARM: a store deferred for more than 60 s raises the alarm of its gate, once the stack has reached 12.0 V
(03 R72). -/
def execAnteAlarm (s : State) : Result :=
  .next (if !s.pow.seen12V then s
    else (s.pow.stores.filter (overdue s)).foldl (fun s x =>
      s.raise 0x0105 (le 1 (gateCode x.kind) ++ le 3 0 ++ le 4 (availUnits s) ++ le 4 (ceilDiv x.mj 10)) (gateCode x.kind)) s)

/-! Upkeep (15 R402 to R405) -/

/-- What an uncorrectable error does to the object that holds the word: recovered from another copy, or lost and
recorded (01 R16). -/
def objectFault (s : State) (mem : Nat) (obj : U32) (copyOk : Bool) : State :=
  if copyOk then s else s.event 0x010F (le 4 obj.toNat ++ le 1 mem ++ le 1 0 ++ le 2 0)

/-- A good copy is left of what an error has hit: of a checkpoint copy the other one, by its CRC; of the retirement list its
copy in NAND; of an owner record and of the update record the other copy; of another object what the error says (01 R16,
15 R400, 16 R427, 17 R462; log 204). -/
def copyLeft (s : State) (mem index : Nat) (ok : Bool) : Bool :=
  if mem ≠ 4 then ok
  else if index < 2 then (s.met.ckpts.getD (1 - index) Ckpt.reset).valid
  else if index = 2 then s.rcd.listNandCount == s.rcd.listCount
  else if index = 3 ∨ index = 4 then (s.sec.owners[4 - index]?).any (·.crcOk)
  else if index = 5 then s.upd.recPrev.isSome
  else if index = 6 then true
  else ok

/-- The rows of scrub `n` fall due every `per` rounds (15 Table 15.4). -/
def scrubDue (s : State) (n per : Nat) : Bool :=
  let last := s.rcd.scrubs.getD n 0
  last == 0 || decide (last + per ≤ curRound s)

/-- Notes the round of a scrub. -/
def scrubbed (s : State) (n : Nat) : State := s.mapRcd fun x => { x with scrubs := updAt x.scrubs n fun _ => curRound s }

/-- Addresses with correctable errors after a pass, with the passes in a row in which each was found (15 Table 15.3). -/
def streaks (old : List (Nat × Nat)) (hits : List ScrubHit) : List (Nat × Nat) :=
  (hits.filter fun h => !h.hard).map fun h => (h.addr, 1 + ((old.find? fun x => x.1 == h.addr).map (·.2)).getD 0)

/-- An address has failed: an uncorrectable error, or the third pass in a row (15 Table 15.3). -/
def failing (runs : List (Nat × Nat)) (h : ScrubHit) : Bool :=
  h.hard || ((runs.find? fun x => x.1 == h.addr).any fun x => decide (3 ≤ x.2))

/-- Row SRAM_SCRUB (15 R405, Table 15.3, 01 R16). -/
def execSramScrub (hits : List ScrubHit) (s : State) : Result :=
  .next (if !scrubDue s 0 64 then s
    else
      let runs := streaks s.rcd.sramHits hits
      let s := (scrubbed s 0).mapRcd fun x => { x with sramHits := runs.filter fun e => decide (e.2 < 3) }
      (hits.filter (failing runs)).foldl (fun s h =>
        let s := if h.hard then objectFault s 0 h.obj h.copyOk else s
        retire s 3 h.index) s)

/-- Row DRAM_SCRUB: a failing location is excluded from the warm tier and counted (15 R405). -/
def execDramScrub (hits : List ScrubHit) (s : State) : Result :=
  .next (if !scrubDue s 1 86400 then s
    else
      let runs := streaks s.rcd.dramHits hits
      let s := (scrubbed s 1).mapRcd fun x => { x with dramHits := runs.filter fun e => decide (e.2 < 3) }
      (hits.filter (failing runs)).foldl (fun s h =>
        let s := if h.hard then objectFault s 1 h.obj h.copyOk else s
        if s.rcd.dramExcluded.contains h.addr then s
        else (s.mapRcd fun x => { x with dramExcluded := h.addr :: x.dramExcluded }).event 0x0906 (le 8 h.addr)) s)

/-- An uncorrectable error in a checkpoint copy, in the retirement list, in an owner record or in the update record makes that
copy bad (01 R15, R16, 15 R400, 16 R427, 17 R462). The index of a hit names the item: 0 and 1 the checkpoint copies, 2 the
retirement list, 3 and 4 the owner records, 5 the update record in force and 6 its other copy (log 204). -/
def mramFault (s : State) (i : Nat) : State :=
  if i < 2 then s.mapMet fun m => { m with ckpts := updAt m.ckpts i fun c => { c with crcOk := false } }
  else if i = 2 then s.mapRcd fun x => { x with listBad := true }
  else if i = 3 ∨ i = 4 then s.mapSec fun c => { c with owners := updAt c.owners (i - 3) fun o => { o with crcOk := false } }
  else if i = 5 then s.mapUpd fun u => { u with rec_ := u.recPrev.getD UpdRec.reset, recPrev := none }
  else if i = 6 then s.mapUpd fun u => { u with recPrev := none }
  else s

/-- Row MRAM_SCRUB (15 R405). -/
def execMramScrub (hits : List ScrubHit) (s : State) : Result :=
  .next (if !scrubDue s 2 3600 then s
    else (hits.filter (·.hard)).foldl (fun s h => objectFault (mramFault s h.index) 4 h.obj (copyLeft s 4 h.index h.copyOk)) (scrubbed s 2))

/-- A NOR sector of the resident loader area (01 Table 1.4): 64 KiB sectors 0 to 3, copy A then copy B (17 R471). -/
def loaderSector (i : Nat) : Bool := decide (i < 4)

/-- A NOR sector of the factory data area (01 Table 1.4): 64 KiB sectors 4 to 7. -/
def factorySector (i : Nat) : Bool := decide (4 ≤ i) && decide (i < 8)

/-- A loader sector whose CRC fails: alarm, and a scorecard entry whose TYPE and DATA are not given and are free
(15 R404, log 26). -/
def loaderCrc (s : State) (i : Nat) : State :=
  let s := s.raise 0x0905 (le 1 (i / 2) ++ le 1 0 ++ le 2 i) i
  (s.score (Config.freeNat s.fresh % 256) (padTo 204 (Config.freeBytes s.fresh 204))).bump

/-- A NOR sector is written: a failed one is remapped to a spare sector by that write (15 R404, Table 15.4). -/
def norWrite (s : State) (sector : Nat) : State :=
  s.mapRcd fun x => { x with
    norProg := (sector, s.now) :: x.norProg.filter fun e => e.1 != sector
    norRemap := x.norRemap.filter fun e => e != sector }

/-- Row NOR_SCRUB: a loader sector with a bad CRC raises its alarm; an image or settings sector is rewritten from its
copy (15 R404). -/
def execNorScrub (bad : List Nat) (s : State) : Result :=
  .next (if !scrubDue s 3 86400 then s
    else
      let s := (bad.filter loaderSector).foldl loaderCrc (scrubbed s 3)
      (bad.filter fun i => !loaderSector i && !factorySector i).foldl norWrite s)

/-- Ten years of the model clock, 3,652.5 days (15 Table 15.4, log 203). -/
def tenYears : Nat := secs 315576000

/-- The refresh of a sector is due: no program of it is known, or its last one lies 10 years back (15 Table 15.4). -/
def refreshDue (s : State) (sector : Nat) : Bool :=
  match s.rcd.norProg.find? fun e => e.1 == sector with
  | none => true
  | some e => decide (e.2 + tenYears ≤ s.now)

/-- Row NOR_REFRESH: a sector is rewritten in place 10 years after its last program, which also remaps a failed one (15 R404,
R405). The loader area is left alone, and the factory data area outside PROVISIONING, where R14 refuses any write to it (01 R14
against 15 Table 15.4, log 178). -/
def execNorRefresh (sector : Nat) (s : State) : Result :=
  .next (if loaderSector sector || (factorySector sector && lifecycle s != 1) || !refreshDue s sector then s
    else norWrite s sector)

/-- Row NAND_RETENTION_READ: rewritten to a fresh block above 24 bits or after 365 days; when not correctable, retired, its
object recovered from another copy or recorded as lost (01 R16, 15 Table 15.3, Table 15.4). -/
def execNandRetentionRead (block : Nat) (bits : Nat) (r : NandRead) (s : State) : Result :=
  .next (
    let s := if 40 < bits then retire (objectFault s 3 r.obj r.copyOk) 5 block else s
    if 24 < bits ∨ 365 ≤ r.days then
      s.mapRcd fun x => { x with retention := (block, s.now) :: x.retention.filter fun e => e.1 != block }
    else s)

end Sys2Proof.Machine
end

