-- ==== Sys2Proof/Machine/Metering.lean ====
section
/-!
DEFINITION. Metering (07): samples and their correction, zero crossings, the 200 ms window, energy registers, power
quality, residuals, hot calibration, phasor reports, checkpoints and alive marks, and the commands of group 0x02 that
concern them.
-/

namespace Sys2Proof.Machine

open Sys2Proof

/-! Figures -/

/-- Whole units of an exact quantity: its floor, plus a free bit where it is not whole (log 16). -/
def roundBy (f : Nat) (q : Rat) : Int :=
  let n := q.floor
  if q = n then n else if Config.roundUp f then n + 1 else n

/-- A root, evaluated to 10^-6 of a unit (log 16). -/
def rootRat (q : Rat) : Rat := if q ≤ 0 then 0 else mkRat (Nat.sqrt ((q * 1000000000000).floor.toNat)) 1000000

/-- Nominal frequency, Hz: commissioned, else by part number (07 R161). -/
def nominalHz (s : State) : Nat :=
  match s.cfg.comm.filter fun c => c.nominal != 0 with
  | some c => c.nominal
  | none => match s.sys.variant with
    | .e30 => 50
    | .a30 => 60

/-- The supply is NO_ZC: none of its three channels is LOCKED (07 R160). -/
def noZc (s : State) (sup : Nat) : Bool :=
  !(List.range 3).any fun k => decide ((s.met.zcs.getD (3 * sup + k) Zc.reset).state = .locked)

/-- FREQ of a supply, mHz (07 R160). -/
def freqOf (s : State) (sup : Nat) : Nat := (s.met.trackers.getD sup Tracker.reset).freq

/-- The frequency the fundamental tracker uses, mHz: nominal while NO_ZC (07 R160). -/
def trackedMhz (s : State) (sup : Nat) : Nat := if noZc s sup then 1000 * nominalHz s else max 1 (freqOf s sup)

/-- The supply whose voltages and DSP a channel belongs to (07 Table 7.1, R153, 15 R394). -/
def supplyOf (ch : Nat) : Nat :=
  if ch < 3 then 0 else if ch < 6 then 1 else if ch < 22 then 0 else if ch < 38 then 1 else if ch = 38 then 0 else 1

/-- A V channel. -/
def isV (ch : Nat) : Bool := decide (ch < 6)

/-- Channel of the current of a feeder's conductor (07 Table 7.1). -/
def iChan (f k : Nat) : Nat := 6 + 4 * f + k

/-- Channel of the voltage of a feeder's phase (07 R153). -/
def vChan (f k : Nat) : Nat := 3 * (f / 4) + k

/-- A channel at work. -/
def mchan (s : State) (ch : Nat) : MeterChan := s.met.chans.getD ch MeterChan.reset

/-- The commissioned correction of a channel. -/
def corrOf (s : State) (ch : Nat) : ChanCorr := s.cfg.corr.getD ch ChanCorr.reset

/-- Point `k` of a correction. -/
def ptAt (c : ChanCorr) (k : Nat) : CorrPoint := c.points.getD k CorrPoint.reset

/-- |GAIN_0| of a channel, primary units at full scale. -/
def gain0 (s : State) (ch : Nat) : Nat := (ptAt (corrOf s ch) 0).gain.natAbs

/-- The metering DSPs by seat M0, M1, M2: a lost one keeps its seat until its spare comes in (15 R394, R401). -/
def meterSeats (s : State) : List Nat :=
  (List.range 4).filter fun i => !(s.rcd.kitty.getD 1 Kind.reset).retired.contains i || s.met.mdStops.any fun x => x.1 == i

/-- The metering DSP of a supply has been lost and its spare is not yet in (15 R394, R401). -/
def dspLost (s : State) (sup : Nat) : Bool :=
  s.met.mdStops.any fun x => (meterSeats s).getD sup 9 == x.1

/-! Correction (07 R156, R157) -/

/-- Interpolates GAIN and PHASE at an RMS in mA between the points that bracket it; point 7 above BREAK_7 (07 R157). -/
def interpolate (c : ChanCorr) (ma : Rat) : Rat × Rat :=
  let brk (k : Nat) : Nat := if k = 0 then 0 else (ptAt c k).brk
  match (List.range 7).find? (fun k => decide (ma ≤ brk (k + 1)) && decide (brk k < brk (k + 1))) with
  | none => ((ptAt c 7).gain, (ptAt c 7).phase)
  | some k =>
    let t : Rat := (ma - brk k) / (brk (k + 1) - brk k : Nat)
    ((ptAt c k).gain + t * ((ptAt c (k + 1)).gain - (ptAt c k).gain), (ptAt c k).phase + t * ((ptAt c (k + 1)).phase - (ptAt c k).phase))

/-- GAIN and PHASE that apply to a channel at an RMS, a fraction of full scale (07 R156, R157). -/
def corrAt (c : ChanCorr) (ch : Nat) (rms : Rat) : Rat × Rat :=
  if isV ch then ((ptAt c 0).gain, (ptAt c 0).phase)
  else interpolate c (rms * (ptAt c 0).gain.natAbs / 100)

/-- Forms GAIN and PHASE of every channel from its points with the RMS of the last complete window (07 R157). -/
def refreshCorr (s : State) : State :=
  let one (ch : Nat) (c : MeterChan) : MeterChan :=
    let g := corrAt (corrOf s ch) ch c.rms
    { c with gain := g.1, phase := g.2 }
  s.mapMet fun m => { m with chans := m.chans.mapIdx one }

/-- pi as the rational that the constant k of 07 R484 is evaluated with (log 16). -/
def piRat : Rat := mkRat 314159265358979323846264338328 100000000000000000000000000000

/-- k of the Rogowski integrator (07 R484). -/
def integK (s : State) : Rat := 2 * piRat * nominalHz s / 32000

/-! Samples (07 R154, R155) -/

/-- A sample code is clipped (07 R154). -/
def clipped (code : Int) : Bool := code == 0x7FFFFF || code == -0x800000

/-- Sample instants whose samples stay in a channel's history: one cycle at 40 Hz. -/
def histLen : Nat := 800

/-- One channel's sample through calibration terms, integrator, points and delay (07 R154, R157, R484). -/
def takeSample (s : State) (ch : Nat) (code : Int) (w : Nat) (c : MeterChan) : MeterChan :=
  let cal := s.met.calLast.getD c.conv (0, 1)
  let x : Rat := (mkRat (code - cal.1) (2 ^ 23)) / cal.2
  let on := (corrOf s ch).integ && !isV ch
  let y : Rat := if on then mkRat 16383 16384 * c.integY + integK s * x else 0
  let f : Rat := if on then y else x
  let raw := ((f * c.gain) :: c.raw).take histLen
  let d : Rat := c.phase * 32 / (360 * trackedMhz s (supplyOf ch))
  let v : Rat := if c.phase = 0 then f * c.gain else Config.fracDelay d raw
  { c with
    integY := y, raw := raw, last := v, hist := (v :: c.hist).take histLen,
    win := v :: c.win, sumSq := c.sumSq + v * v * w,
    winRaw := f :: c.winRaw, sqCode := c.sqCode + f * f * w,
    clip := c.clip || clipped code }

/-- A value as a signed 64-bit word holds it (07 R168). -/
def wrap64 (v : Int) : Int := (BitVec.ofInt 64 v).toInt

/-- Adds an increment to a register (07 R168, R169). -/
def Reg.add (r : Reg) (abs : Bool) (inc : Rat) : Reg :=
  let t := r.rem + (if abs && decide (inc < 0) then -inc else inc)
  { acc := wrap64 (r.acc + t.floor), rem := t - t.floor }

/-- Adds a quantity's increments, by phase 0 to 3, to an energy set (07 R167, R169). -/
def addSet (modes : List Bool) (q : Nat) (inc : List Rat) (set : List Reg) : List Reg :=
  set.mapIdx fun i r => if i / 4 + 1 = q then r.add (modes.getD i false) (inc.getD (i % 4) 0) else r

/-- The phase-0 increment and those of L1 to L3. -/
def withSum (l : List Rat) : List Rat := l.sum :: l

/-- Adds feeders' phase increments of a quantity to their sets and the sums to their supplies' sets (07 R167); `which`
says which supplies take part. -/
def addEnergy (which : Nat → Bool) (modes : List Bool) (q : Nat) (inc : Nat → List Rat) (sets : List (List Reg)) : List (List Reg) :=
  sets.mapIdx fun i set =>
    if i < 8 then (if which (i / 4) then addSet modes q (withSum (inc i)) set else set)
    else if which (i - 8) then
      let f := 4 * (i - 8)
      addSet modes q (withSum ((List.range 3).map fun k => ((List.range 4).map fun j => (inc (f + j)).getD k 0).sum)) set
    else set

/-- Energy in 10^-4 of the unit of a power in units of 10^-8 W over a weight in TCLK (07 R155). -/
def energyOf (p : Rat) (tclk : Nat) : Rat := p * tclk / 7200000000000000

/-! Zero crossings (07 R159) -/

/-- A recorded crossing reaches its detector (07 R159, Table 7.5). -/
def crossing (z : Zc) (t : Rat) : Zc :=
  let seen := t.floor.toNat
  match z.state with
  | .search | .noZc => { z with state := .acquire, ref := some t, lastSeen := seen, runLen := 0 }
  | _ =>
    match z.ref with
    | none => { z with ref := some t, lastSeen := seen, runLen := 0 }
    | some r =>
      let d := t - r
      if d < 2800000 then z
      else if d ≤ 5000000 then
        let n := z.runLen + 1
        let st := if z.state = .acquire ∧ 3 ≤ n then .locked else z.state
        { z with ref := some t, lastSeen := seen, runLen := n, perSum := z.perSum + d, perN := z.perN + 1, state := st }
      else { z with ref := some t, lastSeen := seen, runLen := 0 }

/-- One filtered sample, a fraction of full scale, at an instant (07 R159). -/
def zcSample (z : Zc) (v : Rat) (t : Nat) : Zc :=
  let inst : Option Rat :=
    if z.prev ≤ 0 ∧ 0 < v then some (z.prevAt + (0 - z.prev) / (v - z.prev) * (t - z.prevAt : Nat)) else z.inst
  let low := z.low || decide (v < mkRat (-1) 200)
  let z := { z with prev := v, prevAt := t, inst := inst, low := low }
  if low && decide (mkRat 1 200 < v) then
    match inst with
    | none => { z with low := false }
    | some c => { crossing z c with low := false, inst := none }
  else z

/-! Power quality by half cycle (07 R165, Table 7.7) -/

/-- Declared voltage of a supply, V; 0 until computed (07 R165). -/
def uDin (s : State) (sup : Nat) : Nat :=
  match s.cfg.comm with
  | none => 0
  | some c => if sup = 0 then c.uDinA else c.uDinB

/-- A dip, swell or interruption falls in the aggregates under way (07 Table 7.7, Flagging). -/
def PqChan.mark (q : PqChan) : PqChan := { q with cur3s := true, cur10m := true, cur2h := true }

/-- DATA of PQ_EVENT: PHASE 1 to 3, 0 for all three (15 Table 15.13, log 27). -/
def pqEvent (s : State) (sup phase kind start extreme : Nat) : State :=
  s.event 0x0202 (le 1 sup ++ le 1 phase ++ le 1 kind ++ le 1 0 ++ le 8 start ++ le 4 ((s.clk.tick - start) / 8) ++ le 4 extreme)

/-- Dip and swell of one channel at a half-cycle value in mV (07 Table 7.7). -/
def pqStep (s : State) (ch u rms : Nat) : State :=
  let q := s.met.pq.getD ch PqChan.reset
  let set (f : PqChan → PqChan) (s : State) : State := s.mapMet fun m => { m with pq := updAt m.pq ch f }
  let sup := supplyOf ch
  if u = 0 then s
  else if q.kind = 0 then
    if rms < 900 * u then set (fun q => { q.mark with kind := 1, start := s.clk.tick, extreme := rms }) s
    else if 1100 * u < rms then set (fun q => { q.mark with kind := 2, start := s.clk.tick, extreme := rms }) s
    else s
  else if q.kind = 1 then
    if 920 * u ≤ rms then pqEvent (set (fun q => { q with kind := 0 }) s) sup (ch % 3 + 1) 1 q.start q.extreme
    else set (fun q => { q.mark with extreme := min q.extreme rms }) s
  else
    if rms ≤ 1080 * u then pqEvent (set (fun q => { q with kind := 0 }) s) sup (ch % 3 + 1) 2 q.start q.extreme
    else set (fun q => { q.mark with extreme := max q.extreme rms }) s

/-- Interruption of a supply: all three half-cycle values below 5 % of U_din (07 Table 7.7). -/
def interruptStep (s : State) (sup : Nat) : State :=
  let u := uDin s sup
  let vs := (List.range 3).map fun k => (s.met.pq.getD (3 * sup + k) PqChan.reset).halfRms
  let lowest := vs.foldl min (vs.getD 0 0)
  let (on, start, ext) := s.met.interrupts.getD sup (false, 0, 0)
  let set (x : Bool × Nat × Nat) (s : State) : State := s.mapMet fun m => { m with
    interrupts := updAt m.interrupts sup fun _ => x
    pq := if x.1 then m.pq.mapIdx fun ch q => if supplyOf ch = sup then q.mark else q else m.pq }
  if u = 0 then s
  else if on then
    if vs.all (fun v => decide (v < 70 * u)) then set (true, start, min ext lowest) s
    else pqEvent (set (false, 0, 0) s) sup 0 3 start ext
  else if vs.all (fun v => decide (v < 50 * u)) then set (true, s.clk.tick, lowest) s
  else s

/-- Samples of half a tracked cycle, to the nearest sample. -/
def halfLen (s : State) (sup : Nat) : Nat := max 1 ((32000000 + trackedMhz s sup) / (2 * trackedMhz s sup))

/-- One sample of a V channel in its half cycle (07 Table 7.7). -/
def halfSample (s : State) (ch : Nat) : State :=
  let q := s.met.pq.getD ch PqChan.reset
  let v := (mchan s ch).last
  let sum := q.half + v * v
  let n := q.halfN + 1
  if n < halfLen s (supplyOf ch) then
    s.mapMet fun m => { m with pq := updAt m.pq ch fun q => { q with half := sum, halfN := n } }
  else
    let rms := (roundBy s.fresh (rootRat (sum / n))).toNat
    let s := s.bump.mapMet fun m => { m with pq := updAt m.pq ch fun q => { q with half := 0, halfN := 0, halfRms := rms } }
    interruptStep (pqStep s ch (uDin s (supplyOf ch)) rms) (supplyOf ch)

/-! One strobe -/

/-- Products v x i of a feeder's phases at this strobe. -/
def products (s : State) (f : Nat) : List Rat := (List.range 3).map fun k => (mchan s (vChan f k)).last * (mchan s (iChan f k)).last

/-- One AFE sample on the channels of the supplies named: corrected samples, active energy, window sums, detectors
(07 R154, R155, R159, R162, R166). -/
def strobe (s : State) (which : Nat → Bool) (x : SampleRec) : State :=
  let one (ch : Nat) (c : MeterChan) : MeterChan :=
    if which (supplyOf ch) then takeSample s ch (x.codes.getD ch 0) x.weight c else c
  let s := s.mapMet fun m => { m with chans := m.chans.mapIdx one }
  let s' := s.mapMet fun m => { m with
    sets := addEnergy which m.absMode 1 (fun f => (products s f).map fun p => energyOf p x.weight) m.sets
    winP := m.winP.mapIdx fun i v =>
      if i / 3 < 8 && which (i / 12) then v + (products s (i / 3)).getD (i % 3) 0 * x.weight else v
    winRes := m.winRes.mapIdx fun f v =>
      if which (f / 4) then
        let r := ((List.range 4).map fun k => (mchan s (iChan f k)).last).sum
        v + r * r * x.weight
      else v
    winWeight := m.winWeight.mapIdx fun i v => if which i then v + x.weight else v
    times := m.times.mapIdx fun i l => if which i then ((x.at_, x.weight) :: l).take histLen else l
    winTimes := m.winTimes.mapIdx fun i l => if which i then x.at_ :: l else l
    zcs := m.zcs.mapIdx fun ch z =>
      if which (supplyOf ch) && gain0 s ch != 0 then
        zcSample z (Config.lowPass (mchan s ch).hist / (gain0 s ch)) x.at_
      else z
    winTick := x.tick
    winStep := m.winStep || s.clk.stretch }
  (List.range 6).foldl (fun s ch => if which (supplyOf ch) then halfSample s ch else s) s'

/-- Row SAMPLE_INSTANT: the strobe at cycle 0, 6,250, ... of the tick (07 R154, R155), kept in the capture ring (15
R401). Channels of a lost DSP are replayed when its spare comes in. -/
def execSampleInstant (x : Sample) (s : State) : Result :=
  .next (if s.met.running && x.cycle % 6250 == 0 && decide (x.cycle < s.clk.stretchTcl) then
      let w := min (x.cycle + 6250) s.clk.stretchTcl - x.cycle
      let codes := s.met.chans.map fun c => x.codes.getD c.conv 0
      let rcd : SampleRec := { tick := s.clk.tick, at_ := s.clk.tclk + x.cycle, weight := w, codes := codes }
      let s := s.mapMet fun m => { m with capture := (rcd :: m.capture).take 96024 }
      strobe s (fun sup => !dspLost s sup) rcd
    else s)

/-- Timeout of a V channel's detector, ms (07 R156). -/
def zcTimeoutMs (s : State) (ch : Nat) : Nat :=
  let v := (ptAt (corrOf s ch) 1).brk
  if v = 0 then 100 else v

/-- Row ZC_TIMEOUT: the timeout since the last accepted crossing, or the AFE start, falls in this tick (07 Table 7.5). -/
def execZcTimeout (ch : Nat) (s : State) : Result :=
  .next (if s.met.running && decide (ch < 6) &&
      decide ((s.met.zcs.getD ch Zc.reset).lastSeen + 200000 * zcTimeoutMs s ch ≤ s.clk.tclk + s.clk.stretchTcl) then
      s.mapMet fun m => { m with zcs := updAt m.zcs ch fun z => { z with state := .noZc, runLen := 0 } }
    else s)

/-! The 200 ms window (07 R162) -/

/-- Cycles in a window (07 R162). -/
def winCycles (s : State) : Nat := if nominalHz s = 60 then 12 else 10

/-- The supply whose tracker times the window: A, or B while A is NO_ZC (log 25). -/
def windowSupply (s : State) : Nat := if noZc s 0 && !noZc s 1 then 1 else 0

/-- The present window has its cycles, to the nearest sample. -/
def windowFull (s : State) : Bool :=
  let sup := windowSupply s
  let w := max (s.met.winWeight.getD 0 0) (s.met.winWeight.getD 1 0)
  decide (winCycles s * 200000000000 ≤ (w + 3125) * trackedMhz s sup)

/-- Instants of the present window's samples of a channel, newest first (07 R155). -/
def winInstants (s : State) (ch : Nat) : List Nat := s.met.winTimes.getD (supplyOf ch) []

/-- RMS phasor of order `h` of samples of a channel over the window, its angle at the last of them. -/
def windowPhasor (s : State) (ch h : Nat) (l : List Rat) : Rat × Rat :=
  Config.phasor (winCycles s) h l (winInstants s ch) ((winInstants s ch).headD 0)

/-- RMS phasor of order `h` of a channel over the window. -/
def phasorOf (s : State) (ch h : Nat) : Rat × Rat := windowPhasor s ch h (mchan s ch).win

/-- |z|^2. -/
def norm2 (z : Rat × Rat) : Rat := z.1 * z.1 + z.2 * z.2

/-- Mean square of a channel over the window, primary units. -/
def meanSq (s : State) (ch : Nat) : Rat := (mchan s ch).sumSq / (s.met.winWeight.getD (supplyOf ch) 0)

/-- THD over orders 2 to 40 in 0.01 %; free where there is no fundamental (log 30). -/
def thdOf (s : State) (ch f : Nat) : Nat :=
  let n1 := norm2 (phasorOf s ch 1)
  let d := ((List.range 39).map fun k => norm2 (phasorOf s ch (k + 2))).sum
  if n1 = 0 then Config.freeNat f % 65536 else (roundBy f (rootRat (d / n1 * 100000000))).toNat

/-- Exact powers of a phase over the window in 10^-8 W: P_TOT, P_FUND, Q_FUND, S_TOT, S_FUND (07 R162). -/
def powersOf (s : State) (f k : Nat) : List Rat :=
  let v1 := phasorOf s (vChan f k) 1
  let i1 := phasorOf s (iChan f k) 1
  [s.met.winP.getD (3 * f + k) 0 / (s.met.winWeight.getD (f / 4) 0), v1.1 * i1.1 + v1.2 * i1.2, v1.2 * i1.1 - v1.1 * i1.2,
   rootRat (meanSq s (vChan f k) * meanSq s (iChan f k)), rootRat (norm2 v1 * norm2 i1)]

/-- What 0x0201 reports of a conductor (07 R164, Table 7.6); `k` = 3 is N. -/
def phaseRes (s : State) (f k : Nat) : PhaseRes :=
  let n := s.fresh + 64 * f + 16 * k
  let i := iChan f k
  let irms := (roundBy (n + 1) (rootRat (meanSq s i) / 100)).toNat
  let thd := thdOf s i (n + 2)
  if k = 3 then { PhaseRes.reset with irms := irms, thdI := thd, clipI := (mchan s i).clip }
  else
    let p := powersOf s f k
    let w (j : Nat) : Int := roundBy (n + 3 + j) (p.getD j 0 / 10000000)
    { vrms := (roundBy n (rootRat (meanSq s (vChan f k)))).toNat, irms := irms, pTot := w 0, pFund := w 1, qFund := w 2,
      sTot := (w 3).toNat, sFund := (w 4).toNat, thdI := thd, clipV := (mchan s (vChan f k)).clip, clipI := (mchan s i).clip }

/-- A feeder in the window that ends (07 R164, Table 7.6). -/
def feederWin (s : State) (f : Nat) : FeederWin where
  phases := (List.range 4).map (phaseRes s f)
  clip := (List.range 4).any (fun k => (mchan s (iChan f k)).clip) || (List.range 3).any fun k => (mchan s (vChan f k)).clip
  subst := (List.range 4).any fun k => s.met.winSubst.contains (iChan f k)

/-- Frequency in mHz of a sum of `n` periods in TCLK. -/
def freqFrom (f : Nat) (sum : Rat) (n : Nat) : Nat := (roundBy f (200000000000 * n / sum)).toNat

/-- The tracker of a supply at a window boundary (07 R160): the first LOCKED phase, its mean accepted period. -/
def trackStep (s : State) (sup : Nat) : State :=
  let z (k : Nat) : Zc := s.met.zcs.getD (3 * sup + k) Zc.reset
  let old := (s.met.trackers.getD sup Tracker.reset)
  let src := (List.range 3).find? fun k => decide ((z k).state = .locked)
  let per (k : Nat) : Option (Rat × Nat) := if 0 < (z k).perN ∧ 0 < (z k).perSum then some ((z k).perSum, (z k).perN) else none
  let freq := match (src.bind per) with
    | some (a, n) => freqFrom (s.fresh + 1000 + sup) a n
    | none => old.freq
  s.mapMet fun m => { m with
    trackers := updAt m.trackers sup fun _ => { src := src, freq := freq }
    freqAcc := updAt m.freqAcc sup fun x => match src.bind per with
      | some (a, n) => (x.1 + a, x.2 + n)
      | none => x }

/-- Thresholds of a residual source in units of 10 uA: warning, alarm; a feeder's are at least 1 % of the full scale of its
L1 channel (07 R166). Sources 0 to 7 are feeders, 8 and 9 are E0, E1. -/
def resLimits (s : State) (i : Nat) : Rat × Rat :=
  if i < 8 then
    let fs : Rat := mkRat (gain0 s (iChan i 0)) 100
    (max 10000 fs, max 30000 fs)
  else (10000, 30000)

/-- Mean square of a residual over the window, (10 uA)^2. -/
def resSq (s : State) (i : Nat) : Rat :=
  if i < 8 then s.met.winRes.getD i 0 / (s.met.winWeight.getD (i / 4) 0) else meanSq s (30 + i)

/-- One flag of a residual over a window: three in a row above its threshold set it, three below 80 % clear it. -/
def resFlag (on : Bool) (run : Nat) (sq limit : Rat) : Bool × Nat :=
  let hit := if on then decide (sq < limit * limit * mkRat 64 100) else decide (limit * limit < sq)
  if hit then (if run + 1 ≥ 3 then (!on, 0) else (on, run + 1)) else (on, 0)

/-- The residual of one source over the window that ends, with its alarms (07 R166, 15 Table 15.13). -/
def residualStep (s : State) (i : Nat) : State :=
  let old := s.met.residuals.getD i Residual.reset
  let (lw, la) := resLimits s i
  let sq := resSq s i
  let (w, wr) := resFlag old.warn old.warnRun sq lw
  let (a, ar) := resFlag old.alarm old.alarmRun sq la
  let rms := (roundBy (s.fresh + 1100 + i) (rootRat sq / 100)).toNat
  let src := if i < 8 then i else 8 + i
  let s := s.mapMet fun m => { m with residuals := updAt m.residuals i fun _ => { rms := rms, warn := w, alarm := a, warnRun := wr, alarmRun := ar } }
  let data (l : Nat) : List Byte := le 1 src ++ le 1 l ++ le 2 0 ++ le 4 rms
  let s := if w then s.raise 0x0203 (data 1) (4 * src + 1) else s.clearAlarm 0x0203 (data 1) (4 * src + 1)
  if a then s.raise 0x0203 (data 2) (4 * src + 2) else s.clearAlarm 0x0203 (data 2) (4 * src + 2)

/-- Window-accumulated registers: fundamental active and reactive, total and fundamental apparent (07 Table 7.8). -/
def windowEnergy (s : State) (which : Nat → Bool) : State :=
  let inc (j : Nat) (f : Nat) : List Rat := (List.range 3).map fun k => energyOf ((powersOf s f k).getD j 0) (s.met.winWeight.getD (f / 4) 0)
  let all (modes : List Bool) (sets : List (List Reg)) : List (List Reg) :=
    [1, 2, 3, 4].foldl (fun sets j => addEnergy which modes (j + 1) (inc j) sets) sets
  s.mapMet fun m => { m with sets := all m.absMode m.sets }

/-- Harmonic magnitudes and phases of a channel, orders 1 to 63: 10^-7 of full scale, 0.01 degree (06 Table 6.8). -/
def harmonicsOf (s : State) (ch : Nat) : List (Nat × Int) :=
  (List.range 63).map fun k =>
    let z := windowPhasor s ch (k + 1) (mchan s ch).winRaw
    let n := s.fresh + 2000 + 128 * ch + 2 * k
    ((roundBy n (rootRat (norm2 z) * 10000000)).toNat, roundBy (n + 1) (Config.turns z.1 z.2 * 36000))

/-- Channels begin the next window with their RMS of this one (07 R157). -/
def closeChan (s : State) (which : Nat → Bool) (ch : Nat) (c : MeterChan) : MeterChan :=
  if which (supplyOf ch) then
    let h := harmonicsOf s ch
    { c with
      rms := rootRat (c.sqCode / (s.met.winWeight.getD (supplyOf ch) 0)), lastClip := c.clip, clip := false,
      win := [], winRaw := [], sumSq := 0, sqCode := 0, harm := h,
      harmSum := c.harmSum.mapIdx fun k v => v + (h.getD k (0, 0)).1 * (h.getD k (0, 0)).1 }
  else c

/-- Voltage and THD aggregates of a channel, with their flags: 15 windows to 3 s, 3,000 to 10 min, 12 of those to 2 h
(07 Table 7.7, log 27). `on`: a dip, swell or interruption goes on into the next value. -/
def aggregate (f : Nat) (v thd : Nat) (gap on : Bool) (q : PqChan) : PqChan :=
  let root (k : Nat) (a n : Nat) : Nat := (roundBy (f + k) (rootRat (mkRat a n))).toNat
  let q := { q with v200 := v, thd200 := thd }
  let q := if q.n3s + 1 < 15 then { q with n3s := q.n3s + 1, sq3s := q.sq3s + v * v }
    else { q with n3s := 0, sq3s := 0, v3s := root 0 (q.sq3s + v * v) 15, flag3s := q.cur3s, cur3s := on }
  if gap then q
  else if q.n10m + 1 < 3000 then { q with n10m := q.n10m + 1, sq10m := q.sq10m + v * v, thdSum := q.thdSum + thd * thd }
  else
    let t := root 1 (q.sq10m + v * v) 3000
    let q := { q with
      n10m := 0, sq10m := 0, v10m := t, thdSum := 0, thd10m := root 3 (q.thdSum + thd * thd) 3000, flag10m := q.cur10m, cur10m := on }
    if q.n2h + 1 < 12 then { q with n2h := q.n2h + 1, sq2h := q.sq2h + t * t }
    else { q with n2h := 0, sq2h := 0, v2h := root 2 (q.sq2h + t * t) 12, flag2h := q.cur2h, cur2h := on }

/-- Power-quality values of the window that ends (07 R165, Table 7.7). -/
def pqWindow (s : State) (which : Nat → Bool) : State :=
  let ub (sup : Nat) : Rat := Config.unbalance ((List.range 3).map fun k => phasorOf s (3 * sup + k) 1)
  let gap := s.met.aggGap
  let n := s.met.agg10 + 1
  let full := decide (3000 ≤ n)
  let s := s.mapMet fun m => { m with
    pq := m.pq.mapIdx fun ch q =>
      if which (supplyOf ch) then
        aggregate (s.fresh + 1200 + 4 * ch) (((m.feeders.getD (4 * (ch / 3)) FeederWin.reset).phases.getD (ch % 3) PhaseRes.reset).vrms)
          (thdOf s ch (s.fresh + 1240 + ch)) gap (q.kind != 0 || (m.interrupts.getD (supplyOf ch) (false, 0, 0)).1) q
      else q
    unbalance := m.unbalance.mapIdx fun i v => if which i then ub i else v
    unbSum := m.unbSum.mapIdx fun i x => if which i && !gap then (x.1 + ub i * ub i, x.2 + 1) else x
    agg10 := if full then 0 else n }
  if full then
    s.mapMet fun m => { m with
      unb10 := m.unbSum.map fun x => rootRat (x.1 / x.2)
      unbSum := [(0, 0), (0, 0)]
      chans := m.chans.mapIdx fun ch c => { c with
        harm10 := c.harmSum.mapIdx fun k (v : Nat) => (roundBy (s.fresh + 1300 + 64 * ch + k) (rootRat (mkRat v n))).toNat
        harmSum := List.replicate 63 0 } }
  else s

/-- 10 s frequency from accepted periods (07 Table 7.7): at least 10 s of them. -/
def freqTen (s : State) : State :=
  s.mapMet fun m => { m with
    freq10 := m.freq10.mapIdx fun i v =>
      let x := m.freqAcc.getD i (0, 0)
      if 2000000000 ≤ x.1 then freqFrom (s.fresh + 1190 + i) x.1 x.2 else v
    freqAcc := m.freqAcc.map fun x => if 2000000000 ≤ x.1 then (0, 0) else x }

/-- The mean phase-to-neutral RMS of a supply gathers over the first 600 s in DECLARER, each window with its length
(07 R165). -/
def declaredSum (s : State) (which : Nat → Bool) : State :=
  let mean (sup : Nat) : Rat := mkRat ((((s.met.feeders.getD (4 * sup) FeederWin.reset).phases.take 3).map (·.vrms)).sum) 3
  if s.sys.mode ≠ .declarer ∨ !commissioned s.cfg ∨ 600 ≤ s.met.uDinRounds then s
  else s.mapMet fun m => { m with
    uDinSum := m.uDinSum.mapIdx fun i x =>
      let w : Rat := m.winWeight.getD i 0
      if which i then (x.1 + mean i * w, x.2 + w) else x }

/-- A 200 ms window ends on the supplies named (07 R162). -/
def closeWindow (s : State) (which : Nat → Bool) : State :=
  let s := s.mapMet fun m => { m with
    feeders := m.feeders.mapIdx fun f w => if which (f / 4) then feederWin s f else w
    resTick := m.winTick, resStep := m.winStep }
  let s := windowEnergy (declaredSum s which) which
  let s := (List.range 10).foldl (fun s i => if which (if i < 8 then i / 4 else i - 8) then residualStep s i else s) s
  let s := pqWindow s which
  let s := [0, 1].foldl (fun s sup => if which sup then trackStep s sup else s) s
  let s := freqTen s
  let s := s.mapMet fun m => { m with
    chans := m.chans.mapIdx fun ch c => closeChan s which ch c
    winP := m.winP.mapIdx fun i v => if which (i / 12) then 0 else v
    winRes := m.winRes.mapIdx fun f v => if which (f / 4) then 0 else v
    winWeight := m.winWeight.mapIdx fun i v => if which i then 0 else v
    winTimes := m.winTimes.mapIdx fun i l => if which i then [] else l
    zcs := m.zcs.mapIdx fun ch z => if which (supplyOf ch) then { z with perSum := 0, perN := 0 } else z
    suitFeeders := m.suitFeeders.mapIdx fun f x =>
      if which (f / 4) then { x with bad := x.bad || (m.feeders.getD f FeederWin.reset).clip } else x
    winSubst := [], winStep := false, aggGap := false }
  { refreshCorr s with fresh := s.fresh + 16384 }

/-- Row AGGREGATION_WINDOW (07 R162, R160, R165, R166). Windows of a lost DSP's channels stay open until its replay. -/
def execAggregationWindow (s : State) : Result :=
  .next (if s.met.running && windowFull s then
      closeWindow s fun sup => !dspLost s sup && decide (0 < s.met.winWeight.getD sup 0)
    else s)

/-! Replay (15 R401) -/

/-- The supplies that a DSP meters by its seat; M2 meters none (15 R394). -/
def suppliesOf (s : State) (dsp : Nat) : List Nat := [0, 1].filter fun k => (meterSeats s).getD k 9 == dsp

/-- The samples taken after TCLK `t` that a filter keeps are processed for the supplies named (15 R401). -/
def catchUp (s : State) (t : Nat) (sups : List Nat) (keep : SampleRec → Bool) : State :=
  if sups.isEmpty then s
  else ((s.met.capture.filter fun x => decide (t < x.at_) && keep x).reverse).foldl (fun s x => strobe s (fun k => sups.contains k) x) s

/-- The spare of a lost DSP replays its supply's samples from the first tick whose item was stopped; the windows of the
gap are left out of the aggregates, and an event names the gap (15 R401). -/
def replayDsp (s : State) (x : Nat × Nat × Nat) : State :=
  let sups := suppliesOf s x.1
  let s := s.mapMet fun m => { m with mdStops := m.mdStops.filter fun y => y.1 != x.1, aggGap := true }
  let s := catchUp s x.2.2 sups fun _ => true
  let s := s.mapRcd fun y => { y with flags15 := y.flags15 ||| 64 }
  s.event 0x0208 (le 1 x.1 ++ le 7 0 ++ le 8 x.2.1 ++ le 8 (s.clk.tick - 1))

/-! Hot calibration (07 R158) -/

/-- Spare converters: not retired and serving no channel (01 R17, R18). -/
def spareConvs (s : State) : List Nat :=
  (List.range 42).filter fun i => !(kindOf s 2).retired.contains i && !s.met.chans.any fun c => c.conv == i

/-- The spare that the next slot takes: they alternate while both are spare (07 after Table 7.3). -/
def nextSpare (s : State) : Option Nat :=
  match spareConvs s with
  | [] => none
  | a :: r => match r with
    | [] => some a
    | b :: _ => some (if s.met.calSpare = a then b else a)

/-- Moves the rotation to its next channel: after channel 39 those to be calibrated again (07 R158). -/
def nextChannel (m : Meter) (again : Bool) (ch : Nat) : Meter :=
  let redo := if again then m.calRedo ++ [ch] else m.calRedo
  if 39 ≤ m.calNext then
    match m.calRedo with
    | [] => { m with calNext := if again then 40 else 0, calRedo := redo }
    | _ :: r =>
      if m.calNext = 39 then { m with calNext := 40, calRedo := redo }
      else
        let l := r ++ (if again then [ch] else [])
        { m with calRedo := l, calNext := if l.isEmpty then 0 else 40 }
  else { m with calNext := m.calNext + 1, calRedo := redo }

/-- A converter passes: offset within 0.05 % of full scale, gain within 0.2 % of its factory value (07 R158). -/
def calGood (offset : Int) (gain : Rat) : Bool :=
  decide (offset.natAbs * 10000 ≤ 5 * 2 ^ 23) && decide (mkRat 998 1000 ≤ gain) && decide (gain ≤ mkRat 1002 1000)

/-- The converter that serves a channel changes, from the next sample instant (07 Table 7.4, Table 7.6 SUBST). -/
def serveBy (s : State) (ch conv : Nat) : State :=
  s.mapMet fun m => { m with
    chans := updAt m.chans ch fun c => { c with conv := conv }
    winSubst := ch :: m.winSubst }

/-- A slot ends; `again` when its channel is to be calibrated again after channel 39 (07 R158). -/
def slotEnds (s : State) (c : CalSlot) (again : Bool) : State :=
  s.mapMet fun m => { nextChannel m again c.ch with calSlot := none }

/-- A slot goes on to its next step. -/
def slotStep (s : State) (c : CalSlot) (k : Nat) : State := s.mapMet fun m => { m with calSlot := some { c with step := k } }

/-- Offset and gain measured on a converter, which its samples are corrected with (07 R157). -/
def calibrated (s : State) (conv : Nat) (offset : Int) (gain : Rat) : State :=
  s.mapMet fun m => { m with calLast := updAt m.calLast conv fun _ => (offset, gain) }

/-- A converter is retired for good; when no spare is left the rotation is held (01 R18). -/
def retireConv (s : State) (conv : Nat) : State :=
  let s := retire s 2 conv
  if (spareConvs s).isEmpty then (s.mapMet fun m => { m with calHeld := true }).raise 0x0201 (le 1 0 ++ le 3 0) else s

/-- The slot under way at a tick boundary, by the times of 07 Table 7.4: the spare is judged at 4 s, takes the channel at
6 s, the own converter is judged at 14 s and takes the channel back at 16 s. A converter out of its limits is retired
(07 R158); a comparison that differs retires the own converter (log 191). -/
def calibrate (s : State) : State :=
  match s.met.calSlot with
  | none => s
  | some c =>
    let m := c.meas
    let due (k : Nat) : Bool := decide (c.at_ + secs k ≤ s.now)
    match c.step with
    | 0 =>
      if !due 4 then s
      else if calGood m.spOffset m.spGain then slotStep (calibrated s c.spare m.spOffset m.spGain) c 1
      else retireConv (slotEnds s c true) c.spare
    | 1 =>
      if !due 6 then s
      else if !m.usable1 then slotEnds s c true
      else if m.match1 then slotStep (serveBy s c.ch c.spare) c 2
      else retireConv (slotEnds (serveBy s c.ch c.spare) c false) c.own
    | 2 =>
      if !due 14 then s
      else if calGood m.offset m.gain then slotStep (calibrated s c.own m.offset m.gain) c 3
      else retireConv (slotEnds s c false) c.own
    | _ =>
      if !due 16 then s
      else if m.usable2 && !m.match2 then retireConv (slotEnds s c false) c.own
      else slotEnds (serveBy s c.ch c.own) c (!m.usable2)

/-- Row CALIBRATION_SLOT: a slot of the rotation starts, 22.5 s after the last one, with what it is going to read
(07 R158, 01 R18). -/
def execCalibrationSlot (m : CalMeas) (s : State) : Result :=
  .next (match nextSpare s with
    | none => s
    | some sp =>
      if !s.met.running || s.met.calSlot.isSome || decide (s.now < s.met.calSince + 180000) then s
      else
        let ch := if s.met.calNext < 40 then s.met.calNext else s.met.calRedo.headD 0
        s.mapMet fun x => { x with
          calSpare := sp
          calSince := s.now
          calSlot := some { ch := ch, spare := sp, own := (mchan s ch).conv, at_ := s.now, step := 0, meas := m } })

/-! Phasor reports (07 R173, R174) -/

/-- m of a reference instant that falls in the present tick (07 R173). -/
def phasorM (s : State) : Option Nat :=
  (List.range (nominalHz s)).find? fun m => 8000 * m / nominalHz s == tickInRound s

/-- Instants and weights of a channel's latest samples, newest first (07 R155). -/
def chanTimes (s : State) (ch : Nat) : List (Nat × Nat) := s.met.times.getD (supplyOf ch) []

/-- The fundamental of a channel over the tracked cycle that ends at an instant, its angle taken there (07 R163, R173). -/
def phasorAt (s : State) (ch : Nat) (ref : Rat) : Rat × Rat :=
  let later := ((chanTimes s ch).filter fun x => decide (ref < x.1)).length
  let n := (32000000 + trackedMhz s (supplyOf ch) / 2) / trackedMhz s (supplyOf ch)
  Config.phasor 1 1 (((mchan s ch).hist.drop later).take n) ((((chanTimes s ch).drop later).take n).map (·.1)) ref

/-- The fundamental of a channel over the tracked cycle that ends with its last sample. -/
def cyclePhasor (s : State) (ch : Nat) : Rat × Rat := phasorAt s ch (((chanTimes s ch).headD (0, 0)).1)

/-- The reference instant m of the present second, TCLK: it may lie between two samples (07 R173). -/
def phasorInstant (s : State) (m : Nat) : Rat :=
  s.clk.tclk + 25000 * (mkRat (8000 * m) (nominalHz s) - tickInRound s)

/-- A magnitude and angle of a phasor datagram, at its reference instant. -/
def phasorWords (s : State) (ref : Rat) (ch : Nat) : List Byte :=
  let z := phasorAt s ch ref
  let n := s.fresh + 2 * ch
  let mag := rootRat (norm2 z)
  le 4 (roundBy n (if isV ch then mag else mag / 100)).toNat ++ leInt 4 (roundBy (n + 1) (Config.turns z.1 z.2 * 4294967296))

/-- The phasor datagram (07 Table 7.10). -/
def phasorDatagram (s : State) (m : Nat) : List Byte :=
  let flags := bit (noZc s 0) + 2 * bit (noZc s 1) + 4 * bit (s.eth.servo.lock == 1) + 8 * bit (s.eth.servo.lock == 0) +
    16 * bit ((List.range 38).any fun c => (mchan s c).clip) + 32 * bit (s.met.winStep)
  withCrc (le 2 0x0101 ++ le 1 (nominalHz s) ++ le 1 flags ++ le 8 s.sys.serial.toNat ++ le 4 s.met.phSeq.toNat ++
    le 8 (curRound s) ++ le 2 m ++ le 1 s.eth.servo.lock ++ le 1 0 ++ le 4 s.clk.epoch.toNat ++ le 4 (freqOf s 0) ++ le 4 (freqOf s 1) ++
    ((List.range 38).map (phasorWords s (phasorInstant s m))).flatten)

/-- Row PHASOR_REPORT: at a reference instant a declarer with the stream enabled sends from port 47321, in the preemptable
queue of its own frames (07 R173, R174, 11 R299). -/
def execPhasorReport (s : State) : Result :=
  .next (match phasorM s with
    | none => s
    | some m =>
      if s.met.phEnable && s.met.running && s.sys.mode == .declarer then
        let d := phasorDatagram s m
        ({ s with fresh := s.fresh + 128 }.mapMet fun x => { x with phSeq := x.phSeq + 1 }).emit (.phasor 1 47321 s.met.phAddr s.met.phPort d)
      else s)

/-! Alive marks and checkpoints (03 R75, R76) -/

/-- Row ALIVE_MARK: ticks 500 modulo 1,000 (03 R76). -/
def execAliveMark (s : State) : Result :=
  .next (if s.met.running && s.clk.tick % 1000 == 500 && !workLost s 4 then
      s.mapMet fun m => { m with alive := { valid := true, tick := s.clk.tick, powers := s.ctl.cib.feederP, utc := rtcUtc s } }
    else s)

/-- Row CHECKPOINT: the regular checkpoint of tick 7,999 (04 Table 4.5, 01 R15). -/
def execCheckpoint (s : State) : Result :=
  .next (if s.met.running && tickInRound s == 7999 then writeCkpt s (snapshot s false 0) else s)

/-! Commands of group 0x02 -/

/-- FLAGS of 0x0201 (07 Table 7.6). -/
def feederFlags (s : State) (f : Nat) : Nat :=
  let w := s.met.feeders.getD f FeederWin.reset
  let r := s.met.residuals.getD f Residual.reset
  let e := s.met.residuals.getD (8 + f / 4) Residual.reset
  bit (noZc s (f / 4)) + 2 * bit s.met.calHeld + 4 * bit w.clip + 8 * bit s.met.resStep + 16 * bit (s.eth.servo.lock == 1) +
    32 * bit (r.warn || e.warn) + 64 * bit (r.alarm || e.alarm) + 128 * bit w.subst

/-- PFLAGS of a phase entry (07 Table 7.6). -/
def phaseFlags (s : State) (f k : Nat) (p : PhaseRes) : Nat :=
  let q := s.met.pq.getD (vChan f k) PqChan.reset
  bit p.clipV + 2 * bit p.clipI + 4 * bit (decide (p.pTot < 0)) + 8 * bit (q.kind == 1) + 16 * bit (q.kind == 2) +
    32 * bit (s.met.interrupts.getD (f / 4) (false, 0, 0)).1

/-- One entry of 0x0201 (07 R164). -/
def phaseBytes (s : State) (f k : Nat) : List Byte :=
  let p := ((s.met.feeders.getD f FeederWin.reset).phases.getD k PhaseRes.reset)
  le 4 p.vrms ++ le 4 p.irms ++ leInt 4 p.pTot ++ leInt 4 p.pFund ++ leInt 4 p.qFund ++ le 4 p.sTot ++ le 2 p.thdI ++
    le 2 (if k = 3 then 0 else phaseFlags s f k p)

/-- Command 0x0201, feeder quantities (07 R164). -/
def execFeederQuantities (r : Req) (p : FeederQuantitiesP) (s : State) : Result :=
  .next (gmp s r { cmd := 0x0201, len := 4, fields := (0x10, decide (p.feeder.toNat ≤ 7)) :: rsv3 0x11 p.rsv } fun _ s =>
    let f := p.feeder.toNat
    (s, okWith (le 8 s.met.resTick ++ le 4 (freqOf s (f / 4)) ++ le 4 (feederFlags s f) ++ ((List.range 4).map fun k => phaseBytes s f k).flatten)))

/-- Index of an energy set from its code (07 R167). -/
def setIndex (c : Nat) : Option Nat := if c < 8 then some c else if c = 0x10 then some 8 else if c = 0x11 then some 9 else none

/-- DISP and WRAP of an accumulator (07 R170). -/
def displayOf (acc : Int) : Nat × Nat :=
  let w := Int.fdiv acc 10000
  ((w % 4294967296).toNat, (Int.fdiv w 4294967296 % 65536).toNat)

/-- One register of 0x0202. -/
def regBytes (s : State) (set i : Nat) : List Byte :=
  let g := (s.met.sets.getD set []).getD i Reg.reset
  let d := displayOf g.acc
  le 2 (regCode i) ++ le 1 (bit (s.met.absMode.getD i false)) ++ le 1 0 ++ leInt 8 g.acc ++ le 4 d.1 ++ le 2 d.2 ++ le 2 0

/-- Command 0x0202, energy registers (07 R167, R170). -/
def execEnergyRegisters (r : Req) (p : EnergyRegistersP) (s : State) : Result :=
  .next (gmp s r { cmd := 0x0202, len := 4, fields := (0x10, (setIndex p.set.toNat).isSome) :: rsv3 0x11 p.rsv } fun _ s =>
    let i := (setIndex p.set.toNat).getD 0
    (s, okWith (le 2 20 ++ le 2 0 ++ ((List.range 20).map fun k => regBytes s i k).flatten)))

/-- Command 0x0203, harmonics: orders FIRST to FIRST + COUNT - 1, within 1 to 63 (07 R162). -/
def execHarmonics (r : Req) (p : HarmonicsP) (s : State) : Result :=
  .next (gmp s r { cmd := 0x0203, len := 4, fields :=
      [(0x10, decide (p.channel.toNat < 40)), (0x11, decide (1 ≤ p.first.toNat) && decide (p.first.toNat ≤ 63)),
       (0x12, decide (p.first.toNat + p.count.toNat ≤ 64)), (0x13, p.rsv == 0)] } fun _ s =>
    let h := (mchan s p.channel.toNat).harm
    (s, okWith (le 8 s.met.resTick ++ ((List.range p.count.toNat).map fun k =>
      let x := h.getD (p.first.toNat - 1 + k) (0, 0)
      le 4 x.1 ++ leInt 2 x.2 ++ le 2 0).flatten)))

/-- The field checks of 0x0204 (07 Table 7.2): BREAK, GAIN and PHASE of each point. -/
def pointChecks (ch : Nat) (l : List CorrectionSegmentsE) : List (Nat × Bool) :=
  let at_ (k : Nat) : Nat := ((l.getD k { brk := 0, gain := 0, phase := 0 }).brk).toNat
  (l.mapIdx fun k e =>
    let b := e.brk.toNat
    let brkOk :=
      if k = 0 then (if ch < 6 then b == 0 else b == 0 || b == 0x80000000)
      else if ch < 6 then (if k = 1 then b == 0 || (decide (20 ≤ b) && decide (b ≤ 1000)) else b == 0)
      else decide ((if k = 1 then 0 else at_ (k - 1)) < b)
    [(0x14 + 12 * k, brkOk), (0x1C + 12 * k, decide (0 ≤ i32 e.phase) && decide (i32 e.phase ≤ 5000000))]).flatten

/-- Unseals left (16 Table 16.3), those accepted and not yet burned taken off (log 108). -/
def sealLeft (s : State) : Nat :=
  12 - popCount s.sec.fuses.metroSeal - (if lifecycle s = 2 then queuedChanges s fun c => c == .metroUnseal else 0)

/-- What check 9 refuses while the metrology seal is closed (06 R145, 16 R433). -/
def sealClosed (s : State) : Option (Nat × Nat) := if s.met.sealOpen then none else some (1, 1)

/-- A METROLOGY event (15 Table 15.13). -/
def metrologyEvent (s : State) (cmd item mode set : Nat) (acc : Int) : State :=
  s.event 0x0204 (le 2 cmd ++ le 2 item ++ le 1 (sealLeft s) ++ le 1 mode ++ le 1 set ++ le 1 0 ++ leInt 8 acc)

/-- Command 0x0204, correction segments, under the open seal (07 R156, R157, 06 R145). -/
def execCorrectionSegments (r : Req) (p : CorrectionSegmentsP) (s : State) : Result :=
  .next (gmp s r { cmd := 0x0204, len := 100, limit := sealClosed s, fields := (0x10, decide (p.channel.toNat < 40)) :: (rsv3 0x11 p.rsv ++ pointChecks p.channel.toNat p.points) } fun t s =>
    admitChange (metrologyEvent s 0x0204 p.channel.toNat 0 0 0) t (.correctionSegments r p))

/-- Command 0x0205, metrology unseal: open already, it answers OK; else the fuse-counted change opens the seal (06 R145,
16 R434). -/
def execMetrologyUnseal (r : Req) (s : State) : Result :=
  .next (gmp s r { cmd := 0x0205, len := 0, limit := if !s.met.sealOpen && lifecycle s == 2 && sealLeft s == 0 then some (1, 0) else none } fun t s =>
    if s.met.sealOpen then (s, okWith (le 1 (sealLeft s) ++ le 3 0))
    else
      (s.mapSec fun x => { x with fuseQueue := x.fuseQueue ++ [{ tok := some t, change := .metroUnseal, since := s.now }] },
        { status := stAccepted, data := le 1 (if lifecycle s = 2 then sealLeft s - 1 else sealLeft s) ++ le 3 0 }))

/-- Command 0x0206, accumulation mode, under the open seal: in force at the next tick boundary (07 R169, 06 R145). -/
def execAccumulationMode (r : Req) (p : AccumulationModeP) (s : State) : Result :=
  .next (gmp s r { cmd := 0x0206, len := 4, limit := sealClosed s, fields := [(0x10, (regIndex p.reg.toNat).isSome), (0x12, decide (p.mode.toNat ≤ 1)), (0x13, p.rsv == 0)] } fun t s =>
    admitChange s t (.accumulationMode r p))

/-- A changed mode takes force: one METROLOGY event for each energy set (07 R169). -/
def modeForce (s : State) (p : AccumulationModeP) : State :=
  match regIndex p.reg.toNat with
  | none => s
  | some i =>
    let s := s.mapMet fun m => { m with absMode := updAt m.absMode i fun _ => p.mode == 1 }
    (List.range 10).foldl (fun s k =>
      metrologyEvent s 0x0206 p.reg.toNat p.mode.toNat (setCode k) ((s.met.sets.getD k []).getD i Reg.reset).acc) s

/-- Command 0x0207, metrology reseal: the seal closes at once, and that change is recorded (06 R145, log 169). Its NAND
commit starts before the response. -/
def execMetrologyReseal (r : Req) (s : State) : Result :=
  .next (gmp s r { cmd := 0x0207, len := 0 } fun t s =>
    let s := if s.met.sealOpen then metrologyEvent s 0x0207 0 0 0 0 else s
    let s := s.mapMet fun m => { m with sealOpen := false }
    let s := requestStore s .nand (anteMj .nand) .nothing (some t)
    (s, gateReply s 1 (anteMj .nand)))

/-- Row SEAL_TIMEOUT: 3,600 s after it opened the seal closes (06 R145). -/
def execSealTimeout (s : State) : Result :=
  .next (if s.met.sealOpen && decide (s.met.sealAt + secs 3600 ≤ s.now) then s.mapMet fun m => { m with sealOpen := false } else s)

/-- Command 0x0208, phasor stream: SEQ restarts at each enable (07 R173, Table 7.10). -/
def execPhasorStream (r : Req) (p : PhasorStreamP) (s : State) : Result :=
  .next (gmp s r { cmd := 0x0208, len := 20, fields := [(0x10, decide (p.enable.toNat ≤ 1)), (0x11, p.ipv == 4 || p.ipv == 6)] } fun _ s =>
    (s.mapMet fun m => { m with
      phEnable := p.enable == 1, phIpv := p.ipv.toNat, phPort := p.port, phAddr := p.addr,
      phSeq := if p.enable == 1 then 0 else m.phSeq }, {}))

/-- Command 0x020B, gap records (03 R78). -/
def execGapRecords (r : Req) (p : GapRecordsP) (s : State) : Result :=
  .next (gmp s r { cmd := 0x020B, len := 12, fields := [(0x1A, p.prsv == 0)] } fun _ s =>
    (s, okWith (page p.cursor p.max [] ((gapsKept s).map fun g => (g.num, g.bytes)))))

end Sys2Proof.Machine
end

