-- ==== Sys2Proof/Machine/Suit.lean ====
section
/-!
DEFINITION. Suit metering (07 R175 to R182): code assignment, the correlator's rounds, the joint least-squares fit of a
period and its flags, and the reports of 0x020A.
-/

namespace Sys2Proof.Machine

open Sys2Proof

/-! Code assignment (07 R176) -/

/-- Field checks of the items of 0x0209 in order, each against the configuration that the items before it leave. -/
def suitChecks (f : Nat) : Nat → Cfg → List AssignSuitCodesE → List (Nat × Bool)
  | _, _, [] => []
  | k, c, e :: r =>
    let o := 0x14 + 8 * k
    let nodeOk := refClass e.node == 1 && cfgFeeder c e.node == some f
    let codeOk := e.code == 0xFFFF || e.code == 0xFFFE || (balanced e.code.toNat && !codeUsed c f e.code.toNat e.node)
    (o, nodeOk) :: (o + 4, codeOk) :: (o + 6, e.rsv == 0) :: suitChecks f (k + 1) (cfgSuitItem f c e) r

/-- Coded lanterns on a feeder (07 R176). -/
def codedOn (c : Cfg) (f : Nat) : Nat := (c.suit.filter fun x => cfgFeeder c x.1 == some f).length

/-- Command 0x0209, assign suit codes (07 R176). -/
def execAssignSuitCodes (r : Req) (p : AssignSuitCodesP) (s : State) : Result :=
  .next (gmp s r { cmd := 0x0209, len := 4 + 8 * p.n.toNat, fields :=
      (0x10, decide (p.feeder.toNat ≤ 7)) :: (0x11, p.rsv == 0) :: suitChecks p.feeder.toNat 0 (planned s) p.items } fun t s =>
    admitIf s t (.assignSuitCodes r p) fun c => decide (codedOn c p.feeder.toNat ≤ 512))

/-- First code period start at least 60 s after round `r` (07 R176). -/
def codeStart (r : Nat) : Nat := 1023 * ceilDiv (r + 60) 1023

/-- The correlator's entry of a lantern. -/
def suitOf (s : State) (n : U32) : Option SuitNode := s.met.suit.find? fun x => x.node == n

/-- A node's code takes force in the correlator from the next suitable period start (07 R176). One that is removed applies
until that start too, as the lantern drops it (10 R284): its entry waits with code 0xFFFF. -/
def suitForce (s : State) (n : U32) : State :=
  match (s.cfg.suit.find? fun x => x.1 == n).map (·.2) with
  | none =>
    let leave (x : SuitNode) : Option SuitNode :=
      let old := if x.effRound ≤ curRound s then some x.code else x.old
      if x.node != n then some x
      else if old.isNone then none
      else some { x with code := 0xFFFF, effRound := codeStart (curRound s), old := old }
    s.mapMet fun m => { m with suit := m.suit.filterMap leave }
  | some code =>
    match suitOf s n with
    | none =>
      let e : SuitNode := { node := n, code := code, effRound := codeStart (curRound s), old := none, slope := none, sigma := 0, slopes := [], sflags := 0x20, pEst := 0, conf := 0 }
      s.mapMet fun m => { m with suit := putSorted m.suit (fun x => x.node.toNat) e }
    | some e =>
      if e.code = code then s
      else
        let old := if e.effRound ≤ curRound s then some e.code else e.old
        let e := { e with code := code, effRound := codeStart (curRound s), old := old }
        s.mapMet fun m => { m with suit := putSorted m.suit (fun x => x.node.toNat) e }

/-- The code in effect in the period that starts at `start`. -/
def codeIn (e : SuitNode) (start : Nat) : Option Nat :=
  if e.effRound ≤ start then (if e.code = 0xFFFF then none else some e.code) else e.old

/-- The start of the code period that holds a round (07 R177). -/
def periodStart (r : Nat) : Nat := r - r % 1023

/-! The correlator's rounds (07 R179, R180) -/

/-- Commanded level of a lantern, 0.01 % (13 R342). -/
def commandedLevel (s : State) (n : U32) : Nat := ((s.sch.lanterns.find? fun x => x.node == n).map (·.level)).getD 0

/-- Lanterns of the module's own records on a feeder. -/
def feederLanterns (s : State) (f : Nat) : List U32 :=
  (s.cfg.nodes.filter fun n => refClass n.node == 1 && n.feeder == f).map (·.node)

/-- Coded lanterns of a feeder. -/
def codedLanterns (s : State) (f : Nat) : List SuitNode := s.met.suit.filter fun e => cfgFeeder s.cfg e.node == some f

/-- A lantern's fade is in progress in round `r` (13 R344, FADE in 0.1 s). -/
def fading (s : State) (n : U32) (r : Nat) : Bool :=
  match s.sch.lanterns.find? fun x => x.node == n with
  | none => false
  | some x => decide (x.since ≤ r) && decide (10 * r < 10 * x.since + x.fade)

/-- A lantern has acknowledged the level it has in round `r`: its acknowledgement names that level and a round not after
`r`, from which it applies (07 R179, 10 R284, R286). -/
def acknowledged (s : State) (n : U32) (r : Nat) : Bool :=
  match s.sch.lanterns.find? fun x => x.node == n, assocOf s n with
  | some x, some a => decide (x.since ≤ a.ackRound) && decide (a.ackRound ≤ r) && a.level == x.level
  | _, _ => false

/-- Weight of the round that ends after `ticks` ticks, for a feeder (07 R179). A lantern is coded in the round when a code
is in effect. -/
def roundWeight (s : State) (f r ticks : Nat) : Bool :=
  let x := s.met.suitFeeders.getD f SuitFeeder.reset
  !s.clk.roundHeldStep && decide (4 < s.clk.roundsSinceStep) && !x.bad && x.n == 7200 && decide (s.clk.afeStart + ticks ≤ s.now) &&
    ((codedLanterns s f).filter fun e => (codeIn e (periodStart r)).isSome).all fun e => !fading s e.node r && acknowledged s e.node r

/-- The feeder's per-tick power enters the mean of the round's ticks 800 to 7,999 (07 R179). -/
def suitTick (s : State) : State :=
  let inside := decide (800 ≤ tickInRound s)
  s.mapMet fun m => { m with suitFeeders := m.suitFeeders.mapIdx fun f x => { x with
    sumP := if inside then x.sumP + mkRat (s.ctl.cib.feederP.getD f 0) 10 else x.sumP
    n := if inside then x.n + 1 else x.n
    bad := x.bad || noZc s (f / 4) || (List.range 4).any (fun k => (mchan s (iChan f k)).clip) || (List.range 3).any fun k => (mchan s (vChan f k)).clip } }

/-- Levels of a feeder's lanterns in the round that ends. -/
def levelsOn (s : State) (f : Nat) : List (U32 × Nat) := (feederLanterns s f).map fun n => (n, commandedLevel s n)

/-- Closes round `r` of `ticks` ticks in a feeder's correlator (07 R179, R180): a change of level starts a new constant, of
which each period has up to 16 after its first. -/
def suitRoundOf (s : State) (r ticks f : Nat) (x : SuitFeeder) : SuitFeeder :=
  let lv := levelsOn s f
  let first := match x.rounds with | [] => false | e :: _ => periodStart e.round != periodStart r
  let seg := if first then 0 else if x.lastLevels.isEmpty || x.lastLevels == lv then x.seg else x.seg + 1
  let e : SuitRound := { round := r, p := if x.n = 0 then 0 else x.sumP / x.n, weight := roundWeight s f r ticks && decide (seg ≤ 16), seg := seg, levels := lv }
  { x with rounds := (e :: x.rounds).take 2046, seg := seg, lastLevels := lv, sumP := 0, n := 0, bad := false }

/-- Estimated power of a lantern at its present level, W (07 R180): none while it has no slope. -/
def powerEst (s : State) (e : SuitNode) : Option Rat :=
  match e.slope, (s.cfg.nodes.find? fun n => n.node == e.node) with
  | some k, some n => some (mkRat (n.typ.toNat / 1024 % 32) 10 + k * mkRat (commandedLevel s e.node) 100)
  | _, _ => none

/-- Adds a round's estimated energy of a lantern (07 R180): W over `ticks` ticks, in 10^-4 Wh. -/
def addLantern (l : List LanternAcc) (n : U32) (w : Rat) (ticks : Nat) : List LanternAcc :=
  let old := (l.find? fun x => x.node == n).getD { node := n, acc := 0, rem := 0 }
  let t := old.rem + w * ticks * mkRat 10000 28800000
  putSorted l (fun x => x.node.toNat) { old with acc := wrap64 (old.acc + t.floor), rem := t - t.floor }

/-- P_EST of a power in W, 0.1 W; one below 0, which the unsigned field cannot hold, is free (log 31). -/
def pEstOf (f : Nat) (w : Rat) : Nat := if w < 0 then Config.freeNat f % 4294967296 else (roundBy f (w * 10)).toNat

/-- The correlators and estimates at the end of round `r` of `ticks` ticks. -/
def suitRoundEnd (s : State) (r ticks : Nat) : State :=
  let lanterns := s.met.suit.foldl (fun l e =>
    match powerEst s e with
    | some w => addLantern l e.node w ticks
    | none => l) s.met.lanterns
  s.mapMet fun m => { m with
    suitFeeders := m.suitFeeders.mapIdx fun f x => suitRoundOf s r ticks f x
    lanterns := lanterns
    suit := m.suit.map fun e => { e with pEst := ((powerEst s e).map (pEstOf s.fresh)).getD e.pEst } }

/-! The fit (07 R180) -/

/-- Solves `n` linear equations, each a row of coefficients followed by its right side; none when they are not
independent. -/
def solve : Nat → List (List Rat) → Option (List Rat)
  | 0, _ => some []
  | n + 1, rows =>
    match rows.find? fun r => r.headD 0 != 0 with
    | none => none
    | some p =>
      let q := p.tail.map fun v => v / p.headD 1
      let rest := (rows.erase p).map fun r => (r.tail.zip q).map fun x => x.1 - r.headD 0 * x.2
      (solve n rest).map fun xs => (q.getLastD 0 - ((q.zip xs).map fun x => x.1 * x.2).sum) :: xs

/-- Least squares of `y` on regressor rows, exactly, by the normal equations. -/
def leastSquares (n : Nat) (obs : List (List Rat × Rat)) : Option (List Rat) :=
  solve n ((List.range n).map fun i =>
    ((List.range n).map fun j => (obs.map fun o => o.1.getD i 0 * o.1.getD j 0).sum) ++ [(obs.map fun o => o.1.getD i 0 * o.2).sum])

/-- Chip of a code in round `r`: +1 for bit 0, -1 for bit 1 (07 R177). -/
def chip (code r : Nat) : Rat := if (goldCode code).getD (r % 1023) false then -1 else 1

/-- Lc of a lantern in a round, % of rated output (07 R177). -/
def levelC (x : SuitRound) (n : U32) : Rat := mkRat (min 9950 (((x.levels.find? fun e => e.1 == n).map (·.2)).getD 0)) 100

/-- z_j of 07 R180. -/
def zOf (x : SuitRound) (n : U32) (code : Nat) : Rat := levelC x n * (1 + mkRat 5 1000 * chip code x.round)

/-- Regressors of a round: the constants B_seg, t, t squared, and the lanterns' z. -/
def regressors (start : Nat) (segs : List Nat) (coded : List (U32 × Nat)) (x : SuitRound) : List Rat :=
  let t : Rat := mkRat (x.round - start : Nat) 1023
  (segs.map fun g => if g = x.seg then 1 else 0) ++ [t, t * t] ++ coded.map fun e => zOf x e.1 e.2

/-- The fit of a period on a feeder for the lanterns named: slopes in order, and sigma_n; none when the rounds do not
determine it. -/
def fitPeriod (start : Nat) (rounds : List SuitRound) (coded : List (U32 × Nat)) : Option (List Rat × Rat) :=
  let used := rounds.filter (·.weight)
  let segs := (List.range 17).filter fun g => used.any fun x => x.seg == g
  let n := segs.length + 2 + coded.length
  let obs := used.map fun x => (regressors start segs coded x, x.p)
  (leastSquares n obs).map fun b =>
    let res := obs.map fun o => let d := o.2 - ((o.1.zip b).map fun e => e.1 * e.2).sum; d * d
    (b.drop (segs.length + 2), rootRat (res.sum / (max 1 used.length)))

/-- sigma_k of 07 R180. -/
def sigmaK (sigmaN lMean : Rat) (nw : Nat) : Rat := sigmaN / (mkRat 5 1000 * lMean * rootRat nw)

/-- Median of at most three slopes; of two, half their sum (log 16). -/
def medianOf (l : List Rat) : Option Rat :=
  match l with
  | [] => none
  | [a] => some a
  | [a, b] => some ((a + b) / 2)
  | a :: b :: c :: _ => some (max (min a b) (min (max a b) c))

/-- The feeder, other than its own and not using its code, on which a lantern's slope is above 3 sigma_k and half the
reference (07 R182). -/
def otherFeeder (s : State) (start : Nat) (f : Nat) (n : U32) (code : Nat) (lMean ref : Rat) (own : List SuitRound) : Option Nat :=
  (List.range 8).find? fun g =>
    if g = f ∨ (codedLanterns s g).any (fun e => codeIn e start == some code) then false
    else
      let rounds := ((s.met.suitFeeders.getD g SuitFeeder.reset).rounds.filter fun x => decide (start ≤ x.round) && decide (x.round < start + 1023)).map fun x =>
        { x with levels := (n, ((own.find? fun o => o.round == x.round).map fun o => ((o.levels.find? fun e => e.1 == n).map (·.2)).getD 0).getD 0) :: x.levels }
      let lit (m : U32) : Bool := (rounds.filter (·.weight)).any fun x => levelC x m != 0
      let coded := ((codedLanterns s g).filterMap fun e => (codeIn e start).map fun c => (e.node, c)).filter fun e => lit e.1
      match fitPeriod start rounds ((n, code) :: coded) with
      | none => false
      | some (b, sn) =>
        let k := b.headD 0
        decide (3 * sigmaK sn lMean (rounds.filter (·.weight)).length < k) && decide (ref / 2 < k)

/-- The node reports its light on, by NFLAGS of its last STATUS (07 Table 7.11, 10 Table 10.13). -/
def nodeLit (s : State) (n : U32) : Bool := (assocOf s n).any fun a => a.nflags.getLsbD 0

/-- One lantern's estimate at the end of a period (07 R180 to R182). `k` is its slope, free where the rounds do not
determine it (log 31). -/
def lanternEstimate (s : State) (start f : Nat) (rounds : List SuitRound) (e : SuitNode) (code : Nat) (k sn : Rat) : SuitNode × State :=
  let used := rounds.filter (·.weight)
  let nw := used.length
  let lv := used.map fun x => levelC x e.node
  let partial_ := decide (nw < 1000)
  let was := e.sflags.getLsbD 1
  let old := if e.effRound ≤ start + 1023 then none else e.old
  let changed (dead : Bool) (other : Option Nat) (k : Rat) (f : Nat) (s : State) : State :=
    if dead == was then s
    else s.event 0x0207 (le 4 e.node.toNat ++ le 1 (bit dead) ++ le 1 (other.getD 0xFF) ++ le 2 0 ++ leInt 4 (roundBy f (k * 1000)))
  if lv.all fun l => l == 0 then
    ({ e with old := old, sflags := BitVec.ofNat 16 (bit partial_ + 16) }, (changed false none (e.slope.getD k) s.fresh s).bump)
  else
    let lMean := lv.sum / nw
    let sk := sigmaK sn lMean nw
    let typ : Nat := ((s.cfg.nodes.find? fun n => n.node == e.node).map fun n => n.typ.toNat % 1024).getD 0
    let ref := (medianOf e.slopes).getD (mkRat typ 100)
    let dead := lv.all (fun l => decide (10 ≤ l)) && decide (k < 3 * sk) && decide (k < ref / 10)
    let other := if dead then otherFeeder s start f e.node code lMean ref rounds else none
    let flags := bit partial_ + 2 * bit dead + 4 * bit (dead && nodeLit s e.node) + 8 * bit (decide (k < -3 * sk)) +
      128 * bit other.isSome + 8192 * other.getD 0
    let e' := { e with old := old, slope := some k, sigma := sk, slopes := (if dead then e.slopes else (k :: e.slopes).take 3), sflags := BitVec.ofNat 16 flags }
    let p := (powerEst s e').getD 0
    let e' := { e' with
      pEst := pEstOf s.fresh p
      conf := if p = 0 then Config.freeNat s.fresh % 65536 else (roundBy (s.fresh + 1) (100 * mkRat (commandedLevel s e.node) 100 * sk / p * 100)).toNat }
    let s := changed dead other k (s.fresh + 2) s
    (e', { s with fresh := s.fresh + 3 })

/-- The estimator at the end of the period that starts at `start`, on one feeder (07 R180). -/
def suitFeederEnd (s : State) (start f : Nat) : State :=
  let rounds := (s.met.suitFeeders.getD f SuitFeeder.reset).rounds.filter fun x => decide (start ≤ x.round) && decide (x.round < start + 1023)
  if rounds.isEmpty then s
  else
    let coded := (codedLanterns s f).filterMap fun e => (codeIn e start).map fun c => (e, c)
    let live := coded.filter fun e => (rounds.filter (·.weight)).any fun x => levelC x e.1.node != 0
    let fit := fitPeriod start rounds (live.map fun e => (e.1.node, e.2))
    let sn := (fit.map (·.2)).getD (Config.freeRat s.fresh)
    coded.foldl (fun s ec =>
      let i := live.findIdx fun x => x.1.node == ec.1.node
      let k := ((fit.map (·.1)).getD []).getD i (Config.freeRat (s.fresh + 1 + i))
      let (e', s) := lanternEstimate s start f rounds ec.1 ec.2 k sn
      s.mapMet fun m => { m with suit := m.suit.map fun x => if x.node == e'.node then e' else x }) s.bump

/-- Row SUIT_PERIOD_END: the period before the present one is fitted on every feeder, once (07 R180). -/
def execSuitPeriodEnd (s : State) : Result :=
  .next (
    let now := curRound s - curRound s % 1023
    if now < 1023 then s
    else
      let s := (List.range 8).foldl (fun s f => suitFeederEnd s (now - 1023) f) s
      s.mapMet fun m => { m with
        suitFeeders := m.suitFeeders.map fun x => { x with rounds := x.rounds.filter fun e => decide (now ≤ e.round) }
        suit := m.suit.filter fun e => !(e.code == 0xFFFF && decide (e.effRound ≤ now)) })

/-! Reports (07 R181) -/

/-- SFLAGS of a lantern: NOT_CODED without a code in effect, ADOPTED for an adopted node, which keeps the code of its replica
(07 Table 7.11, 10 R291). -/
def sflagsOf (s : State) (n : NodeRec) : Nat :=
  if n.origin = 1 then (if s.mesh.adoptedSuit.any fun c => c.1 == n.node then 0x40 else 0x60)
  else match suitOf s n.node with
    | none => 0x20
    | some e => if e.effRound ≤ curRound s ∨ e.old.isSome then e.sflags.toNat % 32 + e.sflags.toNat / 64 * 64 else e.sflags.toNat % 32 + e.sflags.toNat / 64 * 64 + 32

/-- An entry of 0x020A: figures of a lantern without an estimate are not stated and are free (log 31). -/
def suitItem (s : State) (n : NodeRec) : Nat × List Byte :=
  let e := suitOf s n.node
  let k := e.bind (·.slope)
  let q := s.fresh + 4 * refIndex n.node
  let vals := match e, k with
    | some e, some k => le 4 e.pEst ++ leInt 4 (roundBy q (k * 1000)) ++ le 2 e.conf
    | _, _ => le 4 (Config.freeNat q) ++ le 4 (Config.freeNat (q + 1)) ++ le 2 (Config.freeNat (q + 2))
  (n.node.toNat, le 4 n.node.toNat ++ vals ++ le 2 (sflagsOf s n))

/-- Command 0x020A, suit estimates of a feeder's lanterns (07 R181). -/
def execSuitEstimates (r : Req) (p : SuitEstimatesP) (s : State) : Result :=
  .next (gmp s r { cmd := 0x020A, len := 16, fields := (0x1A, p.prsv == 0) :: (0x1C, decide (p.feeder.toNat ≤ 7)) :: rsv3 0x1D p.rsv } fun _ s =>
    let l := (lanternNodes s).filter fun n => n.feeder == p.feeder.toNat
    let sorted := l.foldl (fun a n => putSorted a (fun x => x.node.toNat) n) []
    ({ s with fresh := s.fresh + 0x4000000 }, okWith (page p.cursor p.max [] (sorted.map (suitItem s)))))

end Sys2Proof.Machine
end

