-- ==== Sys2Proof/Machine/Control.lean ====
section
/-!
DEFINITION. The control engine (08): sources, the control input buffer, loops and the low card, safe release and
saturation, bank swaps, talon traces, and the commands of group 0x03.
-/

namespace Sys2Proof.Machine

open Sys2Proof

/-! Figures of the control engine -/

/-- 0.01 % of output range in units of 10^-9 % (08 R191). -/
def unit9 : Int := 10000000

/-- Fraction bits of a process value (08 R193). -/
def frac32 : Int := 4294967296

/-- Saturation of terms and integrators at ±1,000 % (08 R191). -/
def sat9 (x : Int) : Int := clampInt x (-1000000000000) 1000000000000

/-- The movement of a safe release per tick: 5 % per second (08 R197, R203). -/
def release9 : Int := 625000

/-- `y` moved toward `goal` by at most `step`. -/
def toward (y goal step : Int) : Int := if y < goal then min goal (y + step) else max goal (y - step)

/-- A gain product in units of 10^-9 %, the operand a whole number of units (08 R191). -/
def gainTerm (k x : Int) : Int := sat9 (roundDiv (k * x * unit9) 65536)

/-- A gain product, the operand with 32 fraction bits (08 R191). -/
def gainTerm32 (k x : Int) : Int := sat9 (roundDiv (k * x * unit9) 281474976710656)

/-- The lowest lit level of a road class (13 Table 13.2). -/
def litFloor : Nat → Nat
  | 0 => 1000
  | 1 => 1500
  | 2 => 2000
  | 3 => 3000
  | 4 => 4000
  | 5 => 5000
  | 6 => 5000
  | _ => 0

/-- The lowest safe level of a road class (13 Table 13.2). -/
def safeFloor : Nat → Nat
  | 0 => 3000
  | 1 => 4000
  | 2 => 5000
  | 3 => 6000
  | 4 => 7000
  | 5 => 8000
  | 6 => 10000
  | _ => 0

/-- Every loop output of 08 Table 8.1. -/
def allOutputs : List Nat := (List.range 64).filter fun o => o < 8 || (0x10 ≤ o && o ≤ 0x20) || 0x30 ≤ o

/-- An OUTPUT code of 08 Table 8.1. -/
def outputOk (o : Nat) : Bool := decide (o < 64) && (o < 8 || (0x10 ≤ o && o ≤ 0x20) || 0x30 ≤ o)

/-- The outputs that a kind may drive (08 Table 8.2). -/
def kindDrives (k o : Nat) : Bool :=
  if 1 ≤ k ∧ k ≤ 4 then o < 8
  else if k = 5 then 0x10 ≤ o && o < 0x20
  else if k = 6 then o == 0x20
  else 0x30 ≤ o && o < 0x40

/-- A source code of 08 Table 8.3. -/
def sourceOk (c : Nat) : Bool :=
  let i := c % 256
  match c / 256 with
  | 0x00 => i == 0
  | 0x01 => i < 8
  | 0x02 => i < 24
  | 0x03 => i < 24
  | 0x04 => i < 6
  | 0x05 => i < 6
  | 0x06 => i < 2
  | 0x07 => i < 8
  | 0x08 => i < 32
  | 0x09 => i < 32
  | 0x0A => i < 2
  | 0x0B => i < 16
  | _ => false

/-- The PV sources that a kind allows (08 Table 8.2). -/
def kindSource (c : Cfg) (k src : Nat) : Bool :=
  let g := src / 256
  match k with
  | 2 => g == 1 || g == 2
  | 3 => (g == 7 && c.aiModes.getD (src % 256) 0 == 2) || g == 9
  | 4 => g == 4 || g == 5
  | 5 => g == 8
  | 6 => src == 0x0A00
  | _ => true

/-! Feeders and safe levels -/

/-- A feeder with a stage configured to it (08 R201). -/
def regulated (s : State) (f : Nat) : Bool := s.cfg.stages.any fun x => x.feeder == f

/-- The runtime entry of a stage (09 R226). -/
def stageRt (s : State) (link addr : Nat) : Option StageRt := s.outs.stages.find? fun x => x.link == link && x.addr == addr

/-- The valid reports of the stages configured to a feeder (08 R198, 09 Table 9.4). -/
def feederReports (s : State) (f : Nat) : List Report :=
  (s.cfg.stages.filter fun x => x.feeder == f).filterMap fun x => (stageRt s x.link x.addr).bind (·.report)

/-- The highest LIT_FLOOR among the stages of a feeder (13 R341). -/
def feederFloor (s : State) (f : Nat) : Nat :=
  (s.cfg.stages.filter fun x => x.feeder == f).foldl (fun m x => max m (litFloor x.cls)) 0

/-- String `n` at work. -/
def stringRt (s : State) (n : Nat) : StringRt := s.outs.strings.getD n StringRt.reset

/-- The safe level of a loop output, 0.01 % (08 R198). -/
def safeLevelOf (s : State) (o : Nat) : Nat :=
  if o < 8 then
    match feederReports s o with
    | [] => 10000
    | l => if regulated s o then l.foldl (fun m r => max m r.safe) 0 else 10000
  else if 0x30 ≤ o then (stringRt s (o - 0x30)).tableSafe
  else 10000

/-- What an output without a loop releases: its safe level, or a string's commanded level (08 R197). -/
def baseLevel (s : State) (o : Nat) : Int :=
  if 0x30 ≤ o then roundBy s.fresh ((stringRt s (o - 0x30)).level * (10000000 : Int)) else unit9 * safeLevelOf s o

/-- The runtime of an output, if it has a loop. -/
def outRt (s : State) (o : Nat) : Option OutRt := s.ctl.outs.find? fun x => x.code == o

/-- The released value of an output before rounding, 10^-9 % (08 R199). -/
def releasedY (s : State) (o : Nat) : Int := match outRt s o with | some x => x.y | none => baseLevel s o

/-- The released value rounded to 0.01 %, a half upward (09 R218). -/
def releasedLevel (s : State) (o : Nat) : Nat := ((releasedY s o + 5000000) / unit9).toNat

/-! The control input buffer (07 R163, 08 R187) -/

/-- Samples of one tracked cycle of a supply, rounded (07 R163). -/
def cycleSamples (s : State) (sup : Nat) : Nat := max 1 ((32000000 + trackedMhz s sup / 2) / trackedMhz s sup)

/-- The mean of the products of two channels' samples over the tracked cycle, by the weights of the samples (07 R155,
R162). -/
def meanProduct (s : State) (sup a b : Nat) : Rat :=
  let n := cycleSamples s sup
  let w := ((s.met.times.getD sup []).take n).map (·.2)
  (List.zipWith (fun (x : Nat) (v : Rat) => x * v) w (List.zipWith (· * ·) ((mchan s a).hist.take n) ((mchan s b).hist.take n))).sum / w.sum

/-- Active power of a feeder's phase over the cycle, W. -/
def cyclePower (s : State) (f k : Nat) : Rat := meanProduct s (f / 4) (vChan f k) (iChan f k) / 100000000

/-- A supply's per-tick quantities come from its metering DSP, unless that is lost (01 Table 1.2, 15 R401). -/
def supplyLive (s : State) (sup : Nat) : Bool := s.met.running && !dspLost s sup

/-- An analogue input is valid by its mode (08 Table 8.3, 09 R232). -/
def aiGood (s : State) (n : Nat) : Bool :=
  let v := s.outs.ai.getD n 0
  let m := s.cfg.aiModes.getD n 0
  !(s.outs.aiBad.getD n false) && !(m == 1 && (v < 3600000 || 21000000 < v)) && !(m == 2 && (v < -50000 || 150000 < v))

/-- A configured, lit string that is not OPEN with a headroom under 100 ms old (09 R240). -/
def stringActive (s : State) (n : Nat) : Bool :=
  let x := stringRt s n
  s.cfg.strings.any (fun c => c.ch == n && c.maxMa != 0) && x.duty != 0 && !x.open_ && x.headroom.isSome && decide (s.now < x.headAt + 800)

/-- The lowest headroom among active strings (09 R240). -/
def lowestHeadroom (s : State) : Option Int :=
  ((List.range 16).filter (stringActive s)).foldl (fun b n =>
    match b, (stringRt s n).headroom with
    | some a, some h => some (min a h)
    | none, h => h
    | a, none => a) none

/-- The value of source class 0x09 for a stage: its report of a tick ago (08 Table 8.3). -/
def stageTemp (s : State) (i : Nat) : Option Int :=
  (stageRt s (i / 16) (i % 16)).bind fun x => if x.nibAt + 1 = s.now then x.report.map (·.temp) else none

/-- The control input buffer as published now. -/
def cibOf (s : State) : Cib :=
  let old := s.ctl.cib
  let f0 := s.fresh
  let keep (sup : Nat) (was : Int) (v : Int) : Int := if supplyLive s sup then v else was
  { feederP := (List.range 8).map fun f => keep (f / 4) (old.feederP.getD f 0) (roundBy (f0 + f) (10 * ((List.range 3).map fun k => cyclePower s f k).sum))
    phaseP := (List.range 24).map fun i => keep (i / 12) (old.phaseP.getD i 0) (roundBy (f0 + 8 + i) (10 * cyclePower s (i / 3) (i % 3)))
    phaseI := (List.range 24).map fun i => keep (i / 12) (old.phaseI.getD i 0)
      (roundBy (f0 + 32 + i) (rootRat (meanProduct s (i / 12) (iChan (i / 3) (i % 3)) (iChan (i / 3) (i % 3))) / 100))
    supplyV := (List.range 6).map fun i => keep (i / 3) (old.supplyV.getD i 0) (roundBy (f0 + 56 + i) (rootRat (meanProduct s (i / 3) i i)))
    supplyV1 := (List.range 6).map fun i => keep (i / 3) (old.supplyV1.getD i 0) (roundBy (f0 + 62 + i) (rootRat (norm2 (cyclePhasor s i))))
    freq := (List.range 2).map fun q => keep q (old.freq.getD q 0) (freqOf s q)
    noZc := (List.range 2).map fun q => noZc s q
    ai := s.outs.ai
    aiValid := (List.range 8).map (aiGood s)
    light := (List.range 32).map fun i => (s.outs.lights.getD (i / 4) LightRt.reset).vals.getD (i % 4) 0
    lightValid := (List.range 8).map fun i => (s.outs.lights.getD i LightRt.reset).valid
    temp := (List.range 32).map (stageTemp s)
    headroom := lowestHeadroom s
    vled := s.outs.vled
    di := s.outs.di }

/-- The value of a source in the control input buffer; none while it is invalid (08 Table 8.3). -/
def srcValue (c : Cib) (code : Nat) : Option Int :=
  let i := code % 256
  match code / 256 with
  | 0x01 => some (c.feederP.getD i 0)
  | 0x02 => some (c.phaseP.getD i 0)
  | 0x03 => some (c.phaseI.getD i 0)
  | 0x04 => some (c.supplyV.getD i 0)
  | 0x05 => if c.noZc.getD (i / 3) true then none else some (c.supplyV1.getD i 0)
  | 0x06 => if c.noZc.getD i true then none else some (c.freq.getD i 0)
  | 0x07 => if c.aiValid.getD i false then some (c.ai.getD i 0) else none
  | 0x08 => if c.lightValid.getD (i / 4) false then some (c.light.getD i 0) else none
  | 0x09 => c.temp.getD i none
  | 0x0A => if i = 0 then c.headroom else some c.vled
  | 0x0B => some (if c.di.getLsbD i then 1 else 0)
  | _ => some 0

/-- A feeder group drives the loops of the feeder (13 R339). -/
def groupDriven (c : Cfg) (f : Nat) : Bool := (groupOf c (0xF000 + f)).isSome

/-- A loop whose set-point the host gives (08 Table 8.2, 13 R339). -/
def hostSet (c : Cfg) (l : LoopCfg) : Bool := l.kind != 6 && !(l.kind == 1 && (!l.spHost || groupDriven c l.output))

/-- The loop a tick-state entry sets in a dummy (08 R208, 14 Table 14.4). A loop whose set-point the host does not give
takes it from the configuration and the schedules, which both modules hold; its SP field changes nothing. -/
def adoptLoop (c : Cfg) (r : LoopRt) (e : LoopEntry) : LoopRt :=
  let y (k : Nat) : Int := (e.pvPrev + e.notches.getD k 0) * frac32
  { r with
    integ := 1000 * e.integ
    pvPrev := e.pvPrev * frac32
    sp := if c.loops.any fun l => l.idx == r.idx && hostSet c l then e.sp else r.sp
    satTicks := e.sat
    notch1 := { r.notch1 with y1 := y 0, y2 := y 1 }
    notch2 := { r.notch2 with y1 := y 2, y2 := y 3 }
    fresh := false }

/-- A dummy takes the partner's state for this tick, or marks that there was none (08 R208, 04 R97, 09 R230). -/
def adoptShadow (s : State) : State :=
  match s.ctl.shadowIn with
  | none => s.mapCtl fun c => { c with loops := c.loops.map fun r => { r with lflags := r.lflags ||| 0x10000 } }
  | some f =>
    let s := s.mapCtl fun c => { c with
      shadowIn := none
      caps := f.caps
      outs := f.outs.foldl (fun l x =>
        if l.any fun o => o.code == x.1 then l.map fun o => if o.code == x.1 then { o with y := x.2 } else o
        else l ++ [{ OutRt.reset with code := x.1, y := x.2 }]) c.outs
      loops := c.loops.map fun r =>
        let r := { r with lflags := r.lflags &&& 0xFFFEFFFF }
        match f.loops.find? (fun e => e.idx == r.idx) with
        | some e => adoptLoop s.cfg r e
        | none => r }
    s.mapOuts fun o => { o with contactors := o.contactors.mapIdx fun n c => { c with want := f.ct.getLsbD n } }

/-- The light-sensor reads that reach their eighth tick: the counts of a good read, or an invalid source (09 R251,
04 Table 4.3). -/
def takeLights (s : State) : State :=
  let one (x : LightRt) : LightRt := match x.started with
    | none => x
    | some t =>
      if s.now < t + 8 then x
      else match x.got with
        | some v => { x with vals := v, valid := true, started := none, got := none }
        | none => { x with valid := false, started := none }
  s.mapOuts fun o => { o with lights := o.lights.map one }

/-- Row CONTROL_INPUT_PUBLISH: cycle 1,824 of a tick (04 Table 4.2, 07 R163, 08 R208). -/
def execControlInputPublish (s : State) : Result :=
  .next (if !s.clk.running then s
    else
      let s := takeLights s
      let c := cibOf s
      let s := { s with fresh := s.fresh + 128 }.mapCtl fun x => { x with cib := c }
      let s := if s.sys.mode = .dummy then adoptShadow s else s
      if s.met.running then suitTick s else s)

/-! A loop's terms (08 R191 to R194) -/

/-- One in the fixed point that a notch's design is evaluated in, 90 fraction bits. -/
def one90 : Int := 2 ^ 90

/-- Terms of the power series of a sine or a cosine, from `t` on: each is the last times -w² over the next two numbers. -/
def trigSeries (w2 : Int) : Nat → Nat → Int → Int
  | 0, _, _ => 0
  | n + 1, k, t => t + trigSeries w2 n (k + 2) (-(t * w2 / one90) / (((k + 1) * (k + 2) : Nat) : Int))

/-- Sine and cosine of an angle up to a right angle, with 90 fraction bits. -/
def sinCos (w : Int) : Int × Int :=
  let w2 := w * w / one90
  (trigSeries w2 16 1 w, trigSeries w2 16 0 one90)

/-- A coefficient with 30 fraction bits; the rounding of the last bit is not given and is free (log 32). -/
def coef30 (up : Bool) (num den : Int) : Int := (1073741824 * num).fdiv den + (if up then 1 else 0)

/-- b0, b1 and a2 of a notch at F Hz with Q in 0.01 (08 R193). -/
def notchCoefs (f q : Nat) : Int × Int × Int :=
  let w := (2 * piRat * f / 8000 * one90).floor
  let (sn, cs) := sinCos w
  let a := 100 * sn / (2 * (q : Int))
  (coef30 (Config.notchRound f q 0) one90 (one90 + a), coef30 (Config.notchRound f q 1) (-2 * cs) (one90 + a),
    coef30 (Config.notchRound f q 2) (one90 - a) (one90 + a))

/-- A value with 30 more fraction bits brought back; the rounding is not given and is free (log 32). -/
def drop30 (free : Nat) (x : Int) : Int := roundBy free (mkRat x 1073741824)

/-- A notch whose output is set to equal its input (08 Table 8.7). -/
def notchHeld (x : Int) : Notch where
  x1 := x
  x2 := x
  y1 := x
  y2 := x

/-- One step of a notch: its states and its output; centre 0 passes its input (08 R193). -/
def notchStep (free f q : Nat) (hold : Bool) (n : Notch) (x : Int) : Notch × Int :=
  if f = 0 then (n, x)
  else if hold then (notchHeld x, x)
  else
    let (b0, b1, a2) := notchCoefs f q
    let y := drop30 free (b0 * x + b1 * n.x1 + b0 * n.x2 - b1 * n.y1 - a2 * n.y2)
    ({ x1 := x, x2 := n.x1, y1 := y, y2 := n.y1 }, y)

/-- p, d, ff and KI e of a loop under a bank (08 R191). -/
structure Terms where
  p : Int
  d : Int
  ff : Int
  ki : Int
  deriving DecidableEq, Repr

/-- The terms of a loop under a bank (08 R191, R194): FF invalid or absent gives 0. -/
def termsOf (l : LoopCfg) (b : Bank) (e dpv : Int) (f : Option Int) : Terms where
  p := gainTerm32 b.kp e
  d := if l.dEn then -gainTerm32 b.kd dpv else 0
  ff := match f with | some v => gainTerm b.kff v | none => 0
  ki := if l.pOnly then 0 else gainTerm32 b.ki e

/-- The feeder group of a LIGHT loop's output exists (13 R339). -/
def feederGroup (s : State) (f : Nat) : Bool := groupDriven s.cfg f

/-- The feeder demand: its group's level, the default of a feeder group where there is none (13 R343, log 33). -/
def feederDemand (s : State) (f : Nat) : Int :=
  if feederGroup s f then ((s.sch.groupLevels.find? fun x => x.1 == 0xF000 + f).map (fun x => (x.2 : Int))).getD 10000 else 10000

/-- The set-point in force of a loop (08 Table 8.2, 13 R339). -/
def setPointOf (s : State) (l : LoopCfg) (r : LoopRt) : Option Int :=
  if l.kind = 6 then some 700
  else if l.kind = 1 ∧ (!l.spHost ∨ feederGroup s l.output) then some (feederDemand s l.output)
  else r.sp

/-- What one loop computes before selection. -/
structure LoopEval where
  rt : LoopRt
  ex : Bool
  flags : Nat
  deriving DecidableEq, Repr

/-- The clamps and the ramp of a loop: u and the flags CLAMP_HI, CLAMP_LO, RAMP_UP_LIM, RAMP_DN_LIM (08 R191, R199). -/
def limitU (l : LoopCfg) (b : Bank) (v yPrev : Int) : Int × Nat :=
  let lo := b.outMin * unit9
  let hi := b.outMax * unit9
  let u := clampInt v lo hi
  let up := 125 * (l.rampUp : Int)
  let dn := 125 * (l.rampDn : Int)
  let isUp := l.rampUp != 0 && decide (yPrev + up < u)
  let isDn := l.rampDn != 0 && decide (u < yPrev - dn)
  let u := if isUp then yPrev + up else if isDn then yPrev - dn else u
  (u, 4 * bit (decide (hi < v)) + 8 * bit (decide (v < lo)) + 16 * bit isUp + 32 * bit isDn)

/-- A loop with an integrator in one tick, its PV source valued `x` and its set-point `sp` (08 R191 to R196, Table 8.7).
In the tick of its initialisation v equals y_prev. -/
def evalPi (free : Nat) (l : LoopCfg) (r : LoopRt) (sp x : Int) (f : Option Int) (yPrev : Int) : LoopRt :=
  let b := activeBank l
  let o := r.swapFrom.getD b
  let x0 := x * frac32
  let (m1, pv1) := notchStep free b.n1f b.n1q (r.fresh || b.n1f != o.n1f || b.n1q != o.n1q) r.notch1 x0
  let (m2, pv) := notchStep (free + 1) b.n2f b.n2q (r.fresh || b.n2f != o.n2f || b.n2q != o.n2q) r.notch2 pv1
  let (_, q1) := notchStep free o.n1f o.n1q r.fresh r.notch1 x0
  let (_, pvOld) := notchStep (free + 1) o.n2f o.n2q r.fresh r.notch2 q1
  let prev := if r.fresh then pv else r.pvPrev
  let e := sp * frac32 - pv
  let t := termsOf l b e (pv - prev) f
  let t0 := termsOf l o (sp * frac32 - pvOld) (pvOld - prev) f
  let integ := if l.ffSrc ≠ 0 ∧ f.isSome ≠ r.ffValid ∧ !r.fresh then sat9 (r.integ - (t0.ff - r.ff)) else r.integ
  let integ := if r.swapFrom.isSome then sat9 (integ + (t0.p + t0.d + t0.ff + t0.ki) - (t.p + t.d + t.ff + t.ki)) else integ
  let integ := if r.fresh then sat9 (yPrev - (t.p + t.d + t.ff)) else integ
  let ival := if r.fresh then integ else sat9 (integ + t.ki)
  { r with
    fresh := false
    notch1 := m1
    notch2 := m2
    x := x
    pv := pv
    pvPrev := pv
    e := e
    p := t.p
    d := t.d
    ff := t.ff
    ffValid := f.isSome
    integ := integ
    ival := ival
    v := t.p + ival + t.d + t.ff
    swapFrom := none }

/-- A demand loop in one tick (08 R192). -/
def evalDemand (l : LoopCfg) (r : LoopRt) (sp : Int) (f : Option Int) : LoopRt :=
  let ff := match f with | some v => gainTerm (activeBank l).kff v | none => 0
  { r with fresh := false, ff := ff, ffValid := f.isSome, v := sp * unit9 + ff, swapFrom := none }

/-- A loop in one tick: what it computes and whether it is excluded (08 R188, R191). -/
def evalLoop (s : State) (free : Nat) (l : LoopCfg) (r : LoopRt) (yPrev : Int) : LoopEval :=
  let sp := setPointOf s l r
  let x := if l.pvSrc = 0 then some 0 else srcValue s.ctl.cib l.pvSrc
  let f := if l.ffSrc = 0 then none else srcValue s.ctl.cib l.ffSrc
  let bad := 64 * bit x.isNone + 128 * bit (l.ffSrc != 0 && f.isNone) + 256 * bit sp.isNone
  match sp, x with
  | some sp, some x =>
    let r := if l.pvSrc = 0 then evalDemand l r sp f else evalPi free l { r with fresh := r.fresh || r.excluded } sp x f yPrev
    let (u, fl) := limitU l (activeBank l) r.v yPrev
    { rt := { r with u := u, excluded := false }, ex := false, flags := bad + fl }
  | _, _ =>
    let ff := match f with | some v => gainTerm (activeBank l).kff v | none => 0
    { rt := { r with p := 0, d := 0, ff := ff, ffValid := f.isSome, excluded := true, swapFrom := none }, ex := true, flags := bad }

/-! The low card (08 R195 to R203) -/

/-- A candidate: u, KIND and loop index, 64 for a string's commanded level (08 R195). -/
structure Candidate where
  u : Int
  kind : Nat
  idx : Nat
  deriving DecidableEq, Repr

/-- The lower candidate: lowest u, then lowest KIND, then lowest LOOP index (08 R195). -/
def lower (a b : Candidate) : Candidate :=
  if a.u < b.u then a else if b.u < a.u then b
  else if a.kind < b.kind then a else if b.kind < a.kind then b
  else if a.idx ≤ b.idx then a else b

/-- The lowest candidate. -/
def lowCard : List Candidate → Option Candidate
  | [] => none
  | c :: r => some (r.foldl lower c)

/-- The value by which command 0x0409 holds an output in COMMISSIONING (08 R209, 06 R147). -/
def testValue (s : State) (o : Nat) : Option Nat :=
  (s.sys.tests.find? fun t =>
    match t.target with
    | 0 => s.cfg.stages.any fun x => 16 * x.link + x.addr == t.index && x.feeder == o
    | 1 => o == 0x30 + t.index
    | 2 => decide (0x10 ≤ o) && decide (o < 0x20) && (o - 0x10) / 4 == t.index / 256
    | _ => false).map (·.value)

/-- An item of a slice pair was stopped in this tick: what depends on it keeps its last value (04 R89). Which item of a
pair is which is not given: any of them holds the pair's outputs. -/
def pairStopped (s : State) (cp : Nat) : Bool := s.ctl.stops.any fun x => x.engine == 0x10 + cp && x.last == s.now

/-- The loops of an output do not run: their slice pair is lost, or they have no seat (01 Table 1.2, R13). -/
def outputHeld (s : State) (o : Nat) : Bool :=
  (match seatAt s o with | none => true | some cp => pairStopped s cp) || s.ctl.loops.any fun r => r.held && s.cfg.loops.any fun l => l.idx == r.idx && l.output == o

/-- The runtime of a loop. -/
def loopRt (s : State) (i : Nat) : LoopRt := (s.ctl.loops.find? fun r => r.idx == i).getD { LoopRt.reset with idx := i }

/-- A swap of a group waits for its tick (08 R204). -/
def swapPending (s : State) (g : Nat) : Bool := s.ctl.swaps.any fun x => x.group == g && !x.taken

/-- The cap c of the last round differs from the applied cap (08 R202). -/
def capDwell (s : State) (o : Nat) : Bool :=
  decide (o < 8) && !regulated s o && s.ctl.capsC.getD o 10000 != s.ctl.caps.getD o 10000

/-- What selection decides for an output. -/
structure Selection where
  y : Int
  win : Option Candidate
  rt : OutRt
  deriving DecidableEq, Repr

/-- Selection on an output from its loops' results (08 R195, R197, R203, R209, 03 R63). -/
def select (s : State) (o : Nat) (rt : OutRt) (cands : List Candidate) (level : Option Int) : Selection :=
  let goal := unit9 * safeLevelOf s o
  match testValue s o with
  | some v => { y := unit9 * v, win := none, rt := { rt with exclTicks := 0, safeRel := 0 } }
  | none =>
    let rel := if rt.safeRel = 1 ∧ !cands.isEmpty then 0 else rt.safeRel
    if rel ≠ 0 then { y := toward rt.y goal release9, win := none, rt := rt }
    else if cands.isEmpty then { y := rt.y, win := none, rt := { rt with safeRel := 0, exclTicks := rt.exclTicks + 1 } }
    else
      let all := cands ++ (match level with | some v => [{ u := v, kind := 0, idx := 64 }] | none => [])
      let w := lowCard all
      let y := match w with | some c => c.u | none => rt.y
      { y := if s.ctl.first then rt.y else y, win := w, rt := { rt with safeRel := 0, exclTicks := 0 } }

/-- A loop after selection: integrator, saturation timer, flags and mode (08 R196, R203, Table 8.8). -/
def settle (s : State) (l : LoopCfg) (v : LoopEval) (sel : Selection) : LoopRt :=
  let r := v.rt
  let won := match sel.win with | some c => c.idx == l.idx && c.kind == l.kind | none => false
  let integ := if l.pvSrc = 0 then r.integ
    else if v.ex || r.v != sel.y then sat9 (sel.y - (r.p + r.d + r.ff)) else r.ival
  let satd := won && v.flags / 4 % 4 != 0
  let n := if satd then r.satTicks + 1 else 0
  let exp := satd && r.lflags.getLsbD 1
  let un := if sel.rt.safeRel = 2 ∧ sel.rt.relLoop = l.idx ∧ !v.ex ∧ v.flags / 4 % 4 = 0 then r.unsatTicks + 1 else 0
  let kind := match sel.win with | some c => c.kind | none => 0
  let fl := v.flags + bit satd + 2 * bit exp + 512 * bit l.activeB + 1024 * bit (swapPending s l.group) +
    2048 * bit (capDwell s l.output) + 4096 * bit (sel.rt.safeRel != 0) + 8192 * kind + 65536 * bit (r.lflags.getLsbD 16)
  { r with
    integ := integ
    spWin := setPointOf s l v.rt
    satTicks := n
    unsatTicks := un
    lflags := BitVec.ofNat 32 fl
    modeCode := if v.ex then 5 else if s.sys.mode = .dummy then 4 else if won then 1 else 2 }

/-- Replaces the runtime of an output. -/
def putOut (s : State) (x : OutRt) : State := s.mapCtl fun c => { c with outs := putSorted c.outs (·.code) x }

/-- Replaces the runtimes of loops. -/
def putLoops (s : State) (l : List LoopRt) : State :=
  s.mapCtl fun c => { c with loops := c.loops.map fun r => (l.find? fun x => x.idx == r.idx).getD r }

/-- The control window of one output that holds loops (08 R191 to R203). -/
def runOutput (s : State) (o : Nat) : State :=
  let ls := loopsOf s.cfg o
  let rt := (outRt s o).getD { OutRt.reset with code := o, y := baseLevel s o }
  if outputHeld s o then putLoops (putOut s rt) (ls.map fun l => { loopRt s l.idx with modeCode := 3 })
  else
    let ev := ls.map fun l => (l, evalLoop s (s.fresh + 2 * l.idx) l (loopRt s l.idx) rt.y)
    let cands := (ev.filter fun e => !e.2.ex).map fun e => { u := e.2.rt.u, kind := e.1.kind, idx := e.1.idx : Candidate }
    let level := if 0x30 ≤ o then some (baseLevel s o) else none
    let sel := select s o rt cands level
    let new := ev.map fun e => settle s e.1 e.2 sel
    let done := sel.rt.safeRel == 2 && (!ls.any (fun l => l.idx == sel.rt.relLoop) || new.any fun r => r.idx == sel.rt.relLoop && decide (8000 ≤ r.unsatTicks))
    let out := { sel.rt with
      y := sel.y
      winKind := (match sel.win with | some c => c.kind | none => 0)
      winIdx := (match sel.win with | some c => c.idx | none => 64)
      safeRel := if done then 0 else sel.rt.safeRel }
    putLoops (putOut s out) new

/-- The outputs whose loops run now: all of them in DECLARER and DUMMY, those under test in COMMISSIONING (08 R208, R209). -/
def runningOutputs (s : State) : List Nat :=
  match s.sys.mode with
  | .declarer => loopOutputs s.cfg
  | .dummy => loopOutputs s.cfg
  | .commissioning => (loopOutputs s.cfg).filter fun o => (testValue s o).isSome
  | _ => []

/-- The loops that run in this tick. -/
def loopRuns (s : State) (l : LoopCfg) : Bool := (runningOutputs s).contains l.output

/-- The control window of every pair: loops and outputs that no longer exist are left out first. -/
def controlWindow (s : State) : State :=
  let os := runningOutputs s
  let s := s.mapCtl fun c => { c with
    outs := c.outs.filter fun x => !(loopsOf s.cfg x.code).isEmpty
    loops := c.loops.map fun r => if (cfgLoopOf s.cfg r.idx).any (fun l => os.contains l.output) then r else { r with modeCode := 0 } }
  let s := os.foldl runOutput s
  { s with fresh := s.fresh + 256 }.mapCtl fun c => { c with first := if os.isEmpty then c.first else false }

/-- The runtime entries that a configuration's loops need: one that is new or replaced is to be initialised (08 R189,
R196, R200). -/
def syncLoops (s : State) (fresh : List Nat) : State :=
  let one (c : Ctl) (l : LoopCfg) : LoopRt := match c.loops.find? (fun r => r.idx == l.idx) with
    | some r => if fresh.contains l.idx then { r with fresh := true } else r
    | none => { LoopRt.reset with idx := l.idx }
  s.mapCtl fun c => { c with loops := s.cfg.loops.map (one c) }

/-- Set-points read in the last tick come into use (08 R200); the first one initialises its loop (08 R196). -/
def takeSetPoints (s : State) : State :=
  let one (r : LoopRt) : LoopRt := match r.spNext with
    | some v => { r with sp := some v, spNext := none, fresh := r.fresh || r.sp.isNone }
    | none => r
  s.mapCtl fun c => { c with loops := c.loops.map one }

/-- Every loop is initialised so that its output equals its safe level (03 R63, 08 R196). -/
def initLoops (s : State) : State :=
  s.mapCtl fun c => { c with
    first := true
    loops := c.loops.map fun r => { r with fresh := true }
    outs := (loopOutputs s.cfg).map fun o => { OutRt.reset with code := o, y := unit9 * safeLevelOf s o } }

/-- Row SAFE_RELEASE_TIMER: every loop of an output excluded for 16,000 ticks (08 R197). -/
def execSafeReleaseTimer (output : Nat) (s : State) : Result :=
  .next (match outRt s output with
    | none => s
    | some x =>
      if x.safeRel = 0 ∧ 16000 ≤ x.exclTicks then
        let s := putOut s { x with safeRel := 1 }
        if s.sys.mode = .dummy then s else s.event 0x0301 (le 1 output ++ le 1 1 ++ le 2 0 ++ le 8 s.clk.tick)
      else s)

/-- The saturation timer of a loop in ticks (08 Table 8.4). -/
def satLimit (l : LoopCfg) : Nat := 8 * (if l.satMs = 0 then 2000 else l.satMs)

/-- Row SAT_EXPIRY: a loop's saturation timer reaches SAT_MS (08 R203). -/
def execSatExpiry (loop : Nat) (s : State) : Result :=
  .next (match cfgLoopOf s.cfg loop with
    | none => s
    | some l =>
      let r := loopRt s loop
      if satLimit l ≤ r.satTicks ∧ !r.lflags.getLsbD 1 then
        let s := putLoops s [{ r with lflags := r.lflags ||| 2, unsatTicks := 0 }]
        let s := if s.sys.mode = .dummy then s
          else s.event 0x0302 (le 4 (mkRef 0x05 loop).toNat ++ le 1 (bit (r.lflags.getLsbD 2)) ++ le 1 l.satAct ++ le 2 0)
        if l.satAct = 1 then
          match outRt s l.output with
          | none => s
          | some x =>
            let s := putOut s { x with safeRel := 2, relLoop := loop }
            if s.sys.mode = .dummy then s else s.event 0x0301 (le 1 l.output ++ le 1 2 ++ le 2 0 ++ le 8 s.clk.tick)
        else s
      else s)

/-! Commands of group 0x03 -/

/-- A loop reference that names a loop of a configuration (06 R137). -/
def loopRef (c : Cfg) (v : U32) : Bool := refClass v == 5 && (cfgLoopOf c (refIndex v)).isSome

/-- Field checks of 0x0301 (08 R184 to R189, Table 8.4). -/
def loopChecks (s : State) (p : ConfigureLoopP) : List (Nat × Bool) :=
  let k := p.kind.toNat
  let o := p.output.toNat
  let ramp (v : U32) : Bool := decide (v.toNat ≤ 800000000)
  [(0x10, refClass p.loop == 5 && decide (refIndex p.loop < 64)),
   (0x14, decide (1 ≤ k) && decide (k ≤ 7) && (!outputOk o || kindDrives k o)),
   (0x15, outputOk o),
   (0x16, p.opts.toNat / 32 == 0 && !p.opts.getLsbD 3 && (!p.opts.getLsbD 1 || k == 1)),
   (0x18, sourceOk p.pvSrc.toNat && kindSource (planned s) k p.pvSrc.toNat),
   (0x1A, sourceOk p.ffSrc.toNat),
   (0x1C, ramp p.rampUp),
   (0x20, ramp p.rampDn),
   (0x24, p.satMs == 0 || (decide (10 ≤ p.satMs.toNat) && decide (p.satMs.toNat ≤ 600000))),
   (0x2A, p.rsv == 0)]

/-- CP and CYCLES of 0x0301 for the configuration that results (06 R146, 08 R189). -/
def loopSeat (s : State) (c : Cfg) (o : Nat) : List Byte :=
  let (loads, seats) := seatsOf s c
  let cp := ((seats.find? fun x => x.1 == o).map (·.2)).getD 0
  le 1 cp ++ le 3 0 ++ le 4 (((loads.find? fun x => x.cp == cp).map (·.window)).getD 0)

/-- Command 0x0301, configure loop (08 R189, 04 R91, R92). -/
def execConfigureLoop (r : Req) (p : ConfigureLoopP) (s : State) : Result :=
  .next (gmp s r { cmd := 0x0301, len := 28, fields := loopChecks s p } fun t s =>
    let i : Instr := .configureLoop r p
    let c := cfgOf i (planned s)
    match admission s c with
    | some bad => (s, bad)
    | none => admitChange s t i (loopSeat s c p.output.toNat))

/-- Command 0x0302, remove loop (04 R91). -/
def execRemoveLoop (r : Req) (p : RemoveLoopP) (s : State) : Result :=
  .next (gmp s r { cmd := 0x0302, len := 4, fields := [(0x10, loopRef (planned s) p.loop)] } fun t s => admitChange s t (.removeLoop r p))

/-- A notch centre: 0, or 40 to 2,000 Hz (08 Table 8.5). -/
def centreOk (v : U16) : Bool := v == 0 || (decide (40 ≤ v.toNat) && decide (v.toNat ≤ 2000))

/-- A notch Q: 0.50 to 50.00 (08 Table 8.5). -/
def qOk (v : U16) : Bool := decide (50 ≤ v.toNat) && decide (v.toNat ≤ 5000)

/-- A loop output limit, 0 to 10,000 (08 Table 8.5). -/
def limitOk (v : BitVec 32) : Bool := decide (v.toNat ≤ 10000)

/-- Field checks of 0x0303 (08 R190, Table 8.5). -/
def shadowChecks (s : State) (p : ShadowCoefficientsP) : List (Nat × Bool) :=
  [(0x10, loopRef s.cfg p.loop), (0x20, centreOk p.n1f), (0x22, qOk p.n1q), (0x24, centreOk p.n2f), (0x26, qOk p.n2q),
   (0x2C, limitOk p.outMin && (!limitOk p.outMax || decide (p.outMin.toNat ≤ p.outMax.toNat))), (0x30, limitOk p.outMax)]

/-- Command 0x0303, shadow coefficients: at once, or after a pending swap of the group (08 R190, Table 8.7). -/
def execShadowCoefficients (r : Req) (p : ShadowCoefficientsP) (s : State) : Result :=
  .next (gmp s r { cmd := 0x0303, len := 36, fields := shadowChecks s p } fun _ s =>
    let i := refIndex p.loop
    let g := ((cfgLoopOf s.cfg i).map (·.group)).getD 0
    if swapPending s g then
      (s.mapCtl fun c => { c with swaps := c.swaps.map fun x => if x.group == g && !x.taken then { x with late := x.late ++ [(i, bankOf p)] } else x }, {})
    else (s.mapCfg (cfgShadow p), {}))

/-- Command 0x0304, bank swap (08 R204, R205). -/
def execBankSwap (r : Req) (p : BankSwapP) (s : State) : Result :=
  .next (gmp s r { cmd := 0x0304, len := 4, fields := [(0x10, s.cfg.loops.any fun l => l.group == p.group.toNat), (0x12, p.rsv == 0)] } fun t s =>
    match s.ctl.swaps.find? (fun x => x.group == p.group.toNat && !x.taken) with
    | some x => (s, busyBy x.tok)
    | none =>
      (s.mapCtl fun c => { c with swaps := c.swaps ++ [{ group := p.group.toNat, tok := t, tick := s.clk.tick + 1, late := [], taken := false }] },
        { status := stAccepted, data := le 8 (s.clk.tick + 1) }))

/-- The event of a bank swap that leaves a limiting loop of a regulated feeder below its floor (13 R341). -/
def belowFloor (s : State) (l : LoopCfg) : State :=
  let floor := feederFloor s l.output
  if 2 ≤ l.kind ∧ l.kind ≤ 4 ∧ regulated s l.output ∧ (activeBank l).outMin < floor then
    s.event 0x0304 (le 4 (mkRef 0x05 l.idx).toNat ++ leInt 4 (activeBank l).outMin ++ le 2 floor ++ le 2 0)
  else s

/-- A swap takes force for its group (08 Table 8.7, R205). -/
def takeSwap (s : State) (x : PendSwap) : State :=
  let inGroup (l : LoopCfg) : Bool := l.group == x.group
  let old (i : Nat) : Option Bank := (s.cfg.loops.find? fun l => l.idx == i && inGroup l).map activeBank
  let s := s.mapCtl fun c => { c with
    loops := c.loops.map fun r => match old r.idx with | some b => { r with swapFrom := some (r.swapFrom.getD b) } | none => r
    swaps := c.swaps.map fun y => if y == x then { y with taken := true } else y
    traces := c.traces.map fun l => l.map fun t => if (old t.loop).isSome then { t with swapped := true } else t }
  let s := s.mapCfg fun c => { c with loops := c.loops.map fun l => if inGroup l then swapped l else l }
  let s := x.late.foldl (fun s w => s.mapCfg fun c => { c with loops := c.loops.map fun l => if l.idx = w.1 then withShadow l w.2 else l }) s
  (s.cfg.loops.filter inGroup).foldl belowFloor s

/-- Row BANK_SWAP_TAKE_FORCE: the boundary of the tick after the read (08 R204). -/
def execBankSwapTakeForce (s : State) : Result :=
  .next ((s.ctl.swaps.filter fun x => !x.taken && decide (x.tick ≤ s.clk.tick)).foldl takeSwap s)

/-- Field checks of 0x0305 (08 R200, 13 R339). -/
def setPointChecks (s : State) (p : SetPointP) : List (Nat × Bool) :=
  match cfgLoopOf s.cfg (refIndex p.loop) with
  | none => [(0x10, false)]
  | some l =>
    [(0x10, refClass p.loop == 5 && l.kind != 6 && !(l.kind == 1 && (!l.spHost || feederGroup s l.output))),
     (0x14, l.pvSrc != 0 || (decide (0 ≤ i32 p.sp) && decide (i32 p.sp ≤ 10000)))]

/-- What 0x0305 does (08 R200). -/
def effSetPoint (p : SetPointP) (s : State) : State × Reply :=
  (putLoops s [{ loopRt s (refIndex p.loop) with spNext := some (i32 p.sp) }], okWith (le 8 (s.clk.tick + 1)))

/-- Command 0x0305, set-point (08 R200). -/
def execSetPoint (r : Req) (p : SetPointP) (s : State) : Result :=
  .next (gmp s r { cmd := 0x0305, len := 8, fields := setPointChecks s p } fun _ s =>
    passOn (.setPoint r p) (effSetPoint p s))

/-- Loop-state response data: what the last completed window left (08 R206, Table 8.8). A loop without a set-point in it
has no SP to report: it is free. The winner of a
feeder's output reports the value released, to the nearest 0.01 % (08 R201, 09 R218). -/
def loopStateData (s : State) (l : LoopCfg) : List Byte :=
  let r := loopRt s l.idx
  let f := s.fresh
  let won := decide (r.modeCode = 1)
  let u := if won then releasedY s l.output else r.u
  let sp := r.spWin.getD (Config.freeInt f)
  let lim : Int := 2147483647
  le 1 (if loopRuns s l then r.modeCode else 0) ++ le 3 0 ++ leInt 4 sp ++ leInt 4 (roundBy (f + 1) (mkRat r.pv 4294967296)) ++
    leInt 4 (if won && decide (l.output < 8) then Int.ofNat (releasedLevel s l.output) else roundBy (f + 2) (mkRat u 10000000)) ++
    leInt 4 (clampInt (roundBy (f + 3) (mkRat r.integ 10000000)) (-lim) lim) ++ le 4 (roundBy (f + 4) (mkRat r.satTicks 8)).toNat ++ le 4 r.lflags.toNat

/-- Command 0x0306, loop state (08 R206). -/
def execLoopState (r : Req) (p : LoopStateP) (s : State) : Result :=
  .next (gmp s r { cmd := 0x0306, len := 4, fields := [(0x10, loopRef s.cfg p.loop)] } fun _ s =>
    match cfgLoopOf s.cfg (refIndex p.loop) with
    | none => (s, badField 0x10)
    | some l => ({ s with fresh := s.fresh + 5 }, okWith (loopStateData s l)))

/-! Talon traces (08 R210 to R212) -/

/-- A trace. -/
def traceOf (s : State) (cp n : Nat) : Trace := (s.ctl.traces.getD cp []).getD n Trace.reset

/-- Updates a trace. -/
def State.onTrace (s : State) (cp n : Nat) (f : Trace → Trace) : State :=
  s.mapCtl fun c => { c with traces := updAt c.traces cp fun l => updAt l n f }

/-- An SRC of 08 Table 8.10. -/
def signalOk (v : Nat) : Bool := (decide (1 ≤ v) && decide (v ≤ 0x0C)) || (decide (0x8001 ≤ v) && sourceOk (v - 0x8000))

/-- Field checks of 0x0307 (08 R210, R211). -/
def traceChecks (s : State) (p : ConfigureTalonTraceP) : List (Nat × Bool) :=
  let seated := (cfgLoopOf s.cfg (refIndex p.loop)).any fun l => seatAt s l.output == some p.cp.toNat
  [(0x10, (slicePairs s).contains p.cp.toNat), (0x11, decide (p.trace.toNat < 8)), (0x12, signalOk p.src.toNat),
   (0x14, decide (0x8000 ≤ p.src.toNat) || (refClass p.loop == 5 && seated)), (0x18, p.decim != 0),
   (0x1A, decide (p.trig.toNat ≤ 7) || p.trig == 0xFF), (0x1B, decide (p.pre.toNat ≤ 100))]

/-- Command 0x0307, configure talon trace: the trace stands idle and empty until it is armed (08 R210, log 34). -/
def execConfigureTalonTrace (r : Req) (p : ConfigureTalonTraceP) (s : State) : Result :=
  .next (gmp s r { cmd := 0x0307, len := 16, fields := traceChecks s p } fun _ s =>
    (s.onTrace p.cp.toNat p.trace.toNat fun _ => { Trace.reset with
      src := p.src.toNat
      loop := if 0x8000 ≤ p.src.toNat then 64 else refIndex p.loop
      decim := p.decim.toNat
      trig := p.trig.toNat
      pre := p.pre.toNat
      level := i32 p.level }, {}))

/-- Command 0x0308, arm talon: the traces of MASK start empty at the next tick (08 R211). -/
def execArmTalon (r : Req) (p : ArmTalonP) (s : State) : Result :=
  .next (gmp s r { cmd := 0x0308, len := 4, fields := [(0x10, (slicePairs s).contains p.cp.toNat), (0x12, p.rsv == 0)] } fun _ s =>
    (((List.range 8).filter fun n => p.mask.getLsbD n && (traceOf s p.cp.toNat n).src != 0).foldl (fun s n =>
      s.onTrace p.cp.toNat n fun t => { t with
        phase := 1
        armTick := s.now + 1
        mask := p.mask
        samples := []
        trigTick := 0
        after := 0
        swapped := false }) s, {}))

/-- Command 0x0309, read talon (08 R212). -/
def execReadTalon (r : Req) (p : ReadTalonP) (s : State) : Result :=
  .next (gmp s r { cmd := 0x0309, len := 16, fields := [(0x1A, p.prsv == 0), (0x1C, (slicePairs s).contains p.cp.toNat), (0x1D, decide (p.trace.toNat < 8)), (0x1E, p.rsv == 0)] } fun _ s =>
    let t := traceOf s p.cp.toNat p.trace.toNat
    if t.phase = 3 then (s, okWith (page p.cursor p.max (le 8 t.trigTick) (t.samples.reverse.mapIdx fun k v => (k, leInt 4 v))))
    else (s, okWith (page p.cursor p.max (le 8 0) [])))

/-- The pre-trigger count of a trace (08 R211). -/
def preCount (t : Trace) : Nat := 8192 * t.pre / 100

/-- A value saturated to a signed 32-bit sample (08 R210). -/
def sample32 (v : Int) : Int := clampInt v (-2147483648) 2147483647

/-- The sample of a trace at this release (08 R210, Table 8.10). -/
def traceSample (s : State) (t : Trace) (free : Nat) : Int :=
  if 0x8000 ≤ t.src then sample32 ((srcValue s.ctl.cib (t.src - 0x8000)).getD 0)
  else
    let r := loopRt s t.loop
    let out (v : Int) : Int := sample32 (roundBy free (mkRat v 100000))
    let pvUnit (v : Int) : Int := sample32 (roundBy free (mkRat v 4294967296))
    match cfgLoopOf s.cfg t.loop with
    | none => 0
    | some l =>
      match t.src with
      | 0x01 => sample32 ((setPointOf s l r).getD (Config.freeInt free))
      | 0x02 => sample32 r.x
      | 0x03 => pvUnit r.pv
      | 0x04 => pvUnit r.e
      | 0x05 => out r.p
      | 0x06 => out r.integ
      | 0x07 => out r.d
      | 0x08 => out r.ff
      | 0x09 => out r.v
      | 0x0A => out r.u
      | 0x0B => out (releasedY s l.output)
      | _ => (r.lflags.toInt)

/-- The winner of the output of a trace's loop. -/
def traceWinner (s : State) (t : Trace) : Nat :=
  match cfgLoopOf s.cfg t.loop with
  | some l => ((outRt s l.output).map (·.winIdx)).getD 64
  | none => 64

/-- The samples before a trigger sample: the newest of the pre-trigger count. A trace that follows another may hold fewer:
those it never took are free (log 185). -/
def preSamples (t : Trace) (free : Nat) : List Int :=
  let l := t.samples.take (preCount t)
  l ++ (List.range (preCount t - l.length)).map fun i => Config.freeInt (free + i)

/-- A trace's own trigger fires on a sample (08 Table 8.11). -/
def fires (s : State) (t : Trace) (v : Int) : Bool :=
  let r := loopRt s t.loop
  let up := match t.samples with | [] => false | a :: _ => decide (a < t.level) && decide (t.level ≤ v)
  let dn := match t.samples with | [] => false | a :: _ => decide (t.level < a) && decide (v ≤ t.level)
  match t.trig with
  | 0x00 => true
  | 0x01 => up
  | 0x02 => dn
  | 0x03 => up || dn
  | 0x04 => !t.samples.isEmpty && traceWinner s t != t.lastWin
  | 0x05 => decide (t.loop < 64) && decide (((cfgLoopOf s.cfg t.loop).map satLimit).getD 0 ≤ r.satTicks) && decide (0 < r.satTicks) && !t.lastExp
  | 0x06 => !t.samples.isEmpty && r.excluded != t.lastExcl
  | 0x07 => t.swapped
  | _ => false

/-- The lowest-numbered trace in the same MASK with a trigger of its own (08 R211). -/
def leaderOf (l : List Trace) (t : Trace) : Option Nat :=
  (List.range 8).find? fun n => t.mask.getLsbD n && (l.getD n Trace.reset).trig != 0xFF && (l.getD n Trace.reset).src != 0

/-- A trace with its sample of this tick, `hit` when that is its trigger sample (08 R211). -/
def traceTake (s : State) (t : Trace) (v : Int) (hit : Bool) (free : Nat) : Trace :=
  let r := loopRt s t.loop
  let seen := { t with
    lastWin := traceWinner s t
    lastExcl := r.excluded
    lastExp := decide (((cfgLoopOf s.cfg t.loop).map satLimit).getD 0 ≤ r.satTicks) && decide (0 < r.satTicks)
    swapped := false }
  if t.phase = 2 then
    let l := v :: t.samples
    { seen with samples := l, phase := if 8192 ≤ l.length then 3 else 2 }
  else if hit then
    let old := preSamples t free
    let l := if 8192 ≤ old.length then old else v :: old
    { seen with samples := l, trigTick := s.clk.tick, phase := if 8192 ≤ l.length then 3 else 2 }
  else { seen with samples := (v :: t.samples).take (max 1 (preCount t)) }

/-- A trace is at work: configured, armed and not stopped (08 R211). -/
def traceRuns (s : State) (t : Trace) : Bool :=
  t.src != 0 && (t.phase == 1 || t.phase == 2) && decide (t.armTick ≤ s.now)

/-- A trace records in this tick (08 R210, R211). -/
def traceRecords (s : State) (t : Trace) : Bool := traceRuns s t && s.clk.tick % (max 1 t.decim) == 0

/-- The talon of one pair in this tick: traces with their own trigger first, then those that follow. A trace that follows
takes its trigger sample in the tick of its leader's, whatever its DECIM and however full it is (08 R211). -/
def talonStep (s : State) (cp : Nat) (l : List Trace) : List Trace :=
  let v (n : Nat) (t : Trace) : Int := traceSample s t (s.fresh + 8 * cp + n)
  let free (n : Nat) : Nat := s.fresh + 32 + 8192 * (8 * cp + n)
  let own := l.mapIdx fun n t =>
    if traceRecords s t && t.trig != 0xFF then
      traceTake s t (v n t) (fires s t (v n t) && decide (preCount t ≤ t.samples.length)) (free n)
    else t
  own.mapIdx fun n t =>
    let hit := (leaderOf own t).any fun k => (l.getD k Trace.reset).phase == 1 && decide (2 ≤ (own.getD k Trace.reset).phase)
    if t.trig == 0xFF && traceRuns s t && (traceRecords s t || (hit && t.phase == 1)) then traceTake s t (v n t) hit (free n)
    else t

/-- The talons at a release (08 R210). -/
def talon (s : State) : State :=
  let one (cp : Nat) (l : List Trace) : List Trace := if (slicePairs s).contains cp then talonStep s cp l else l
  { s with fresh := s.fresh + 32 + 32 * 8192 }.mapCtl fun c => { c with traces := c.traces.mapIdx one }

/-- A trace loses its contents and its configuration, with an event (08 R212). -/
def loseTrace (s : State) (cp n cause : Nat) : State :=
  if (traceOf s cp n).src = 0 then s
  else (s.onTrace cp n fun _ => Trace.reset).event 0x0303 (le 1 cp ++ le 1 n ++ le 1 cause ++ le 1 0)

/-- Traces whose loop is gone, whose loop sits on another pair, or whose pair is retired (08 R212). -/
def dropTraces (s : State) : State :=
  (List.range 4).foldl (fun s cp => (List.range 8).foldl (fun s n =>
    let t := traceOf s cp n
    if t.src = 0 then s
    else if !(slicePairs s).contains cp then loseTrace s cp n 3
    else if t.loop = 64 then s
    else match cfgLoopOf s.cfg t.loop with
      | none => loseTrace s cp n 1
      | some l => if seatAt s l.output == some cp then s else loseTrace s cp n 2) s) s

end Sys2Proof.Machine
end

