-- ==== Sys2Proof/Machine/Outputs.lean ====
section
/-!
DEFINITION. Outputs (09): actuator links and their stages, contactors, field inputs, LED strings and the adaptive supply,
Sifichain, light sensors, test outputs and safe levels (06 R147), and the release of cycle 14,000.
-/

namespace Sys2Proof.Machine

open Sys2Proof

/-! Who may drive a joined output (02 R52) -/

/-- TCLK of the last poll: the present instant as far as a command read knows it. -/
def tclkNow (s : State) : Nat := s.clk.tclk + pollCycle s

/-- The presence rule of 02 R52; a lone module may always, a dealer never (02 Table 2.9). -/
def maySink (s : State) : Bool :=
  if s.sys.straps == 0b11#2 then true
  else if s.sys.straps == 0b10#2 then !(s.pair.roleOneAt.any fun t => decide (tclkNow s < t + 4800))
  else if s.sys.straps == 0b01#2 then !s.pair.hbi && decide (s.pair.lastEdge + 4800 ≤ tclkNow s)
  else false

/-- A test that 0x0409 holds (06 R147). -/
def testOf (s : State) (target index : Nat) : Option TestHold := s.sys.tests.find? fun t => t.target == target && t.index == index

/-! Stages (09 R213 to R227) -/

/-- The bits of a command frame, START to the logic 1 of bit time 63 before the driver's release (09 Table 9.1). -/
def actuatorBits (slot tick value : Nat) (claim : U32) : List Bool :=
  let body := bitsLsb 4 slot ++ bitsLsb 4 tick ++ bitsLsb 14 value ++ bitsLsb 32 claim.toNat
  false :: body ++ bitsMsb (crc8Bits body) ++ [true]

/-- The stage at a link and address in the configuration. -/
def stageCfg (c : Cfg) (link addr : Nat) : Option StageCfg := c.stages.find? fun x => x.link == link && x.addr == addr

/-- Updates a stage's runtime. -/
def State.onStage (s : State) (link addr : Nat) (f : StageRt → StageRt) : State :=
  s.mapOuts fun o => { o with stages := o.stages.map fun x => if x.link == link && x.addr == addr then f x else x }

/-- The present tick is the takeover tick of a dummy whose claim is raised (14 R376). -/
def inTakeover (s : State) : Bool := s.pair.deferTakeover && s.outs.takeoverTick.any fun t => decide (s.clk.tick ≤ t + 1)

/-- A frame is sent in a slot to a configured stage (09 R218, 01 Table 1.2); by a module in the dealer role never
(02 Table 2.9). -/
def frameSent (s : State) (c : StageCfg) : Bool :=
  let seat := (loopsOf s.cfg c.feeder).isEmpty || (seatAt s c.feeder).isSome
  if isDealer s then false
  else match s.sys.mode with
  | .declarer => seat
  | .commissioning => (testOf s 0 (16 * c.link + c.addr)).isSome
  | .dummy => seat && s.pair.deferTakeover && (match s.outs.takeoverTick with
    | some t => decide (t < s.clk.tick) || (t == s.clk.tick && decide (s.outs.k0 ≤ c.addr))
    | none => false)
  | _ => false

/-- VALUE of a frame without a store sequence (09 R218). -/
def frameValue (s : State) (c : StageCfg) : Nat :=
  match s.sys.mode, testOf s 0 (16 * c.link + c.addr) with
  | .commissioning, some t => t.value
  | _, _ => if (loopsOf s.cfg c.feeder).isEmpty then 0x3FFF else releasedLevel s c.feeder

/-- STAGE_SILENT (15 Table 15.13). -/
def silentEvent (s : State) (x : StageRt) (on : Bool) : State := s.event 0x0401 (le 1 x.link ++ le 1 x.addr ++ le 1 (bit on) ++ le 1 0)

/-- A frame whose reply is missing (09 R216, R227, Table 9.5). -/
def replyMissing (s : State) (x : StageRt) : State :=
  let run := x.silentRun + 1
  let now := !x.silent && decide (16 ≤ run)
  let s := s.onStage x.link x.addr fun x => { x with
    missing := min 65535 (x.missing + 1)
    silentRun := run
    silent := x.silent || now
    sent := none
    nibs := [] }
  if now then silentEvent s x true else s

/-- VALUE of the frame and the store sequence after it: STORE_ARM, then the level in the next tick; where that tick went by
without its frame the sequence begins again (09 R224). -/
def storeFrame (s : State) (x : StageRt) (plain : Nat) : Nat × Option StageStore :=
  match x.store with
  | none => (plain, none)
  | some t =>
    if s.sys.mode ≠ .declarer then (plain, some t)
    else if t.phase = 1 ∧ t.sentTick + 1 = s.now then (t.safe, some { t with phase := 2, runs := t.runs + 1, sentTick := s.now })
    else if t.phase ≤ 1 then (0x3FFE, some { t with phase := 1, sentTick := s.now })
    else (plain, some t)

/-- A module that starts sending to a stage again judges it afresh from its first frame: what earlier frames left to judge it
by is dropped (09 R217, R227). `at_` is the model clock tick of the tick that the frame belongs to. -/
def afresh (x : StageRt) (at_ : Nat) : StageRt :=
  if x.sentAt.any fun t => decide (at_ ≤ t + 1) then x else { x with silentRun := 0, nibs := [] }

/-- A frame goes out to a stage: with tick number `tick`, in the tick of model clock tick `at_` (09 R213, R218). -/
def sendStage (s : State) (link slot tick at_ v : Nat) (st : Option StageStore) : State :=
  let s := s.onStage link slot fun x => { afresh x at_ with sent := some tick, sentAt := some s.now, value := v, store := st, repAge := x.repAge + 1 }
  s.emit (.actuator link slot s.pair.claim v tick (actuatorBits slot tick v s.pair.claim))

/-- Row ACTUATOR_SLOT: slot `slot` of a link in the present tick (09 R218, R224, 04 R96). -/
def execActuatorSlot (link : Nat) (slot : Nat) (s : State) : Result :=
  .next (match stageCfg s.cfg link slot, stageRt s link slot with
    | some c, some x =>
      if !s.clk.running || !frameSent s c then s
      else
        let s := if x.sent.isSome then replyMissing s x else s
        let (v, st) := storeFrame s x (frameValue s c)
        sendStage s link slot s.clk.tick s.now v st
    | _, _ => s)

/-- The report that 16 nibbles give (09 Table 9.4). -/
def reportOf (nibs : List (BitVec 4)) : Report :=
  let v := (nibs.mapIdx fun i n => n.toNat * 16 ^ i).sum
  { held := BitVec.ofNat 32 v
    temp := (BitVec.ofNat 12 (v / 2 ^ 32)).toInt
    safe := v / 2 ^ 44 % 2 ^ 14
    atSafe := v.testBit 58
    holding := v.testBit 59
    fault := v / 2 ^ 60 % 4 }

/-- Finishes an operation unless a store, a sequence or another part of it is still open. -/
def finishIfDone (s : State) (t : Option OpTok) (p : Reply) : State :=
  match t with
  | none => s
  | some t => if opOpen s t then s else finishOp s t p

/-- A whole report: kept as valid, its fault compared, the store sequence ended or begun again (09 R217, R224, R227,
14 R365). -/
def reportIn (s : State) (x : StageRt) (r : Report) : State :=
  let fault := (x.report.map (·.fault)).getD 0
  let s := s.onStage x.link x.addr fun x => { x with report := some r, repAge := 0 }
  let s := s.mapPair fun p => { p with heldEpoch := max p.heldEpoch (r.held.toNat / 256) }
  let s := if r.fault = fault then s else s.event 0x0402 (le 1 x.link ++ le 1 x.addr ++ le 1 r.fault ++ le 1 0)
  match x.store with
  | some t =>
    if t.phase = 2 ∧ r.safe = t.safe then finishIfDone (s.onStage x.link x.addr fun x => { x with store := none }) t.tok {} else s
  | none =>
    match s.cfg.safes.find? (fun e => e.1 == 0 && e.2.1 == 16 * x.link + x.addr) with
    | none => s
    | some e =>
      if e.2.2 ≠ r.safe ∧ s.sys.mode = .declarer ∧ x.autoRound ≠ curRound s then
        s.onStage x.link x.addr fun x => { x with store := some { safe := e.2.2, phase := 0, runs := 0, sentTick := 0, tok := none }, autoRound := curRound s }
      else s

/-- The nibbles of the snapshot after the reply to the frame of tick number `tick`, sent for the tick of model clock tick
`at_`: nibble 0 begins a snapshot, and one of the tick after the last nibble's goes on with it (09 R217). -/
def joinNibs (x : StageRt) (tick at_ : Nat) (nib : BitVec 4) : List (BitVec 4) :=
  if tick % 16 = 0 then [nib] else if x.nibs.length = tick % 16 ∧ x.nibAt + 1 = at_ then x.nibs ++ [nib] else []

/-- A valid reply to the frame of tick number `tick`, which a frame of a takeover tick carries after that tick's end
(09 R216, R217, R227, Table 9.5). -/
def replyIn (s : State) (x : StageRt) (tick : Nat) (stat : BitVec 6) : State :=
  let at_ := if tick = s.clk.tick then s.now else s.now - 1
  let nibs := joinNibs x tick at_ (stat.extractLsb' 2 4)
  let outbid := stat.getLsbD 1
  let s := s.onStage x.link x.addr fun x => { x with
    nibs := if nibs.length = 16 then [] else nibs
    nibAt := at_
    lastTick := tick
    applied := stat.getLsbD 0
    outbid := outbid
    outbidTick := if outbid then some s.now else x.outbidTick
    refused := if stat.getLsbD 0 || inTakeover s then x.refused else min 65535 (x.refused + 1)
    silent := false
    silentRun := 0
    sent := none }
  let s := if x.silent then silentEvent s x false else s
  let s := if outbid && s.sys.mode == .declarer && !paired s then s.mapPair fun p => { p with staleRaise := true } else s
  if nibs.length = 16 then reportIn s x (reportOf nibs) else s

/-- The CRC4 of a reply is right (09 R214, Table 9.3). -/
def replyGood (f : StagePart) : Bool := f.start && crc4Bits (bitsLsb 6 f.stat.toNat) == f.crc

/-- Row STATUS_REPLY: what arrived in the reply interval of a slot (09 R216). -/
def execStatusReply (link : Nat) (slot : Nat) (f : StagePart) (s : State) : Result :=
  .next (match stageRt s link slot with
    | none => s
    | some x =>
      match x.sent with
      | none => s
      | some k => if x.sentAt ≠ some s.now then s else if replyGood f then replyIn s x k f.stat else replyMissing s x)

/-- Row STAGE_STORE_TIMEOUT: 32 ticks after the second frame without the new SAFE: a 0x040A has up to three runs; a sequence
that a report began runs once (09 R224). -/
def execStageStoreTimeout (link : Nat) (addr : Nat) (s : State) : Result :=
  .next (match stageRt s link addr with
    | none => s
    | some x =>
      match x.store with
      | none => s
      | some t =>
        if t.phase = 2 ∧ t.sentTick + 32 ≤ s.now then
          if t.runs < 3 ∧ t.tok.isSome then s.onStage link addr fun x => { x with store := some { t with phase := 0 } }
          else finishOpt (s.onStage link addr fun x => { x with store := none }) t.tok { status := stBusy, detail := 0xFA }
        else s)

/-- The stages, terminations and their runtime follow the configuration (09 R225). -/
def syncStages (s : State) : State :=
  s.mapOuts fun o => { o with
    term := s.cfg.term
    stages := s.cfg.stages.map fun c => (o.stages.find? fun x => x.link == c.link && x.addr == c.addr).getD { StageRt.reset with link := c.link, addr := c.addr } }

/-- Field checks of 0x0401 (09 R225, R232, 13 R340). -/
def stageChecks (p : ConfigureOutputStageP) : List (Nat × Bool) :=
  let l := p.link.toNat
  let a := p.addr.toNat
  let whole := l == 2 || a == 0xFF
  [(0x10, decide (l ≤ 2)), (0x11, if l = 2 then decide (a < 8) else decide (a < 16) || a == 0xFF),
   (0x12, if whole then p.feeder == 0 else decide (p.feeder.toNat < 8) || p.feeder == 0xFF),
   (0x13, if l = 2 then decide (p.mode.toNat ≤ 2) else if a = 0xFF then decide (p.mode.toNat ≤ 1) else decide (p.mode.toNat ≤ 7))]

/-- Command 0x0401 (09 R225). -/
def execConfigureOutputStage (r : Req) (p : ConfigureOutputStageP) (s : State) : Result :=
  .next (gmp s r { cmd := 0x0401, len := 4, fields := stageChecks p } fun t s => admitChange s t (.configureOutputStage r p))

/-- 0x0401 takes force: a new analogue mode makes the first tick's value invalid (09 R225, R232). -/
def forceStage (p : ConfigureOutputStageP) (s : State) : State :=
  if p.link = 2 then s.mapOuts fun o => { o with aiBad := updAt o.aiBad p.addr.toNat fun _ => true } else syncStages s

/-- Stage-status response data (09 Table 9.5). -/
def stageData (x : StageRt) : List Byte :=
  let r := x.report
  let flag (f : Report → Bool) : Nat := bit ((r.map f).getD false)
  let stat := bit x.applied + 2 * bit x.outbid + 4 * bit (r.isSome && decide (x.repAge ≤ 32)) + 8 * flag (·.atSafe) + 16 * flag (·.holding) +
    32 * ((r.map (·.fault)).getD 0) + 128 * bit x.silent + 256 * ((r.map (·.safe)).getD 0)
  le 4 ((r.map (·.held.toNat)).getD 0) ++ le 8 x.lastTick ++ le 4 stat ++ le 4 (x.missing + 65536 * x.refused)

/-- Command 0x0402, stage status (09 R226). -/
def execStageStatus (r : Req) (p : StageStatusP) (s : State) : Result :=
  .next (gmp s r { cmd := 0x0402, len := 4, fields := [(0x10, decide (p.link.toNat < 2)), (0x11, (stageCfg s.cfg p.link.toNat p.addr.toNat).isSome), (0x12, p.rsv == 0)] } fun _ s =>
    (s, okWith (stageData ((stageRt s p.link.toNat p.addr.toNat).getD StageRt.reset))))

/-! Contactors (09 R228 to R230) -/

/-- The claim gate (09 R229); a module in the dealer role never drives contactors (02 Table 2.9). -/
def gateOpen (s : State) : Bool :=
  s.sys.mode == .declarer && !isDealer s &&
    !(s.outs.stages.any fun x => match x.outbidTick with | some t => t + 1 == s.now || t + 2 == s.now | none => false) &&
    (!paired s || decide (s.pair.linkClaim.toNat < s.pair.claim.toNat))

/-- The dwell of a contactor in ticks (09 R230). -/
def dwellTicks : Nat := secs 10

/-- The dwell of a contactor is over. -/
def dwellOver (s : State) (c : Contactor) : Bool := match c.lastChange with | none => true | some t => decide (t + dwellTicks ≤ s.now)

/-- The state that a contactor's output takes at cycle 14,000 of this tick. In the first tick in DECLARER the state kept
is applied with no dwell, and the dwell counts from that tick whether or not the output changes (09 R229, R230, log 162). -/
def contactorStep (s : State) (n : Nat) (c : Contactor) : Contactor :=
  let off (c : Contactor) : Contactor := if c.on then { c with on := false, lastChange := some s.now } else c
  if s.sys.mode = .commissioning then
    match testOf s 4 n with
    | some t => { c with on := t.value != 0 && !c.tripped && !c.blocked && !isDealer s }
    | none => { c with on := false }
  else if !gateOpen s then off c
  else if c.blocked || c.tripped then { c with on := false }
  else if c.want = c.on then c
  else if c.want && decide (0 < c.trips) then { c with on := true }
  else if decide (c.due ≤ s.now) && (dwellOver s c || c.due == 0 && c.lastChange == some s.now) then { c with on := c.want, lastChange := some s.now }
  else c

/-- Contactor `n`. -/
def contactorOf (s : State) (n : Nat) : Contactor := s.outs.contactors.getD n Contactor.reset

/-- Updates a contactor. -/
def State.onContactor (s : State) (n : Nat) (f : Contactor → Contactor) : State :=
  s.mapOuts fun o => { o with contactors := updAt o.contactors n f }

/-- VCT can energise a contactor: it is absent below 15 V, the threshold of its event (02 R43, log 163). -/
def vctThere (s : State) : Bool := decide (15000 ≤ s.pow.vctMv)

/-- Contactor `n` is energised: its driver is on, and VCT is there to draw from (02 R43). -/
def energised (s : State) (n : Nat) : Bool := (contactorOf s n).on && vctThere s

/-- An output on while VCT is below 15 V is recorded, once while that lasts (02 R43, log 163). -/
def vctNote (s : State) (n : Nat) : State :=
  let c := contactorOf s n
  let low := c.on && !vctThere s
  let t := s.onContactor n fun c => { c with vctLow := low }
  if low && !c.vctLow then t.event 0x010E (le 1 n ++ le 1 0 ++ le 2 s.pow.vctMv) else t

/-- The contactors at cycle 14,000 (04 Table 4.2). -/
def contactorRelease (s : State) : State :=
  (List.range 8).foldl vctNote (s.mapOuts fun o => { o with contactors := o.contactors.mapIdx fun n c => contactorStep s n c })

/-- A commanded state read now: it may take force from the next tick (09 R230, log 36). -/
def commandContactor (s : State) (n : Nat) (on : Bool) : State :=
  s.onContactor n fun c => { c with want := on, due := s.now + 1, trips := 0, tripped := false, blocked := false }

/-- The tick whose cycle 14,000 changes the output for a command read now (09 R230). -/
def contactorTick (s : State) (c : Contactor) : Nat :=
  match c.lastChange with
  | none => s.clk.tick + 1
  | some t => s.clk.tick + max 1 (t + dwellTicks - s.now)

/-- What 0x0403 does (09 R230). -/
def effContactor (p : ContactorP) (s : State) : State × Reply :=
  let s := commandContactor s p.ct.toNat (p.on == 1)
  (s, okWith (le 8 (contactorTick s (contactorOf s p.ct.toNat))))

/-- Command 0x0403, contactor (09 R228, R230, 13 R339). -/
def execContactor (r : Req) (p : ContactorP) (s : State) : Result :=
  .next (gmp s r { cmd := 0x0403, len := 4, fields := [(0x10, decide (p.ct.toNat < 8) && (groupOf s.cfg (0xF008 + p.ct.toNat)).isNone), (0x11, decide (p.on.toNat ≤ 1)), (0x12, p.rsv == 0)] } fun _ s =>
    passOn (.contactor r p) (effContactor p s))

/-- Row CONTACTOR_DWELL_END: the dwell no longer holds the output (09 R230). -/
def execContactorDwellEnd (ct : Nat) (s : State) : Result :=
  .next (s.onContactor ct fun c => if dwellOver s c then { c with lastChange := none } else c)

/-- Row CONTACTOR_TRIP: a short circuit switches an energised output off (02 Table 2.10, 09 R230). -/
def execContactorTrip (ct : Nat) (s : State) : Result :=
  .next (
    let c := contactorOf s ct
    if !c.on || 8 ≤ ct then s
    else
      let n := c.trips + 1
      let s := s.onContactor ct fun c => { c with on := false, trips := n, tripped := true, blocked := c.blocked || decide (8 ≤ n) }
      let s := s.event 0x0404 (le 1 ct ++ le 1 1 ++ le 1 n ++ le 1 0)
      if 8 ≤ n ∧ !c.blocked then s.event 0x0404 (le 1 ct ++ le 1 3 ++ le 1 n ++ le 1 0) else s)

/-- The one retry of a round, or the end of a run of trips (09 R230). -/
def contactorRetry (s : State) : State :=
  s.mapOuts fun o => { o with contactors := o.contactors.map fun c => if c.blocked then c else if c.tripped then { c with tripped := false } else { c with trips := 0 } }

/-- Open loads seen at a sample, each recorded once while it lasts (02 Table 2.10). -/
def openLoads (s : State) (v : U8) : State :=
  (List.range 8).foldl (fun s n =>
    let c := contactorOf s n
    let bad := c.on && v.getLsbD n
    let s' := s.onContactor n fun c => { c with openLoad := bad }
    if bad && !c.openLoad then s'.event 0x0404 (le 1 n ++ le 1 2 ++ le 1 0 ++ le 1 0) else s') s

/-! Inputs (09 R231) -/

/-- Command 0x0408, inputs (06 Table 6.10). -/
def execInputs (r : Req) (s : State) : Result :=
  .next (gmp s r { cmd := 0x0408, len := 0 } fun _ s =>
    (s, okWith (le 8 s.clk.tick ++ le 2 s.outs.di.toNat ++ le 2 0 ++ (s.outs.ai.map fun v => leInt 4 v).flatten)))

/-! Strings (09 R233 to R243) -/

/-- Updates a string. -/
def State.onString (s : State) (n : Nat) (f : StringRt → StringRt) : State :=
  s.mapOuts fun o => { o with strings := updAt o.strings n f }

/-- A string event (15 Table 15.13). -/
def stringEvent (s : State) (n flag : Nat) (set : Bool) : State :=
  s.event 0x0405 (le 1 n ++ le 1 flag ++ le 1 (bit set) ++ le 1 0 ++ le 2 (roundBy s.fresh (stringRt s n).currentMa).toNat)

/-- The configuration of a string. -/
def stringCfg (s : State) (n : Nat) : Option StringCfg := s.cfg.strings.find? fun c => c.ch == n && c.maxMa != 0

/-- The output that a string follows: its own, or its group's colour output (09 R249). -/
def stringOutput (s : State) (n : Nat) : Nat :=
  if s.cfg.chains.getD (n / 8) 0 = 0 ∧ s.cfg.loops.any (fun l => l.kind == 5 && l.output == 0x10 + n) then 0x10 + n else 0x30 + n

/-- The released value that a string follows, 10^-9 %: the higher of two that an adjacent short joins (09 R243). -/
def stringY (s : State) (n : Nat) : Int :=
  let own := releasedY s (stringOutput s n)
  let with_ (m : Nat) : Int := releasedY s (stringOutput s m)
  let up := if s.outs.adjPairs.contains n then max own (with_ (n + 1)) else own
  if 0 < n ∧ s.outs.adjPairs.contains (n - 1) then max up (with_ (n - 1)) else up

/-- What a string's sink is driven to, 10^-9 %; none while it is high-impedance (01 Table 1.7, 02 R52, 09 R238). A channel
whose entry in the MRAM table fails its CRC stays off (09 R236). -/
def stringDrive (s : State) (n : Nat) : Option Int :=
  let x := stringRt s n
  let safe := if x.tableOk then some (unit9 * x.tableSafe) else none
  if isDealer s || s.sys.failSilent || s.sys.inReset then none
  else match s.sys.mode with
    | .declarer => some (if x.tableOk then stringY s n else 0)
    | .commissioning => if !maySink s then none else match testOf s 1 n with | some t => some (unit9 * t.value) | none => safe
    | .boot => if maySink s then safe else none
    | .quarantine => if maySink s then safe else none
    | .update => if maySink s then safe else none
    | .failLit => if maySink s then safe else none
    | _ => none

/-- The duty code of a value (09 R234). -/
def dutyOf (y : Int) : Nat :=
  let d := (roundDiv (y * 65535) 100000000000).toNat
  if d = 0 then 0 else max 40 d

/-- The adaptive supply's pins: driven only in DECLARER (09 R239). -/
def ascRelease (s : State) : State :=
  if s.sys.mode = .declarer then s.mapOuts fun o => { o with ascCtl := some (releasedLevel s 0x20), ascInh := some !(s.cfg.strings.any fun c => c.maxMa != 0) }
  else s.mapOuts fun o => { o with ascCtl := none, ascInh := none }

/-- Dissipation of a sink at a current, µW; 0 without a headroom (09 R237). -/
def sinkUw (s : State) (n : Nat) (ma : Rat) : Rat :=
  let x := stringRt s n
  ma * (x.headroom.getD 0) * x.duty / 65535

/-- The level to which the highest dissipators are brought together: `left` shared by the entries from the highest,
each lower entry keeping its own (09 R237). -/
def fillLevel : List Rat → Rat → Rat
  | [], left => left
  | p :: r, left => if p * (r.length + 1) ≤ left then fillLevel r (left - p) else left / (r.length + 1)

/-- Values in ascending order. -/
def ascending (l : List Rat) : List Rat := l.foldl (fun a x => a.filter (fun y => decide (y ≤ x)) ++ x :: a.filter (fun y => decide (x < y))) []

/-- The limit of each sink, µW (09 R237). -/
def sinkLimit (ps : List Rat) : Rat :=
  let one := ps.map fun p => if 1500000 < p then 1500000 else p
  if one.sum ≤ 6000000 then 1500000 else min 1500000 (fillLevel (ascending one) 6000000)

/-- The currents that the limits allow of wanted currents (09 R237). -/
def limited (s : State) (want : List Rat) : List Rat :=
  let ps := want.mapIdx fun n w => sinkUw s n w
  let lim := sinkLimit ps
  want.mapIdx fun n w => if lim < ps.getD n 0 then w * lim / ps.getD n 0 else w

/-- Derating in one period: a reduced channel rises by 5 % of MAX_MA where the estimate allows (09 R237). -/
def derate (s : State) : State :=
  let maxMa (n : Nat) : Rat := ((stringRt s n).tableMa : Rat)
  let want := (List.range 16).map fun n =>
    let x := stringRt s n
    if x.derated then min (maxMa n) (x.currentMa + maxMa n / 20) else maxMa n
  let got := limited s want
  (List.range 16).foldl (fun s n =>
    let x := stringRt s n
    let w := want.getD n 0
    let g := got.getD n 0
    let c := if g = w then w else if x.derated then min x.currentMa g else g
    let d := decide (c < maxMa n)
    let s := s.onString n fun x => { x with currentMa := c, derated := d }
    if d = x.derated then s else stringEvent s n 1 d) s

/-- One window of a string: a pulse or probe of at least 4 µs with its current and pin voltage (09 R240 to R242). -/
def windowIn (s : State) (n : Nat) (c : StringCfg) (ma mv : Nat) : State :=
  let x := stringRt s n
  let fail := decide (2 * ma < c.maxMa)
  let failRun := if fail then x.failRun + 1 else 0
  let goodRun := if fail then 0 else x.goodRun + 1
  let op := if 3 ≤ failRun then true else if 3 ≤ goodRun then false else x.open_
  let hit := if x.short then decide (2 * mv < c.vfMax + 1400) else decide (c.vfMax + 1400 < 2 * mv)
  let run := if hit then x.shortRun + 1 else 0
  let sh := if 3 ≤ run then !x.short else x.short
  let s := s.onString n fun x => { x with
    failRun := failRun
    goodRun := goodRun
    open_ := op
    short := sh
    shortRun := if 3 ≤ run then 0 else run
    headroom := some mv
    headAt := s.now }
  let s := if op = x.open_ then s else stringEvent s n 2 op
  if sh = x.short then s else stringEvent s n 3 sh

/-- The duty of a string from this period on (09 R234, R238, R242). -/
def startDuty (s : State) (n : Nat) (x : StringRt) : StringRt :=
  let d := match stringDrive s n with
    | none => 0
    | some y => if x.tableMa = 0 ∨ !x.tableOk then 0 else if s.sys.mode = .declarer then x.dutyNext else dutyOf y
  let low := decide (1 ≤ d) && decide (d ≤ 314)
  { x with duty := d, lowSince := if low then some (x.lowSince.getD s.now) else none }

/-- Row PWM_PERIOD: a period starts; what its pulses showed is judged (09 R234, R237, R240 to R242). -/
def execPwmPeriod (e : PwmEnv) (s : State) : Result :=
  .next (
    if s.sys.mode = .off || s.sys.mode = .standby then s
    else
      let s := s.mapOuts fun o => { o with strings := o.strings.mapIdx fun n x => startDuty s n x, sinksOn := (List.range 16).any fun n => (stringDrive s n).isSome }
      let s := derate s
      (List.range 16).foldl (fun s n =>
        match stringCfg s n with
        | none => s
        | some c => if 315 ≤ (stringRt s n).duty then windowIn s n c (e.currents.getD n 0) (e.sinkMv.getD n 0) else s) s)

/-- The probe interval of a string in ticks (09 R233). -/
def probeTicks (c : StringCfg) : Nat := secs (if c.probe = 0 then 10 else c.probe)

/-- Row PROBE_PULSE: a string at low duty for longer than PROBE gets a probe pulse (09 R242). -/
def execProbePulse (ch : Nat) (ma : Nat) (sinkMv : Nat) (s : State) : Result :=
  .next (match stringCfg s ch, (stringRt s ch).lowSince with
    | some c, some t =>
      if t + probeTicks c ≤ s.now then windowIn (s.onString ch fun x => { x with lowSince := some s.now }) ch c ma sinkMv else s
    | _, _ => s)

/-- Row ADJ_SHORT_TEST: at the first round in DECLARER and every 3,600 rounds; `shorts` holds each n whose test with n + 1
found a fall of more than 50 % (09 R243). The flag stands until a reset (log 37). -/
def execAdjShortTest (shorts : List Nat) (s : State) : Result :=
  .next (if s.sys.mode ≠ .declarer || s.outs.adjRound < 3600 then s
    else
      let s := s.mapOuts fun o => { o with adjRound := 0 }
      (shorts.filter fun n => decide (n < 15) && (stringCfg s n).isSome && (stringCfg s (n + 1)).isSome).foldl (fun s n =>
        let s := s.mapOuts fun o => { o with adjPairs := if o.adjPairs.contains n then o.adjPairs else n :: o.adjPairs }
        [n, n + 1].foldl (fun s m =>
          if (stringRt s m).adj then s else stringEvent (s.onString m fun x => { x with adj := true }) m 4 true) s) s)

/-- Row SUPPLY_FAULT: ASC_FLT_N held low for 1 ms, or high again (09 R240). -/
def execSupplyFault (low : Bool) (s : State) : Result :=
  .next ((List.range 16).foldl (fun s n =>
    if (stringRt s n).supplyFault = low then s
    else
      let s := s.onString n fun x => { x with supplyFault := low }
      if (stringCfg s n).isSome then stringEvent s n 5 low else s) s)

/-- Field checks of 0x0404 (09 R233). -/
def stringChecks (p : ConfigureStringP) : List (Nat × Bool) :=
  [(0x10, decide (p.ch.toNat < 16)), (0x11, p.rsv == 0), (0x12, decide (p.maxMa.toNat ≤ 500)),
   (0x14, decide (1000 ≤ p.vfMax.toNat) && decide (p.vfMax.toNat ≤ 60000)), (0x16, decide (p.probe.toNat ≤ 3600))]

/-- Command 0x0404, configure string (09 R233). -/
def execConfigureString (r : Req) (p : ConfigureStringP) (s : State) : Result :=
  .next (gmp s r { cmd := 0x0404, len := 8, fields := stringChecks p } fun t s => admitChange s t (.configureString r p))

/-- 0x0404 takes force: the MRAM table, and the commanded level at the stored safe level (09 R235, R236). -/
def forceString (p : ConfigureStringP) (s : State) : State :=
  s.onString p.ch.toNat fun x => { x with
    tableMa := p.maxMa.toNat
    tableOk := true
    currentMa := p.maxMa.toNat
    derated := false
    set := false
    fadeLeft := 0
    level := x.tableSafe
    target := x.tableSafe }

/-- A string's level moves to LEVEL over FADE x 0.1 s, tick by tick from the next tick (09 R235). -/
def fadeTo (x : StringRt) (level fade : Nat) : StringRt :=
  let n := max 1 (800 * fade)
  { x with target := level, fadeLeft := n, stepPer := ((level : Rat) - x.level) / n, set := true }

/-- One tick of a string's fade. -/
def fadeStep (x : StringRt) : StringRt :=
  match x.fadeLeft with
  | 0 => x
  | 1 => { x with level := x.target, fadeLeft := 0 }
  | n + 1 => { x with level := x.level + x.stepPer, fadeLeft := n }

/-- What 0x0405 does (09 R235). -/
def effStringLevel (p : StringLevelP) (s : State) : State × Reply :=
  (s.onString p.ch.toNat fun x => fadeTo x p.level.toNat p.fade.toNat, okWith (le 8 (s.clk.tick + 1)))

/-- Command 0x0405, string level (09 R235). -/
def execStringLevel (r : Req) (p : StringLevelP) (s : State) : Result :=
  .next (gmp s r { cmd := 0x0405, len := 8, fields := [(0x10, decide (p.ch.toNat < 16)), (0x11, p.rsv == 0), (0x12, decide (p.level.toNat ≤ 10000)), (0x16, p.rsv2 == 0)] } fun _ s =>
    passOn (.stringLevel r p) (effStringLevel p s))

/-! Sifichain (09 R244 to R250) -/

/-- Chain port `n`. -/
def chainRt (s : State) (n : Nat) : ChainRt := s.outs.chains.getD n ChainRt.reset

/-- Updates a chain port. -/
def State.onChain (s : State) (n : Nat) (f : ChainRt → ChainRt) : State := s.mapOuts fun o => { o with chains := updAt o.chains n f }

/-- EXPECT of a port. -/
def expectOf (s : State) (n : Nat) : Nat := s.cfg.chains.getD n 0

/-- A level in 0.01 % as a channel level in 1/65,535 (09 R245). -/
def level16 (v : Nat) : U16 := BitVec.ofNat 16 (roundDiv (v * 65535) 10000).toNat

/-- Channel `c` of a device in group `g`: the host level, trimmed by the colour loop where there is one (09 R250). -/
def deviceLevel (s : State) (g c : Nat) (host : U16) : U16 :=
  let o := 0x10 + 4 * g + c
  if s.cfg.loops.any (fun l => l.kind == 5 && l.output == o) then
    BitVec.ofNat 16 (roundDiv (host.toNat * releasedY s o) 100000000000).toNat
  else host

/-- The block of a position: output, store (09 R248), or hold where nothing is to be driven (01 Table 1.7); in an
enumeration frame `en` every position has its present levels. -/
def chainBlock (s : State) (port : Nat) (en : Bool) (pos : Nat) : Nat × List U16 :=
  let host := (chainRt s port).levels.getD pos []
  match s.outs.chainStores.find? (fun x => x.port == port && x.pos == pos) with
  | some x => (1, List.replicate 4 (level16 x.safe))
  | none =>
    if s.sys.mode = .commissioning then
      match testOf s 2 (512 * port + pos) with
      | some t => (0, List.replicate 4 (level16 t.value))
      | none => if en then (0, (List.range 4).map fun c => host.getD c 0) else (2, [0, 0, 0, 0])
    else (0, (List.range 4).map fun c => deviceLevel s (2 * port + pos / 256) c (host.getD c 0))

/-- A port drives frames in this tick: in DECLARER, configured or enumerating; in COMMISSIONING under a test that the
presence rule lets drive, and in a lone module also for an enumeration or for store blocks, while SCn_DO of one of a pair is
otherwise high-impedance there (09 R247, R248, 02 R52, log 179). A module in the dealer role never drives it (02 Table 2.9). -/
def chainDrives (s : State) (port : Nat) : Bool :=
  let enum := (chainRt s port).enum.isSome
  let test := s.sys.tests.any fun t => t.target == 2 && t.index / 512 == port
  match s.sys.mode with
  | .declarer => !isDealer s && (decide (0 < expectOf s port) || enum)
  | .commissioning => maySink s && (test || !paired s && (enum || s.outs.chainStores.any fun c => c.port == port))
  | _ => false

/-- The bytes of a block: 8 data bytes, channel 0 first, little-endian, then the CRC-8 over them, whose initial value makes it
an output block (0x00) or a store block (0xFF) (09 R245). -/
def blockBytes (init : BitVec 8) (data : List Byte) : List Byte :=
  data ++ [crc8From init (data.flatMap bitsMsb)]

/-- A CRC byte that neither initial value gives, which of them is free (09 R245, R247). -/
def otherCrc (n : Nat) (data : List Byte) : Byte :=
  let bits := data.flatMap bitsMsb
  let free := (List.range 256).filter fun k => BitVec.ofNat 8 k != crc8From 0x00#8 bits && BitVec.ofNat 8 k != crc8From 0xFF#8 bits
  BitVec.ofNat 8 (free.getD (Config.chainCrc n % free.length) 0)

/-- A hold block over data (09 R245). -/
def holdBytes (n : Nat) (data : List Byte) : List Byte := data ++ [otherCrc n data]

/-- The bytes of a block of a frame. -/
def chainBytes (n : Nat) (b : Nat × List U16) : List Byte :=
  let data := b.2.flatMap fun v => le 2 v.toNat
  match b.1 with
  | 0 => blockBytes 0x00#8 data
  | 1 => blockBytes 0xFF#8 data
  | _ => holdBytes n data

/-- The waveform of a frame on SCn_DO: levels with their lengths in TCLK of 5 ns. The marker is low from cycle 14,064 to the
first data bit at 18,064; a bit lasts 500 ns, high for 125 ns or 375 ns, and a byte goes out most significant bit first
(09 R244, Table 9.6, 04 Table 4.3). -/
def chainWave (bytes : List Byte) : List (Bool × Nat) :=
  (false, 4000) :: (bytes.flatMap bitsMsb).flatMap fun b => if b then [(true, 75), (false, 25)] else [(true, 25), (false, 75)]

/-- One frame of a port (09 R247, R248): of 513 blocks with its tail when it enumerates. -/
def chainFrame (s : State) (port : Nat) : State :=
  if !chainDrives s port then s
  else
    let x := chainRt s port
    let e := expectOf s port
    let en := x.enum.isSome && !x.enumSent && !(paired s && s.sys.mode == .commissioning)
    let blocks := (List.range e).map (chainBlock s port en)
    let blocks := if en then blocks ++ List.replicate (512 - e) (2, [0, 0, 0, 0]) else blocks
    let s := s.onChain port fun x => { x with frames := x.frames + 1, sent := true, sentBlocks := blocks.length + 1, enumSent := x.enumSent || en }
    let s := s.bump.emit (.chain port blocks x.frames (blocks.flatMap (chainBytes s.fresh) ++ holdBytes s.fresh (le 8 x.frames.toNat)))
    let mine (c : ChainStore) : Bool := c.port == port && decide (c.pos < e)
    let done := s.outs.chainStores.filter fun c => mine c && c.left == 1
    let s := s.mapOuts fun o => { o with
      chainStores := (o.chainStores.filter fun c => !(mine c && c.left == 1)).map fun c => if mine c then { c with left := c.left - 1 } else c }
    done.foldl (fun s c => finishIfDone s c.tok {}) s

/-- Row SIFICHAIN_FRAME: every 160 ticks a frame starts on each configured port (09 R247). -/
def execSifichainFrame (s : State) : Result :=
  .next (if s.clk.running && s.clk.tick % 160 == 0 then chainFrame (chainFrame s 0) 1 else s)

/-- The event of a chain flag (15 Table 15.13). -/
def chainEvent (s : State) (port flag missing : Nat) : State := s.event 0x0406 (le 1 port ++ le 1 flag ++ le 2 missing)

/-- Notice data of 0x0406 (06 Table 6.10). -/
def foundData (n : Nat) : List Byte := le 2 n ++ le 2 0

/-- The return of an enumeration frame: FOUND is 513 minus the blocks returned (09 R248). -/
def enumReturn (s : State) (port : Nat) (r : ChainRet) : State :=
  let n := 513 - (if r.lineLow then 0 else r.blocks + 1)
  let t := (chainRt s port).enum
  let s := s.onChain port fun x => { x with enum := none, enumSent := false, sent := false, found := some n }
  finishIfDone s t (okWith (foundData n))

/-- Row CHAIN_RETURN_CHECK (09 R247). -/
def execChainReturnCheck (port : Nat) (r : ChainRet) (s : State) : Result :=
  .next (
    let x := chainRt s port
    if !x.sent then s
    else if x.enum.isSome && x.enumSent then enumReturn s port r
    else
      let miss := if r.lineLow then 0 else r.blocks
      let fault := !r.lineLow && !r.crcOk
      let s := s.onChain port fun x => { x with sent := false, open_ := r.lineLow, missing := miss, fault := fault }
      let s := if r.lineLow && !x.open_ then chainEvent s port 1 0 else s
      let s := if miss ≠ 0 ∧ miss ≠ x.missing then chainEvent s port 2 miss else s
      if fault && !x.fault then chainEvent s port 3 miss else s)

/-- Command 0x0406, configure chain port (09 R248). -/
def execConfigureChainPort (r : Req) (p : ConfigureChainPortP) (s : State) : Result :=
  .next (gmp s r { cmd := 0x0406, len := 4, fields := [(0x10, decide (p.port.toNat < 2)), (0x11, decide (p.enum.toNat ≤ 1)), (0x12, decide (p.expect.toNat ≤ 512))] } fun t s =>
    admitChange s t (.configureChainPort r p))

/-- 0x0406 takes force: an enumeration is asked for (09 R248). -/
def forceChain (t : OpTok) (p : ConfigureChainPortP) (s : State) : State :=
  s.onChain p.port.toNat fun x => { x with enum := if p.enum = 1 then some t else x.enum, enumSent := false, found := none }

/-- The tick of the first frame that carries levels written now (09 R248, 04 Table 4.3). -/
def nextFrameTick (s : State) : Nat :=
  if s.clk.tick % 160 = 0 ∧ pollCycle s < 14064 then s.clk.tick else 160 * (s.clk.tick / 160 + 1)

/-- What 0x0407 does (09 R248). -/
def effChainOutputs (p : ChainOutputsP) (s : State) : State × Reply :=
  let f := p.first.toNat
  let new := p.items.map fun e => [e.l0, e.l1, e.l2, e.l3]
  (s.onChain p.port.toNat fun x => { x with levels := x.levels.mapIdx fun k l => if f ≤ k then new.getD (k - f) l else l },
    okWith (le 8 (nextFrameTick s)))

/-- Command 0x0407, chain outputs (09 R248). -/
def execChainOutputs (r : Req) (p : ChainOutputsP) (s : State) : Result :=
  .next (
    let n := p.n.toNat
    let f := p.first.toNat
    gmp s r { cmd := 0x0407, len := 8 + 8 * n, fields := [(0x10, decide (p.port.toNat < 2)), (0x11, p.rsv == 0), (0x12, decide (f < 512)), (0x14, decide (f + n ≤ 512)), (0x16, p.rsv2 == 0)] } fun _ s =>
      passOn (.chainOutputs r p) (effChainOutputs p s))

/-! Light sensors (09 R251) -/

/-- The module masters the light-sensor buses (02 Table 2.9, Table 2.11, R52). -/
def mastersLight (s : State) : Bool := (s.sys.mode == .declarer && !isDealer s) || (s.sys.mode == .commissioning && s.sys.straps == 0b11#2)

/-- Row LIGHT_SENSOR_READ: every 80 ticks both sensors of each bus are read; a new declarer frees the buses first
(09 R251, 02 Table 2.11). -/
def execLightSensorRead (s : State) : Result :=
  .next (if !s.clk.running || s.clk.tick % 80 ≠ 0 || !mastersLight s then s
    else
      let s := if s.outs.busFree then (List.range 4).foldl (fun s b => s.emit (.lightBus b true)) (s.mapOuts fun o => { o with busFree := false }) else s
      let s := (List.range 4).foldl (fun s b => s.emit (.lightBus b false)) s
      s.mapOuts fun o => { o with lights := o.lights.map fun x => { x with started := some s.now, got := none } })

/-- Row LIGHT_SENSOR_RESULT: a read completes or fails (09 R251). -/
def execLightSensorResult (sensor : Nat) (vals : Option (List Int)) (s : State) : Result :=
  .next (s.mapOuts fun o => { o with lights := updAt o.lights sensor fun x => if x.started.isSome then { x with got := vals } else x })

/-! Test outputs and safe levels (06 R147) -/

/-- The own or adopted record of a lantern by the index of its class 0x01 reference; the 16-bit INDEX of 0x0409 gives its low
bits, so that a node above 0xFFFF is out of its reach (06 R147, log 180). -/
def lanternOf (c : Cfg) (s : State) (i : Nat) : Option NodeRec :=
  (c.nodes ++ s.mesh.adopted).find? fun n => n.node == mkRef 0x01 i

/-- Field checks of 0x0409 (06 R147). VALUE of a contactor is 0 or 1 (log 38). -/
def testChecks (s : State) (p : TestOutputP) : List (Nat × Bool) :=
  let i := p.index.toNat
  let there := match p.target.toNat with
    | 0 => (stageCfg s.cfg (i / 16) (i % 16)).isSome
    | 1 => decide (i < 16)
    | 2 => decide (i < 1024) && decide (i % 512 < expectOf s (i / 512))
    | 3 => (lanternOf s.cfg s i).isSome
    | _ => decide (i < 8)
  [(0x10, decide (p.target.toNat ≤ 4)), (0x11, p.rsv == 0), (0x12, there),
   (0x14, decide (p.value.toNat ≤ (if p.target = 4 then 1 else 10000))), (0x16, decide (1 ≤ p.hold.toNat) && decide (p.hold.toNat ≤ 600))]

/-- Command 0x0409, test output (06 R147, 02 R52). -/
def execTestOutput (r : Req) (p : TestOutputP) (s : State) : Result :=
  .next (gmp s r { cmd := 0x0409, len := 8, fields := testChecks s p } fun _ s =>
    let t := p.target.toNat
    let i := p.index.toNat
    if (t = 1 ∨ t = 2) ∧ !maySink s then (s, { status := stBusy, detail := 0xFB })
    else
      let h : TestHold := { target := t, index := i, value := p.value.toNat, endsAt := s.now + secs p.hold.toNat }
      (s.mapSys fun y => { y with tests := h :: y.tests.filter fun x => !(x.target == t && x.index == i) }, {}))

/-- Row TEST_HOLD_EXPIRY (06 R147). -/
def execTestHoldExpiry (target : Nat) (index : Nat) (s : State) : Result :=
  .next (s.mapSys fun y => { y with tests := y.tests.filter fun x => !(x.target == target && x.index == index && decide (x.endsAt ≤ s.now)) })

/-- The lowest safe level of a target; none where it does not exist (06 R147, 09 R236, R248, 13 R340). -/
def targetFloor (c : Cfg) (s : State) (t i : Nat) : Option Nat :=
  match t with
  | 0 => if i < 32 then (stageCfg c (i / 16) (i % 16)).map fun x => safeFloor x.cls else none
  | 1 => if i < 16 then some 3000 else none
  | 2 => if i < 1024 ∧ i % 512 < c.chains.getD (i / 512) 0 then some 0 else none
  | 3 => (if refClass (BitVec.ofNat 32 i) = 1 then lanternOf c s (i % 0x1000000) else none).map fun n => safeFloor n.cls
  | _ => none

/-- Field checks of 0x040A (06 R147). -/
def safeChecks (s : State) (p : SafeLevelP) : List (Nat × Bool) :=
  let f := targetFloor (planned s) s p.target.toNat p.index.toNat
  [(0x10, decide (p.target.toNat ≤ 3)), (0x11, p.rsv == 0), (0x12, decide (p.safe.toNat ≤ 10000) && decide (f.getD 0 ≤ p.safe.toNat)), (0x14, f.isSome)]

/-- Command 0x040A, safe level (06 R147). -/
def execSafeLevel (r : Req) (p : SafeLevelP) (s : State) : Result :=
  .next (gmp s r { cmd := 0x040A, len := 8, fields := safeChecks s p } fun t s => admitChange s t (.safeLevel r p))

/-- 0x040A takes force for a stage, a string or a chain device (09 R224, R236, R248). -/
def forceSafe (t : OpTok) (p : SafeLevelP) (s : State) : State :=
  let i := p.index.toNat
  let v := p.safe.toNat
  match p.target.toNat with
  | 0 => s.onStage (i / 16) (i % 16) fun x => { x with store := some { safe := v, phase := 0, runs := 0, sentTick := 0, tok := some t } }
  | 1 => s.onString i fun x => { x with tableSafe := v, level := if x.set then x.level else v, target := if x.set then x.target else v }
  | 2 => s.mapOuts fun o => { o with chainStores := o.chainStores ++ [{ port := i / 512, pos := i % 512, safe := v, left := 3, tok := some t }] }
  | _ => s

/-! The release of cycle 14,000 (04 Table 4.2, R94) -/

/-- The caps read at the last tick of a round (08 R202). -/
def readCaps (s : State) : State :=
  if tickInRound s = 7999 then s.mapCtl fun c => { c with capsC := (List.range 8).map fun f => releasedLevel s f } else s

/-- The sinks' next duty codes (04 Table 4.3, 09 R234). -/
def sinkRelease (s : State) : State :=
  s.mapOuts fun o => { o with strings := o.strings.mapIdx fun n x => { x with dutyNext := dutyOf (stringY s n) } }

/-- Row OUTPUT_RELEASE: the control windows' results are released (04 R94, Table 4.2, 08 R191 to R212, 09). -/
def execOutputRelease (s : State) : Result :=
  .next (if !s.clk.running then s
    else talon (contactorRelease (ascRelease (sinkRelease (readCaps (controlWindow s))))))

end Sys2Proof.Machine
end

