-- ==== Sys2Proof/Machine/Schedules.lean ====
section
/-!
DEFINITION. Groups, overrides, schedules and the light wave (13): the rule that forms a level for a round, the commands
that feed it, edge actions with their ledger, and traffic events.
-/

namespace Sys2Proof.Machine

open Sys2Proof

/-! The tiers of a level (13 R342) -/

/-- What supplies a level: the fade or fades that go with it (13 R342 to R346). -/
inductive Source where
  | dflt
  | sched (fade : Nat)
  | wave (up down : Nat)
  | ovr (fade : Nat)
  | node (fade : Nat)
  deriving DecidableEq, Repr

/-- A level and what supplies it. -/
structure Res where
  level : Nat
  src : Source
  deriving DecidableEq, Repr

/-- Time is set: LOCK is not 0 (13 R357, 11 R319). -/
def timeSet (s : State) : Bool := s.eth.servo.lock != 0

/-- The round whose start is at a UTC second, 0 before round 0 (12 R331). -/
def roundOfUtc (s : State) (u : Int) : Nat := (u + s.eth.taiUtc + 946684800).toNat

/-- The higher level, the first of equals (13 R342). -/
def highest (l : List (Nat × Source)) : Option (Nat × Source) :=
  l.foldl (fun (b : Option (Nat × Source)) x =>
    match b with
    | none => some x
    | some y => if y.1 < x.1 then some x else b) none

/-- What a group's level comes from: its segment's schedules and zone rule, and whether overrides apply to it. -/
structure View where
  scheds : List Sched
  zone : Zone
  own : Bool
  deriving DecidableEq, Repr

/-- The module's own schedules. -/
def ownView (s : State) : View where
  scheds := s.cfg.scheds
  zone := s.cfg.zone
  own := true

/-- sched(n) of a group at round `m`: the highest PRIORITY that supplies a level, then the lowest index (13 R353, R357). -/
def groupSched (s : State) (v : View) (g m : Nat) : Option (Nat × Source) :=
  if !timeSet s then none
  else
    let u := utcOfRound s m
    (v.scheds.foldl (fun (b : Option (Nat × Nat × Nat)) c =>
      if c.group ≠ mkRef 3 g then b
      else match schedLevel v.zone c u with
        | none => b
        | some (lvl, fade) =>
          match b with
          | none => some (c.priority, lvl, fade)
          | some x => if x.1 < c.priority then some (c.priority, lvl, fade) else b) none).map fun x => (x.2.1, .sched x.2.2)

/-- A CLEAR_OVERRIDE step of a group's schedules runs after round `a` and by round `b` (13 R350, R356). -/
def clearStep (s : State) (g a b : Nat) : Bool :=
  timeSet s && decide (a < b) && s.cfg.scheds.any fun c => c.group == mkRef 3 g &&
    (let z := s.cfg.zone
     let d := schedDay z (utcOfRound s b)
     [d - 1, d].any fun k => schedActive c k && c.steps.any fun t => t.act == 2 &&
       (let i := stepInstant z c t k
        decide (utcOfRound s a < i) && decide (i ≤ utcOfRound s b)))

/-- An override is in force in round `m`, seen from the present round (13 R346). -/
def overrideIn (s : State) (o : Override) (m : Nat) : Bool :=
  let n := curRound s
  decide (o.start ≤ m) && (match o.remaining with | none => true | some k => decide (m < max n o.start + k)) &&
    (match o.stop with | none => true | some e => decide (m < e)) && !clearStep s o.group (max n o.start) m

/-- The override of a group in round `m`. -/
def groupOverride (s : State) (g m : Nat) : Option (Nat × Source) :=
  (s.sch.overrides.find? fun o => o.group == g && overrideIn s o m).map fun o => (o.level, .ovr o.fade)

/-- A group's level after default, schedule and override; a group's own default is 10,000 (13 R342, R343). -/
def groupRes (s : State) (g m : Nat) : Res :=
  match groupOverride s g m with
  | some x => { level := x.1, src := x.2 }
  | none =>
    match groupSched s (ownView s) g m with
    | some x => { level := x.1, src := x.2 }
    | none => { level := 10000, src := .dflt }

/-- What R342 needs of a lantern: its groups and the schedules behind them, its default, cap and floor. -/
structure LanternView where
  view : View
  groups : List Nat
  dflt : Nat
  cap : Nat
  floor : Nat
  deriving DecidableEq, Repr

/-- The applied cap of a lantern's feeder; none for a regulated feeder and an adopted node (13 R342, 10 R291). -/
def capOf (s : State) (n : NodeRec) : Nat :=
  if n.origin = 1 || regulated s n.feeder then 10000 else s.ctl.caps.getD n.feeder 10000

/-- The safe level that SAFE_ACK last confirmed, 10,000 before (13 R343). -/
def confirmedSafe (s : State) (n : U32) : Option Nat := (s.mesh.safeConf.find? fun x => x.1 == n).map (·.2)

/-- The replica held of a segment. -/
def replicaOf (s : State) (seg : U32) : Option Replica := s.mesh.replicas.find? fun r => r.seg == seg

/-- The groups of a configuration that hold a node. -/
def groupsHolding (c : Cfg) (n : U32) : List Nat := (c.groups.filter fun g => g.2.contains n).map (·.1)

/-- The view of an own lantern, or of an adopted one by its home segment's replica (13 R342, 10 R291). -/
def lanternView (s : State) (n : NodeRec) : LanternView :=
  if n.origin = 0 then
    { view := ownView s, groups := groupsHolding s.cfg n.node, dflt := (confirmedSafe s n.node).getD 10000, cap := capOf s n, floor := litFloor n.cls }
  else
    match replicaOf s n.home with
    | none => { view := { scheds := [], zone := Zone.reset, own := false }, groups := [], dflt := (confirmedSafe s n.node).getD 10000, cap := 10000, floor := litFloor n.cls }
    | some r =>
      let c := cfgOfItems r.items
      let home := ((c.nodes.find? fun x => x.eui == n.eui).map (·.node)).getD n.node
      { view := { scheds := c.scheds, zone := c.zone, own := false }, groups := groupsHolding c home,
        dflt := (confirmedSafe s n.node).getD (cfgSafeOf c 3 home.toNat), cap := 10000, floor := litFloor n.cls }

/-- A wave holds a lantern in round `m` (13 R361): the highest of its terms. -/
def waveAt (s : State) (n : U32) (m : Nat) : Option (Nat × Source) :=
  highest ((s.sch.terms.filter fun t => t.node == n && decide (t.up ≤ m) && decide (m < t.down)).map fun t => (t.level, .wave t.fadeUp t.fadeDn))

/-- The base of a lantern: its default or what its groups' schedules supply (13 R342). -/
def lanternBase (s : State) (v : LanternView) (m : Nat) : Nat × Source :=
  (highest (v.groups.filterMap fun g => groupSched s v.view g m)).getD (v.dflt, .dflt)

/-- The cap and the floor on a level above 0 (13 R342). -/
def cappedLevel (v : LanternView) (lvl : Nat) : Nat := if lvl = 0 then 0 else max (min lvl v.cap) v.floor

/-- The result of R342 without a node level. -/
def plainRes (s : State) (v : LanternView) (n : U32) (m : Nat) : Res :=
  let (base, src) := lanternBase s v m
  let wav := match waveAt s n m with
    | some (w, ws) => if 0 < base ∧ base < w then (w, ws) else (base, src)
    | none => (base, src)
  let top := if v.view.own then (highest (v.groups.filterMap fun g => groupOverride s g m)).getD wav else wav
  { level := cappedLevel v top.1, src := top.2 }

/-- A node level is in force in round `m`: the result without it has not changed since its AT (13 R345). -/
def nodeLevelIn (s : State) (v : LanternView) (x : NodeLevel) (m : Nat) : Bool :=
  let a := max x.since (curRound s)
  let under := x.under.getD (plainRes s v x.node x.since).level
  decide (x.since ≤ m) && (List.range (m + 1 - a)).all fun k => (plainRes s v x.node (a + k)).level == under

/-- The commanded level of a lantern in round `m` (13 R342). -/
def lanternRes (s : State) (n : NodeRec) (m : Nat) : Res :=
  let v := lanternView s n
  match s.sch.nodeLevels.find? fun x => x.node == n.node && nodeLevelIn s v x m with
  | some x => { level := cappedLevel v x.level, src := .node x.fade }
  | none => plainRes s v n.node m

/-- The fade of a change from one supplier to another (13 R344, R346, R352, R361). -/
def fadeOf (old new : Source) : Nat :=
  let leave (own : Nat) : Nat := match old with
    | .ovr f => f
    | .wave _ d => d
    | _ => own
  match new with
  | .node f => f
  | .ovr f => f
  | .wave u _ => u
  | .sched f => leave f
  | .dflt => leave 0

/-- The earliest round in which a change that becomes known now may take force (13 R344). -/
def earliestRound (s : State) : Nat := if tickInRound s ≤ 4000 then curRound s + 1 else curRound s + 2

/-! Groups (13 R337 to R339) -/

/-- A reference that names a group of a configuration. -/
def groupRef (c : Cfg) (v : U32) : Bool := refClass v == 3 && (groupOf c (refIndex v)).isSome

/-- An own lantern node of a configuration. -/
def ownLantern (c : Cfg) (n : U32) : Bool := refClass n == 1 && c.nodes.any fun x => x.node == n

/-- A configuration keeps the limits of groups: 1,024 lantern groups, 8 groups a node (15 Table 15.2, 13 R338). -/
def groupsFit (c : Cfg) : Bool :=
  decide ((c.groups.filter fun g => decide (g.1 < 0xF000)).length ≤ 1024) &&
    c.groups.all fun g => g.2.all fun n => decide ((groupsHolding c n).length ≤ 8)

/-- Field checks of 0x0701 (13 R337, R338). -/
def groupChecks (s : State) (p : GroupMembersP) : List (Nat × Bool) :=
  let c := planned s
  let i := refIndex p.group
  [(0x10, refClass p.group == 3 && decide (i < 0xF010)), (0x14, decide (p.mode.toNat ≤ 2)), (0x15, p.rsv == 0),
   (0x16, decide (i < 0xF000) || p.n == 0)] ++ p.nodes.mapIdx fun k e => (0x18 + 4 * k, ownLantern c e.node)

/-- Command 0x0701, group members (13 R337, R338). -/
def execGroupMembers (r : Req) (p : GroupMembersP) (s : State) : Result :=
  .next (gmp s r { cmd := 0x0701, len := 8 + 4 * p.n.toNat, fields := groupChecks s p } fun t s =>
    admitIf s t (.groupMembers r p) groupsFit)

/-- Command 0x0702, delete group (13 R337). -/
def execDeleteGroup (r : Req) (p : DeleteGroupP) (s : State) : Result :=
  .next (gmp s r { cmd := 0x0702, len := 4, fields := [(0x10, groupRef (planned s) p.group)] } fun t s => admitChange s t (.deleteGroup r p))

/-! Schedules (13 R348) -/

/-- Field checks of the date entry at offset `o` of RULE (13 Table 13.4). -/
def dateChecks (b : List Byte) (o : Nat) : List (Nat × Bool) :=
  let y := num b o 1
  let m := num b (o + 1) 1
  let d := num b (o + 2) 1
  let last := if m = 2 ∧ y = 0xFF then 29 else monthDays m y
  [(0x18 + o, decide (y ≤ 199) || y == 0xFF), (0x19 + o, decide (1 ≤ m) && decide (m ≤ 12)), (0x1A + o, decide (1 ≤ d) && decide (d ≤ last)),
   (0x1B + o, num b (o + 3) 1 == 0), (0x1C + o, decide (1 ≤ num b (o + 4) 2) && decide (num b (o + 4) 2 ≤ 366)),
   (0x1E + o, decide (num b (o + 6) 1 ≤ 1)), (0x1F + o, num b (o + 7) 1 == 0)]

/-- Field checks of the step at offset `o` of RULE (13 Table 13.5). -/
def stepChecks (b : List Byte) (o : Nat) : List (Nat × Bool) :=
  let t := stepAt b o
  [(0x18 + o, decide (t.ref ≤ 4)), (0x19 + o, decide (t.act ≤ 2)),
   (0x1A + o, if t.ref = 0 then decide (0 ≤ t.offset) && decide (t.offset ≤ 1439) else decide (-360 ≤ t.offset) && decide (t.offset ≤ 360)),
   (0x1C + o, if t.act = 0 then decide (t.value ≤ 10000) else t.act == 1 || t.value == 0), (0x1E + o, t.act == 0 || decide (t.arg ≤ 1))]

/-- Field checks of 0x0703 (13 R348, Tables 13.3 to 13.5). -/
def schedChecks (s : State) (p : DefineScheduleP) : List (Nat × Bool) :=
  let b := p.rule
  let nd := num b 7 1
  let c := ruleOf 0 b
  [(0x10, refClass p.sched == 4 && decide (refIndex p.sched < 1024)), (0x16, p.rsv == 0), (0x18, groupRef (planned s) c.group),
   (0x1D, !(byteAt b 5).getLsbD 7), (0x1E, decide (1 ≤ num b 6 1) && decide (num b 6 1 ≤ 16)), (0x1F, decide (nd ≤ 16)),
   (0x20, decide (-90000000 ≤ c.lat) && decide (c.lat ≤ 90000000)), (0x24, decide (-180000000 ≤ c.lon) && decide (c.lon ≤ 180000000))] ++
  ((List.range nd).map fun k => dateChecks b (16 + 8 * k)).flatten ++
  ((List.range (num b 6 1)).map fun k => stepChecks b (16 + 8 * nd + 8 * k)).flatten

/-- The length of a request whose inner length must agree with its header: one more than given when it does not, so
that the length check refuses it with INFO 0 (13 R348, R360). -/
def innerLen (r : Req) (given want : Nat) : Nat := if given = want then 8 + given else r.len.toNat + 1

/-- Command 0x0703, define schedule (13 R348). -/
def execDefineSchedule (r : Req) (p : DefineScheduleP) (s : State) : Result :=
  let want := 16 + 8 * num p.rule 7 1 + 8 * num p.rule 6 1
  .next (gmp s r { cmd := 0x0703, len := innerLen r p.rlen.toNat want, fields := schedChecks s p } fun t s =>
    admitIf s t (.defineSchedule r p) fun c => decide (c.scheds.length ≤ 512))

/-- Command 0x0704, delete schedule. -/
def execDeleteSchedule (r : Req) (p : DeleteScheduleP) (s : State) : Result :=
  .next (gmp s r { cmd := 0x0704, len := 4, fields := [(0x10, refClass p.sched == 4 && (planned s).scheds.any fun c => c.sched == refIndex p.sched)] } fun t s =>
    admitChange s t (.deleteSchedule r p))

/-- Command 0x0705, zone rules (13 R354). -/
def execZoneRules (r : Req) (p : ZoneRulesP) (s : State) : Result :=
  .next (gmp s r { cmd := 0x0705, len := 4 + p.zlen.toNat, fields := (0x10, decide (1 ≤ p.zlen.toNat) && decide (p.zlen.toNat ≤ 64)) :: rsv3 0x11 p.rsv ++ [(0x14, (parseTz p.tz).isSome)] } fun t s =>
    admitChange s t (.zoneRules r p))

/-! Overrides and node levels (13 R345 to R347) -/

/-- The group index that 0x0720 to 0x0722 carry names a group. -/
def groupIdx (s : State) (g : U16) : Bool := (groupOf s.cfg g.toNat).isSome

/-- Ends the overrides of a group at round `e` (13 R346). -/
def endOverride (s : State) (g e : Nat) : State :=
  let one (o : Override) : Override := if o.group = g then { o with stop := some (min e (o.stop.getD e)) } else o
  s.mapSch fun x => { x with overrides := (x.overrides.filter fun o => !(o.group == g && decide (e ≤ o.start))).map one }

/-- What 0x0720 does (13 R346). -/
def effClearGroupOverride (p : ClearGroupOverrideP) (s : State) : State × Reply :=
  let e := earliestRound s
  (endOverride s p.group.toNat e, okWith (le 8 e))

/-- Command 0x0720, clear group override (13 R346). -/
def execClearGroupOverride (r : Req) (p : ClearGroupOverrideP) (s : State) : Result :=
  .next (gmp s r { cmd := 0x0720, len := 4, fields := [(0x10, groupIdx s p.group), (0x12, p.rsv == 0)] } fun _ s =>
    passOn (.clearGroupOverride r p) (effClearGroupOverride p s))

/-- What 0x0721 does (13 R346). -/
def effGroupOverride (p : GroupOverrideP) (s : State) : State × Reply :=
  let e := earliestRound s
  let o : Override := { group := p.group.toNat, level := p.level.toNat, fade := p.fade.toNat, start := e, remaining := if p.duration = 0 then none else some p.duration.toNat, stop := none }
  ((endOverride s p.group.toNat e).mapSch fun x => { x with overrides := x.overrides ++ [o] }, okWith (le 8 e))

/-- Command 0x0721, group override: it replaces the one in force (13 R346). -/
def execGroupOverride (r : Req) (p : GroupOverrideP) (s : State) : Result :=
  .next (gmp s r { cmd := 0x0721, len := 12, fields := [(0x10, groupIdx s p.group), (0x12, decide (p.level.toNat ≤ 10000)), (0x1A, p.rsv == 0)] } fun _ s =>
    passOn (.groupOverride r p) (effGroupOverride p s))

/-- Row OVERRIDE_EXPIRY: an override whose rounds are counted down, or that 0x0720 ended, goes (13 R346). -/
def execOverrideExpiry (group : Nat) (s : State) : Result :=
  .next (s.mapSch fun x => { x with overrides := x.overrides.filter fun o =>
    !(o.group == group && (o.remaining == some 0 || (match o.stop with | some e => decide (e ≤ curRound s) | none => false))) })

/-- One round of every override in force, and node levels that end, at a round boundary (13 R345, R346). -/
def countOverrides (s : State) : State :=
  let n := curRound s
  let one (o : Override) : Override :=
    if o.start < n then { o with remaining := o.remaining.map (· - 1) } else o
  let s := s.mapSch fun x => { x with overrides := x.overrides.map one }
  let keep (x : NodeLevel) : Option NodeLevel :=
    match nodeRec s x.node with
    | none => none
    | some r =>
      let v := lanternView s r
      if n < x.since then some x
      else if nodeLevelIn s v x n then some { x with under := some (x.under.getD (plainRes s v x.node n).level) }
      else none
  s.mapSch fun y => { y with nodeLevels := y.nodeLevels.filterMap keep }

/-- What 0x0507 does (13 R345). -/
def effNodeLevel (p : NodeLevelP) (s : State) : State × Reply :=
  let e := max (earliestRound s) p.atTick.toNat
  let x : NodeLevel := { node := p.node, level := p.level.toNat, fade := p.fade.toNat, since := e, under := none }
  (s.mapSch fun y => { y with nodeLevels := x :: y.nodeLevels.filter fun z => z.node != p.node }, okWith (le 8 e))

/-- Command 0x0507, node level at round AT (13 R345). -/
def execNodeLevel (r : Req) (p : NodeLevelP) (s : State) : Result :=
  .next (gmp s r { cmd := 0x0507, len := 16, fields := [(0x10, refClass p.node == 1 && (nodeRec s p.node).isSome), (0x14, decide (p.level.toNat ≤ 10000))] } fun _ s =>
    passOn (.nodeLevel r p) (effNodeLevel p s))

/-- The member records of a group. -/
def membersOf (s : State) (g : Nat) : List NodeRec :=
  ((groupOf s.cfg g).getD []).filterMap fun n => s.cfg.nodes.find? fun x => x.node == n

/-- Level and SOURCE of a group in round `m` (13 R347): of a lantern group in the default tier and under a wave, the
highest of its members; free for a lantern group without members. -/
def groupState (s : State) (g m : Nat) : Nat × Nat :=
  let dflt := if timeSet s then 0 else 4
  match groupOverride s g m with
  | some x => (x.1, 3)
  | none =>
    let ms := if g < 0xF000 then membersOf s g else []
    let held := ms.filterMap fun n =>
      let base := (lanternBase s (lanternView s n) m).1
      match waveAt s n.node m with
      | some (w, _) => if 0 < base ∧ base < w then some w else none
      | none => none
    if !held.isEmpty then (held.foldl max 0, 2)
    else match groupSched s (ownView s) g m with
      | some x => (x.1, 1)
      | none =>
        if 0xF000 ≤ g then (10000, dflt)
        else if ms.isEmpty then (Config.freeNat s.fresh % 10001, dflt)
        else ((ms.map fun n => (confirmedSafe s n.node).getD 10000).foldl max 0, dflt)

/-- Rounds in which a group's level may change by what is known now: schedule steps of the next 400 days, overrides and
waves (13 R344, R347). -/
def changeRounds (s : State) (g : Nat) : List Nat :=
  let n := curRound s
  let z := s.cfg.zone
  let d := schedDay z (utcOfRound s n)
  let steps := if !timeSet s then [] else
    ((s.cfg.scheds.filter fun c => c.group == mkRef 3 g).map fun c =>
      ((List.range 402).map fun (k : Nat) =>
        let day := d - 1 + (k : Int)
        roundOfUtc s (dayStart z day) :: c.steps.map fun t => roundOfUtc s (stepInstant z c t day)).flatten).flatten
  let ov := (s.sch.overrides.filter fun o => o.group == g).flatMap fun o =>
    [o.start] ++ (match o.remaining with | some k => [max n o.start + k] | none => []) ++ (match o.stop with | some e => [e] | none => [])
  let mem := (groupOf s.cfg g).getD []
  let wv := (s.sch.terms.filter fun t => mem.contains t.node).flatMap fun t => [t.up, t.down]
  ((steps ++ ov ++ wv).filter fun m => decide (n < m)).foldl (fun l m => putSorted l id m) []

/-- Command 0x0722, group state (13 R347). -/
def execGroupState (r : Req) (p : GroupStateP) (s : State) : Result :=
  .next (gmp s r { cmd := 0x0722, len := 4, fields := [(0x10, groupIdx s p.group), (0x12, p.rsv == 0)] } fun _ s =>
    let g := p.group.toNat
    let x := groupState s g (curRound s)
    let u := ((changeRounds s g).find? fun m => (groupState s g m).1 != x.1).getD 0xFFFFFFFFFFFFFFFF
    (s.bump, okWith (le 2 x.1 ++ le 1 x.2 ++ le 1 0 ++ le 8 u)))

/-! Edge actions (13 R356, R357) -/

/-- The ledger's last day of a step. -/
def ledgerDay (s : State) (c k : Nat) : Option Int := (s.sch.ledger.find? fun e => e.sched == c && e.step == k).map (·.day)

/-- Notes that a step has run for day `d`. -/
def ledgerSet (s : State) (c k : Nat) (d : Int) : State :=
  s.mapSch fun x => { x with ledger := { sched := c, step := k, day := d } :: x.ledger.filter fun e => !(e.sched == c && e.step == k) }

/-- An edge action (13 R352): REPORT writes a reading and its event, CLEAR_OVERRIDE ends the group's override. -/
def runEdge (s : State) (c : Sched) (k : Nat) (t : SchedStep) (d : Int) : State :=
  let s := ledgerSet s c.sched k d
  if t.act = 1 then
    let (s, q) := reading s t.value
    s.event 0x0704 (le 4 (mkRef 4 c.sched).toNat ++ le 2 t.value ++ le 2 0 ++ le 4 q)
  else endOverride s (refIndex c.group) (curRound s)

/-- The edge instants of a step in a window: days of the schedule with instants, ascending (13 R356). -/
def edgeDays (s : State) (c : Sched) (t : SchedStep) (t1 t2 : Int) : List (Int × Int) :=
  let z := s.cfg.zone
  let a := schedDay z t1 - 1
  let n := (schedDay z t2 - a + 1).toNat
  (List.range n).filterMap fun (k : Nat) =>
    let d := a + (k : Int)
    let i := stepInstant z c t d
    if schedActive c d ∧ t1 < i ∧ i ≤ t2 then some (d, i) else none

/-- An edge step with its index, among those of every schedule. -/
def edgeSteps (s : State) : List (Sched × Nat × SchedStep) :=
  (s.cfg.scheds.map fun c => (c.steps.mapIdx fun k t => (c, k, t)).filter fun x => x.2.2.act != 0).flatten

/-- What a window does to one step: its edge instants on days above the ledger, the first day, the last day and the
last day's instant (13 R356). -/
def jumpOf (s : State) (t1 t2 : Int) (x : Sched × Nat × SchedStep) : Option (Int × Int × Int) :=
  let ds := (edgeDays s x.1 x.2.2 t1 t2).filter fun e => match ledgerDay s x.1.sched x.2.1 with
    | some d => decide (d < e.1)
    | none => true
  match ds.head?, ds.getLast? with
  | some a, some b => some (a.1, b.1, b.2)
  | _, _ => none

/-- Puts a step of a window behind those of the same or an earlier instant (13 R350). -/
def byInstant {α : Type} (x : Int × α) (l : List (Int × α)) : List (Int × α) :=
  l.filter (fun y => decide (y.1 ≤ x.1)) ++ x :: l.filter fun y => decide (x.1 < y.1)

/-- A window that time jumped over, in order of instant: CATCH_UP steps run once, others are recorded as skipped; what the
ledger says has run is neither (13 R350, R356). -/
def edgeJump (s : State) (t1 t2 : Int) : State :=
  let l := ((edgeSteps s).filterMap fun x => (jumpOf s t1 t2 x).map fun j => (j.2.2, x, j.1, j.2.1)).foldl (fun l x => byInstant x l) []
  l.foldl (fun s e =>
    let c := e.2.1.1
    let k := e.2.1.2.1
    let t := e.2.1.2.2
    let ref := le 4 (mkRef 4 c.sched).toNat ++ le 1 k ++ le 3 0
    if t.arg % 2 = 1 then (runEdge s c k t e.2.2.2).event 0x0702 (ref ++ leInt 4 e.2.2.2)
    else s.event 0x0701 (ref ++ leInt 4 e.2.2.1 ++ leInt 4 e.2.2.2)) s

/-- The edge actions of the present second: in order of instant, then table order; each day's once (13 R350, R356). -/
def edgeNow (s : State) (t1 t2 : Int) : State :=
  (edgeSteps s).foldl (fun s (c, k, t) =>
    (edgeDays s c t t1 t2).foldl (fun s x =>
      match ledgerDay s c.sched k with
      | some d => if x.1 ≤ d then s else runEdge s c k t x.1
      | none => runEdge s c k t x.1) s) s

/-- Edge actions at a round boundary in DECLARER: the second that begins, or the window that time has jumped over
(13 R356, R357). While LOCK is 0 the window stays open from the newest checkpoint. -/
def edges (s : State) : State :=
  if !timeSet s then s.mapSch fun x => { x with windowT1 := some (((newestCkpt s).map (·.utc)).getD 0) }
  else
    let u := utcNow s
    let t1 : Int := s.sch.windowT1.getD s.sch.lastUtc
    let s := if t1 + 1 = u then edgeNow s t1 u else if t1 < u then edgeJump s t1 u else s
    s.mapSch fun x => { x with lastUtc := u.toNat, windowT1 := none }

/-- The levels of feeder and contactor groups in the present round (13 R337, R339): CTn follows its group. -/
def groupLevels (s : State) : State :=
  let n := curRound s
  let l := (s.cfg.groups.filter fun g => decide (0xF000 ≤ g.1)).map fun g => (g.1, (groupRes s g.1 n).level)
  let s := s.mapSch fun x => { x with groupLevels := l }
  if s.sys.mode ≠ .declarer then s
  else (l.filter fun g => decide (0xF008 ≤ g.1)).foldl (fun s g =>
    let k := g.1 - 0xF008
    let on := g.2 == 0
    if (contactorOf s k).want = on then s else commandContactor s k on) s

/-- Row SCHEDULE_STEP: the steps of the round boundary take force (13 R350, R352, R356, R339). -/
def execScheduleStep (s : State) : Result :=
  .next (if tickInRound s ≠ 0 && !s.clk.stretch then s
    else match s.sys.mode with
      | .declarer => groupLevels (edges s)
      | .dummy => groupLevels s
      | _ => s)

/-! The light wave (13 R359 to R363) -/

/-- A reference that names a sensor node of a configuration. -/
def sensorRef (c : Cfg) (n : U32) : Bool := refClass n == 2 && c.nodes.any fun x => x.node == n

/-- Field checks of the nodes of a light-wave record (13 R360). -/
def waveNodes (c : Cfg) (s : State) (sensor : Bool) : Nat → List U32 → List (U32 × Int) → List (Nat × Bool)
  | _, _, [] => []
  | o, seen, e :: r =>
    let ok := if sensor then sensorRef c e.1 else ownLantern c e.1 || s.mesh.adopted.any fun x => x.node == e.1 && refClass x.node == 1
    (o, ok && !seen.contains e.1) :: waveNodes c s sensor (o + 8) (e.1 :: seen) r

/-- Field checks of RECORD (13 R360, Table 13.6). -/
def waveChecks (s : State) (p : ConfigureLightWaveP) : List (Nat × Bool) :=
  let b := p.rcd
  let w := waveOf 0 b
  let c := planned s
  let rng (o v lo hi : Nat) : Nat × Bool := (0x18 + o, decide (lo ≤ v) && decide (v ≤ hi))
  [(0x10, decide (p.wave.toNat < 64)), (0x12, p.rsv == 0), (0x16, p.rsv2 == 0)] ++
  (if p.wlen = 0 then []
   else [rng 0 w.level 1 10000, (0x1A, w.kinds % 2 == 0 && decide (w.kinds < 64)), rng 4 w.lead 0 600, rng 6 w.hold 0 3000,
     rng 8 w.fadeUp 0 100, rng 10 w.fadeDn 0 600, rng 12 w.reach 1 2000000, rng 16 w.back 0 200000, rng 20 w.vDef 10 2000,
     rng 22 (num b 22 1) 0 16, (0x2F, num b 23 1 == 0), rng 24 (num b 24 2) 1 256, (0x32, num b 26 2 == 0)] ++
     waveNodes c s true 0x34 [] w.sensors ++ waveNodes c s false (0x34 + 8 * w.sensors.length) [] w.lanterns)

/-- Command 0x0706, configure light wave (13 R360). -/
def execConfigureLightWave (r : Req) (p : ConfigureLightWaveP) (s : State) : Result :=
  let want := if p.wlen = 0 then 0 else 28 + 8 * (num p.rcd 22 1 + num p.rcd 24 2)
  .next (gmp s r { cmd := 0x0706, len := innerLen r p.wlen.toNat want, fields := waveChecks s p } fun t s => admitChange s t (.configureLightWave r p))

/-- Two terms of a lantern overlap: each holds from its round up to before its round down (13 R361, R362). -/
def termsMeet (a b : WaveTerm) : Bool := decide (a.up < b.down) && decide (b.up < a.down)

/-- The distance between two terms' intervals. -/
def termGap (a b : WaveTerm) : Nat := if a.down ≤ b.up then b.up - a.down else a.up - b.down

/-- Two terms as one: the higher level, the earlier up, the later down, each with its fade (13 R362). -/
def termMerge (a b : WaveTerm) : WaveTerm where
  node := a.node
  level := max a.level b.level
  up := min a.up b.up
  down := max a.down b.down
  fadeUp := if b.up < a.up then b.fadeUp else a.fadeUp
  fadeDn := if a.down < b.down then b.fadeDn else a.fadeDn

/-- Adds a term to a lantern's terms: merged while it overlaps one, and into the nearest when 8 are held (13 R362). -/
def addTerm : Nat → List WaveTerm → WaveTerm → List WaveTerm
  | 0, l, t => t :: l
  | k + 1, l, t =>
    match l.find? fun x => termsMeet x t with
    | some x => addTerm k (l.filter fun y => y != x) (termMerge x t)
    | none =>
      if l.length < 8 then t :: l
      else
        let best := l.foldl (fun (b : Option WaveTerm) x =>
          match b with
          | none => some x
          | some y => if termGap x t < termGap y t then some x else b) none
        match best with
        | some x => addTerm k (l.filter fun y => y != x) (termMerge x t)
        | none => t :: l

/-- The wave term of one lantern for an event: position `x`, event at tick `t0` and position `x0`, speed in 0.1 km/h,
direction (13 R361). -/
def waveTerm (s : State) (w : Wave) (t0 : Nat) (x0 : Int) (speed cls : Nat) (back : Bool) (n : U32) (x : Int) : Option WaveTerm :=
  let v := if speed = 0 then w.vDef else speed
  let d0 : Int := if back then x0 - x else x - x0
  let d : Int := if cls = 5 then d0.natAbs else d0
  if (w.reach : Int) < d ∨ d < -(w.back : Int) then none
  else
    let arr : Rat := mkRat t0 8000 + mkRat (36 * max d 0) (1000 * v)
    let up := max ((arr - mkRat w.lead 10 - mkRat w.fadeUp 10).floor.toNat) (earliestRound s)
    let down := (arr + mkRat w.hold 10).ceil.toNat
    if down ≤ up then none else some { node := n, level := w.level, up := up, down := down, fadeUp := w.fadeUp, fadeDn := w.fadeDn }

/-- A traffic event on one wave: a term for each lantern it reaches (13 R361, R362). -/
def waveEvent (s : State) (w : Wave) (kind : U8) (speed t0 : Nat) (x0 : Int) : State :=
  let cls := kind.toNat % 16
  if !w.kinds.testBit cls then s
  else w.lanterns.foldl (fun s (n, x) =>
    match waveTerm s w t0 x0 speed cls (kind.getLsbD 7) n x with
    | none => s
    | some t =>
      s.mapSch fun y => { y with terms := (y.terms.filter fun z => z.node != n) ++ addTerm 9 (y.terms.filter fun z => z.node == n) t }) s

/-- An event of a sensor on every wave that lists it: POS counts from the sensor's position (13 R359). -/
def sensorEvent (s : State) (n : U32) (kind : U8) (speed t0 : Nat) (pos : Int) : State :=
  s.cfg.waves.foldl (fun s w =>
    match w.sensors.find? fun e => e.1 == n with
    | none => s
    | some e => waveEvent s w kind speed t0 (e.2 + pos)) s

/-- The index of the wave that a SOURCE of 0x0707 names (13 R359). -/
def waveSource (v : U32) : Option Nat := if refClass v = 0xFF then some (refIndex v) else none

/-- KIND is in range: a class of 1 to 5, reserved bits 0 (13 R359). -/
def kindOk (k : U8) : Bool := decide (1 ≤ k.toNat % 16) && decide (k.toNat % 16 ≤ 5) && decide (k.toNat / 16 % 8 = 0)

/-- What 0x0707 does (13 R358). -/
def effTrafficEvent (p : TrafficEventP) (s : State) : State × Reply :=
  let t0 := if p.atTick = 0 then s.clk.tick else p.atTick.toNat
  match waveSource p.source with
  | some i =>
    match s.cfg.waves.find? fun x => x.wave == i with
    | some w => (waveEvent s w p.kind p.speed.toNat t0 (i32 p.pos), {})
    | none => (s, {})
  | none => (sensorEvent s p.source p.kind p.speed.toNat t0 (i32 p.pos), {})

/-- Command 0x0707, traffic event (13 R359, R361). -/
def execTrafficEvent (r : Req) (p : TrafficEventP) (s : State) : Result :=
  let known := match waveSource p.source with
    | some w => s.cfg.waves.any fun x => x.wave == w
    | none => sensorRef s.cfg p.source
  .next (gmp s r { cmd := 0x0707, len := 20, fields := [(0x10, known), (0x14, kindOk p.kind), (0x15, p.rsv == 0), (0x1C, decide (p.atTick.toNat ≤ s.clk.tick))] } fun _ s =>
    passOn (.trafficEvent r p) (effTrafficEvent p s))

/-- PRESENCE_DROPPED (15 Table 15.13). -/
def presenceDropped (s : State) (m : Presence) (cause : Nat) : State :=
  s.event 0x0703 (le 4 m.node.toNat ++ le 1 cause ++ le 3 0 ++ le 8 m.tick.toNat)

/-- Row PRESENCE: a sensor node's message reaches APP (13 R359). -/
def execPresence (m : Presence) (s : State) : Result :=
  .next (
    let now := s.clk.tick
    let t := m.tick.toNat
    if s.sys.mode ≠ .declarer then s
    else if t ≠ 0 ∧ t + 80000 < now then presenceDropped s m 1
    else if now + 40 < t then presenceDropped s m 2
    else if !(s.cfg.waves.any fun w => w.sensors.any fun e => e.1 == m.node) then presenceDropped s m 3
    else sensorEvent s m.node m.kind m.speed.toNat (if t = 0 ∨ now < t then now else t) (i32 m.pos))

/-- Wave terms that are over go (13 R362). -/
def dropTerms (s : State) : State := s.mapSch fun x => { x with terms := x.terms.filter fun t => decide (curRound s < t.down) }

end Sys2Proof.Machine
end

