-- ==== Sys2Proof/Machine/Mesh.lean ====
section
/-!
DEFINITION. The Lernas mesh (10): regional profiles and duty-cycle accounts, frames with their counters and replay
windows, connections, beacons, joining, node messages, and the commands of group 0x05 that act on them.
-/

namespace Sys2Proof.Machine

open Sys2Proof

/-- The radios transmit (01 Table 1.7, 10 R294). -/
def radioSends (s : State) : Bool := s.sys.mode == .commissioning || s.sys.mode == .declarer

/-- The radios receive (01 Table 1.7). -/
def radioHears (s : State) : Bool := radioSends s || s.sys.mode == .dummy

/-- The segment number, 0 before the first commissioning-complete (10 R264). -/
def segNumber (s : State) : U32 := (s.cfg.comm.map (·.segment)).getD 0

/-! Regional profiles (10 R254, R255) -/

/-- A row of 10 Table 10.2. -/
structure SubBand where
  port : Nat
  sub : Nat
  lo : Nat
  hi : Nat
  limit : Nat
  deriving DecidableEq, Repr

/-- The sub-bands of a profile, those of RF-B included (10 Table 10.2). -/
def bandsOf (p : Nat) : List SubBand :=
  let eu : List SubBand := [⟨1, 0, 0, 9, 100⟩, ⟨1, 1, 10, 24, 1000⟩, ⟨1, 2, 25, 27, 1000⟩, ⟨1, 3, 29, 30, 100⟩, ⟨1, 4, 32, 32, 10000⟩, ⟨1, 5, 34, 34, 1000⟩]
  (match p with
    | 0x0001 => eu
    | 0x0002 => eu ++ [⟨1, 6, 35, 63, 1000⟩]
    | 0x0010 => [⟨1, 0, 0, 63, 0xFFFF⟩]
    | _ => []) ++ [⟨2, 0, 0, 15, 0xFFFF⟩]

/-- Profiles that Table 10.2 gives for the module's variant (10 R255). -/
def profileOk (s : State) (p : Nat) : Bool :=
  match s.sys.variant with
  | .e30 => p == 1 || p == 2
  | .a30 => p == 0x10

/-- PROFILE, MAX_A and MAX_B in force (10 R255). -/
def profileInForce (s : State) : Nat × Int × Int :=
  s.cfg.profile.getD (match s.sys.variant with | .e30 => (0x0001, 14, 10) | .a30 => (0x0010, 14, 10))

/-- The sub-band of a channel under a profile; none for a barred channel. -/
def bandAt (p port ch : Nat) : Option SubBand := (bandsOf p).find? fun b => b.port == port && decide (b.lo ≤ ch) && decide (ch ≤ b.hi)

/-- The channel map of a profile with every channel that may be used (10 R254, Table 10.7). -/
def mapOf (p port : Nat) : U64 :=
  BitVec.ofNat 64 (((List.range 64).filter fun c => (bandAt p port c).isSome).map fun c => 2 ^ c).sum

/-- The rendezvous channel of a port (10 Table 10.2). -/
def rendezvous (port : Nat) : Nat := if port = 1 then 32 else 15

/-- The hop function of 10 R272. -/
def hopChannel (map : U64) (seed : U32) (counter : Nat) : Nat :=
  let base := seed.toNat % 64
  let hop := 1 + 2 * (seed.toNat / 64 % 32)
  let u := (base + counter * hop) % 64
  let used := (List.range 64).filter fun i => map.getLsbD i
  if map.getLsbD u then u else used.getD (u % max 1 used.length) 0

/-! Airtime and duty cycle (10 R256, R257) -/

/-- Rates of RF-A in kbit/s by RATE (10 Table 10.7). -/
def rateKbit (rate : Nat) : Nat := [50, 100, 150, 200].getD rate 50

/-- Airtime of a PSDU of `l` octets, µs (10 Table 10.1). -/
def airtime (port rate l : Nat) : Nat := if port = 1 then ceilDiv ((12 + l) * 8000) (rateKbit rate) else (6 + l) * 32

/-- PSDU octets of a secured frame: path entries, a fragment header or none, payload octets (10 Table 10.4). -/
def frameLen (path : Nat) (frag : Bool) (payload : Nat) : Nat :=
  8 + 5 + (if path = 0 then 0 else 5 + 2 * path) + (if frag then 4 else 0) + payload + 8 + 4

/-- The account of a sub-band. -/
def dutyAcc (s : State) (port sub : Nat) : DutyAcc :=
  (s.mesh.duty.find? fun a => a.port == port && a.sub == sub).getD { port := port, sub := sub, sums := [0], overAlarm := false }

/-- USED in µs: the present round and the 3,599 before it (10 R256). -/
def dutyUsed (s : State) (port sub : Nat) : Nat := (dutyAcc s port sub).sums.sum

/-- Budget of a sub-band, µs (10 R256). -/
def dutyBudget (b : SubBand) : Nat := b.limit * 36000

/-- The share of the budget that a transmit class may use, % (10 Table 10.3). -/
def classShare (cls : Nat) : Nat := if cls = 1 then 100 else if cls = 2 then 90 else 75

/-- A transmission may start (10 R256). -/
def mayStart (s : State) (port ch cls us : Nat) : Bool :=
  match bandAt (profileInForce s).1 port ch with
  | none => false
  | some b => b.limit == 0xFFFF || decide (100 * (dutyUsed s port b.sub + us) ≤ classShare cls * dutyBudget b)

/-- Replaces an account. -/
def putDuty (s : State) (a : DutyAcc) : State :=
  s.mapMesh fun m => { m with duty := a :: m.duty.filter fun x => !(x.port == a.port && x.sub == a.sub) }

/-- The events at 90 % and back below 80 % of the budget (10 R257). -/
def dutyWatch (s : State) (b : SubBand) : State :=
  if b.limit = 0xFFFF then s
  else
    let a := dutyAcc s b.port b.sub
    let u := dutyUsed s b.port b.sub
    let on := if a.overAlarm then decide (8 * dutyBudget b ≤ 10 * u) else decide (9 * dutyBudget b < 10 * u)
    if on = a.overAlarm then s
    else (putDuty s { a with overAlarm := on }).event 0x0502 (le 1 b.port ++ le 1 b.sub ++ le 2 b.limit ++ le 4 (ceilDiv u 1000))

/-- Accounts a transmission (10 R256). -/
def charge (s : State) (port ch us : Nat) : State :=
  match bandAt (profileInForce s).1 port ch with
  | none => s
  | some b =>
    let a := dutyAcc s port b.sub
    dutyWatch (putDuty s { a with sums := (a.sums.headD 0 + us) :: a.sums.drop 1 }) b

/-- A new round in every account (10 R256). -/
def dutySums (s : State) : State := s.mapMesh fun m => { m with
  duty := m.duty.map fun a => { a with sums := (0 :: a.sums).take 3600 }
  dutyAt := curRound s }

/-- The accounts as the tick starts after a restart: the rounds that passed meanwhile had no airtime (10 R256). -/
def dutyCatchUp (s : State) : State :=
  let gone := min 3600 (curRound s - s.mesh.dutyAt)
  s.mapMesh fun m => { m with
    duty := m.duty.map fun a => { a with sums := (List.replicate gone 0 ++ a.sums).take 3600 }
    dutyAt := curRound s }

/-- A new round of every account, and the watch over the budgets (10 R256, R257). -/
def dutyRound (s : State) : State :=
  let s := dutySums s
  (bandsOf (profileInForce s).1).foldl dutyWatch s

/-- Field checks of 0x0506. -/
def portField (p : U8) : Nat × Bool := (0x10, p == 1 || p == 2)

/-- Command 0x0506, duty-cycle accounts (10 R257). -/
def execDutyCycleAccounts (r : Req) (p : DutyCycleAccountsP) (s : State) : Result :=
  .next (gmp s r { cmd := 0x0506, len := 4, fields := portField p.port :: rsv3 0x11 p.rsv } fun _ s =>
    let l := (bandsOf (profileInForce s).1).filter fun b => b.port == p.port.toNat
    (s, okWith (le 2 l.length ++ le 2 0 ++ (l.map fun b => le 1 b.sub ++ le 1 0 ++ le 2 b.limit ++ le 4 (ceilDiv (dutyUsed s b.port b.sub) 1000)).flatten)))

/-! Keys, counters and transmission (10 R263, R265, R294) -/

/-- The sealed hand of a network key generation that may be used (16 Table 16.4, R439). -/
def netHand (s : State) (g : Nat) : Option Hand :=
  if g = 0 ∨ 3 < g then none
  else match s.sec.hands.getD g none with
    | none => none
    | some h => if handLive s h then some h else none

/-- The network key generation in force, while its key is held (10 R263, R265). -/
def netGen (s : State) : Option Nat := if (netHand s s.mesh.keyGen).isSome then some s.mesh.keyGen else none

/-- The node lot keys that may be used: sealed hands 4 to 7 (10 R263, 16 Table 16.4, R439). -/
def lotHands (s : State) : List Hand :=
  (List.range 4).filterMap fun k => match s.sec.hands.getD (4 + k) none with
    | none => none
    | some h => if handLive s h then some h else none

/-- The join key of a node: AES-CMAC of its lot key over its EUI-64 (10 R263). To which of the lot keys held a node belongs is
not given and is free. -/
def joinKey (s : State) (eui : List Byte) : Option (List Byte) :=
  ((lotHands s)[Config.lotOf eui % max 1 (lotHands s).length]?).map fun h => Config.cmac h.key eui

/-- The module's EUI-64, that of its segment (10 R263). -/
def segmentEui (s : State) : List Byte := [0x02, 0x5C, 0x08, 0xFF] ++ (le 4 (segNumber s).toNat).reverse

/-- The highest conducted output of a port (10 R255). -/
def portMax (s : State) (port : Nat) : Int := if port = 1 then (profileInForce s).2.1 else (profileInForce s).2.2

/-- The conducted output of a transmission: not above its limit nor below -10 dBm, where within them being free (log 197); 6 dB
less after a mismatch, for good until a reset (10 R255, 02 Table 2.13, log 133). -/
def outDbm (s : State) (port : Nat) (limit : Int) : Int :=
  let low := (port == 1 && s.sys.rfReducedA) || (port == 2 && s.sys.rfReducedB)
  limit - (Config.freeNat s.fresh % (limit + 11).toNat : Nat) - (if low then 6 else 0)

/-- Takes the next SEC_FC, reserving counter values ahead in blocks of 65,536; none at the end of the key (10 R265). -/
def takeFc (s : State) : Option (State × Nat) :=
  let n := s.mesh.secFc
  if 0xFFFFFFFF ≤ n then none
  else some (s.mapMesh fun m => { m with
    secFc := n + 1
    fcEnd := if m.fcEnd ≤ n then n + 65536 else m.fcEnd }, n)

/-- One secured frame as it is to be sent. -/
structure Sending where
  port : Nat
  chan : Nat
  us : Nat
  cls : Nat
  seq : U16
  dst : Nat
  /-- KEY_ID.KEY -/
  key : Nat
  /-- KEY_ID.LEVEL -/
  level : Nat
  /-- EUI-64 of the node whose join key protects the frame -/
  eui : List Byte
  ctrl : Bool
  ackReq : Bool
  more : Bool
  origin : Nat
  path : List Nat
  frag : Option (Nat × Nat × Nat)
  msg : Nat
  fields : List Byte
  /-- highest conducted output -/
  limit : Int
  deriving DecidableEq, Repr

/-- A frame carries a route header (10 Table 10.4). -/
def Sending.routed (x : Sending) : Bool := !x.path.isEmpty || x.origin != 0

/-- FC (10 Table 10.5). -/
def Sending.fcWord (x : Sending) : Nat :=
  (if x.ctrl then 3 else 0) + 0x08 + 0x10 * bit x.ackReq + 0x20 * bit x.frag.isSome + 0x40 * bit x.routed + 0x80 * bit x.more

/-- The header of a frame, little-endian (10 Table 10.4, 00 R5). -/
def Sending.header (x : Sending) (fc : Nat) : List Byte :=
  le 2 x.fcWord ++ le 2 x.seq.toNat ++ le 2 x.dst ++ le 2 0 ++ le 4 fc ++ le 1 (x.key + 64 * x.level) ++
    (if x.routed then le 2 x.origin ++ le 2 (x.path.getLastD x.dst) ++ le 1 (x.path.length + 0x20) ++ (x.path.map (le 2 ·)).flatten else []) ++
    (match x.frag with | some (t, i, c) => le 2 t ++ le 1 i ++ le 1 c | none => [])

/-- PAYLOAD: the message code and its fields, the cut of a fragment, or nothing in an empty frame (10 Table 10.4, R269). -/
def Sending.payload (x : Sending) : List Byte := if x.msg = 0 ∨ x.frag.isSome then x.fields else le 1 x.msg ++ x.fields

/-- The whole PSDU: header, payload and MIC, FCS (10 Table 10.4, R253, R263). -/
def framePsdu (s : State) (key header : List Byte) (fc level : Nat) (payload : List Byte) : List Byte :=
  let b := header ++ padTo (payload.length + 8) (Config.ccmSeal key (segmentEui s) fc level header payload)
  b ++ padTo 4 (Config.frameFcs b)

/-- The key that protects a frame: a join key under KEY 63, a network key otherwise (10 R263). -/
def sendKey (s : State) (x : Sending) : Option (List Byte) :=
  if x.key = 63 then joinKey s x.eui else (netHand s x.key).map (·.key)

/-- SEC_FC of a frame that takes counter value `n`: under a join key, which no generation changes, values go on from those of
earlier generations (10 R265, log 195). -/
def Sending.counter (s : State) (x : Sending) (n : Nat) : Nat := if x.key = 63 then s.mesh.joinBase + n else n

/-- Sends a frame when the radio is on, the duty-cycle share allows it, its key is held and its counter lasts
(10 R256, R263, R265, R294). -/
def transmit (s : State) (x : Sending) : Option State :=
  match sendKey s x with
  | none => none
  | some key =>
    if !(radioSends s && mayStart s x.port x.chan x.cls x.us) then none
    else match takeFc s with
      | none => none
      | some (s, n) =>
        let fc := x.counter s n
        if 0xFFFFFFFF ≤ fc then none
        else some ((charge s x.port x.chan x.us).bump.emit
          (.radio x.port x.chan (outDbm s x.port x.limit) x.msg x.fields (framePsdu s key (x.header fc) fc x.level x.payload)))

/-- The chain of associations from the module's own child down to a node (10 R280). -/
def pathTo (s : State) : Nat → U32 → Option (List Assoc)
  | 0, _ => none
  | k + 1, n =>
    match assocOf s n with
    | none => none
    | some a => if a.parent = 0 then some [a] else (pathTo s k a.parent).map fun l => l ++ [a]

/-- The module's own child through which a node is reached. -/
def firstHop (s : State) (n : U32) : Option U32 := ((pathTo s 16 n).bind (·.head?)).map (·.node)

/-- The largest PSDU of the links to a node (10 R261, R262). -/
def linkPsdu (l : List Assoc) : Nat :=
  (l.map fun a => min a.maxPsdu (if a.port = 1 then 2047 else 127)).foldl min 2047

/-- Takes the next SEQ (10 Table 10.4). -/
def takeSeq (s : State) : State × U16 := (s.mapMesh fun m => { m with txSeq := m.txSeq + 1 }, s.mesh.txSeq)

/-- Holds one frame for its connection. -/
def pushFrame (s : State) (n : U32) (msg cls : Nat) (ctrl : Bool) (origin : Nat) (frag : Option (Nat × Nat × Nat)) (payload : List Byte) : State :=
  let (s, q) := takeSeq s
  s.mapMesh fun m => { m with txq := m.txq ++ [{ node := n, msg := msg, payload := payload, cls := cls, seq := q, inEvent := 0, total := 0, waiting := false, frag := frag, origin := origin, ctrl := ctrl }] }

/-- Counts a dropped frame by its cause: 1 FCS, 2 runt, 3 secured frame under 25 octets, 4 MIC, 5 stale counter, 6 duplicate,
7 datagram too long, 8 reserved TYPE, 9 version, 10 reserved address, 11 KEY_ID, 12 SEC 0, 13 form of an ACK, 14 ACK_REQ to
0xFFFF, 15 shorter than its header, 16 refused with BAD_LENGTH, 17 a 17th hop, 18 form of a fragment
(10 R253, R259, R261, R262, R266, R280). -/
def countDrop (s : State) (port cause : Nat) : State :=
  let n := ((s.mesh.drops.find? fun x => x.1 == port && x.2.1 == cause).map (·.2.2)).getD 0
  s.mapMesh fun m => { m with drops := (port, cause, n + 1) :: m.drops.filter fun x => !(x.1 == port && x.2.1 == cause) }

/-- Path entries of a frame beyond the nodes on its way: 0xFFFF to the children of a router, 0xFFFE to a node that has not
joined (10 R260, R278, Table 10.13). -/
def pathTail (origin msg : Nat) : List Nat :=
  if origin ≠ 0 then [] else if msg = 0x17 then [0xFFFF] else if msg = 2 ∨ msg = 3 then [0xFFFE] else []

/-- Octets of a frame on the first link of its way (10 Table 10.4). A forwarded frame keeps its route header to the end. -/
def wayLen (l : List Assoc) (origin msg : Nat) (frag : Bool) (payload : Nat) : Nat :=
  let path := l.length - 1 + (pathTail origin msg).length
  frameLen path frag payload + (if path = 0 ∧ origin ≠ 0 then 5 else 0)

/-- A CTRL frame with `k` octets of fields fits every link to its receiver (10 Table 10.6). -/
def ctrlFits (s : State) (n : U32) (msg k : Nat) : Bool :=
  match pathTo s 16 n with
  | none => true
  | some l => decide (wayLen l 0 msg false (1 + k) ≤ linkPsdu l)

/-- Payload octets of one fragment to a node (10 R262). -/
def fragRoom (l : List Assoc) (msg : Nat) : Nat := linkPsdu l - wayLen l 0 msg true 0

/-- A DATA message with `k` octets of fields reaches its receiver in one frame or at most 32 fragments, as a datagram of at most
2,048 octets (10 R261, R262). -/
def dataFits (s : State) (n : U32) (msg k : Nat) : Bool :=
  match pathTo s 16 n with
  | none => true
  | some l => decide (1 + k ≤ 2048) && (decide (wayLen l 0 msg false (1 + k) ≤ linkPsdu l) || decide (1 + k ≤ 32 * fragRoom l msg))

/-- The port of the first link to a node. -/
def portTo (s : State) (n : U32) : Nat := (((pathTo s 16 n).bind (·.head?)).map (·.port)).getD 0

/-- A transmission that a command causes and that is refused: the command's notice carries BAD_LENGTH (10 R261). -/
def refuseOp (s : State) (t : OpTok) (bad : Bool) : State := if bad then finishOp s t { status := stBadLength } else s

/-- Queues a CTRL message: never fragmented, refused and counted when it is too large for a link (10 R261). -/
def queueCtrl (s : State) (n : U32) (msg : Nat) (fields : List Byte) : State :=
  if ctrlFits s n msg fields.length then pushFrame s n msg 3 true 0 none fields else countDrop s (portTo s n) 16

/-- Queues a DATA message, in the fewest fragments that fit the link's largest PSDU, or refuses and counts it (10 R261, R262).
The payload of a fragment is its cut of the message code and fields. -/
def queueData (s : State) (n : U32) (msg cls : Nat) (fields : List Byte) : State :=
  match pathTo s 16 n with
  | none => s
  | some l =>
    let body := le 1 msg ++ fields
    if !dataFits s n msg fields.length then countDrop s (portTo s n) 16
    else if wayLen l 0 msg false body.length ≤ linkPsdu l then pushFrame s n msg cls false 0 none fields
    else
      let room := fragRoom l msg
      let count := ceilDiv body.length room
      let tag := s.mesh.txTag.toNat
      let s := s.mapMesh fun m => { m with txTag := m.txTag + 1 }
      (List.range count).foldl (fun s k => pushFrame s n msg cls false 0 (some (tag, k, count)) (cut body (room * k) room)) s

/-! Connections (10 R268 to R275) -/

/-- Table 10.7 as bytes. -/
def paramBytes (p : ConnParams) : List Byte :=
  le 8 p.anchor ++ le 8 p.map.toNat ++ le 4 p.seed.toNat ++ le 2 p.interval ++ le 2 p.timeout ++ le 1 p.latency ++ le 1 p.rate ++ leInt 1 p.txp ++ le 1 p.psca

/-- The event whose anchor is at the present tick (10 R269). -/
def eventNow (s : State) (p : ConnParams) : Option Nat :=
  if p.interval ≠ 0 ∧ p.anchor ≤ s.clk.tick ∧ (s.clk.tick - p.anchor) % (10 * p.interval) = 0 then some ((s.clk.tick - p.anchor) / (10 * p.interval)) else none

/-- The event in progress: the last whose anchor has passed. -/
def eventAt (s : State) (p : ConnParams) : Nat := (s.clk.tick - p.anchor) / max 1 (10 * p.interval)

/-- A listen event (10 R269). -/
def listens (p : ConnParams) (n : Nat) : Bool := n % (p.latency + 1) == 0

/-- Frames held for a child of the module, in order. -/
def framesFor (s : State) (child : U32) : List TxFrame := s.mesh.txq.filter fun f => firstHop s f.node == some child

/-- Updates one held frame, by its SEQ and node. -/
def onFrame (s : State) (f : TxFrame) (g : TxFrame → TxFrame) : State :=
  s.mapMesh fun m => { m with txq := m.txq.map fun x => if x.seq == f.seq && x.node == f.node then g x else x }

/-- Drops one held frame. -/
def dropFrame (s : State) (f : TxFrame) : State :=
  s.mapMesh fun m => { m with txq := m.txq.filter fun x => !(x.seq == f.seq && x.node == f.node) }

/-- The listening of the module at an anchor that is no listen event: the widening of R273 by its own view of the child,
(PSCA + CSCA) x the time since it last heard it + 16 us, in ppm x us (10 R270, R273). -/
def widening (s : State) (a : Assoc) : Nat := (a.params.psca + a.csca) * (125 * (s.now - a.heard)) + 16000000

/-- A CONN_UPDATE to a node is held and has not been sent yet. -/
def updateHeld (s : State) (n : U32) : Bool := s.mesh.txq.any fun f => f.node == n && f.msg == 4 && f.origin == 0 && f.total == 0

/-- The parameters in force: after the event INSTANT those of the CONN_UPDATE that was sent (10 R275). -/
def paramsNow (s : State) (a : Assoc) : ConnParams :=
  match a.next with
  | none => a.params
  | some (p, i) => if decide (i < eventAt s a.params) && !updateHeld s a.node then p else a.params

/-- Parameters whose INSTANT has passed take force (10 R275). -/
def switchParams (s : State) (a : Assoc) : Assoc :=
  if paramsNow s a = a.params then a else { a with params := paramsNow s a, next := none }

/-- Parameters whose INSTANT has passed take force in every connection, those of routed nodes too (10 R275). -/
def switchAll (s : State) : State := s.mapMesh fun m => { m with assocs := m.assocs.map (switchParams s) }

/-- INSTANT of a CONN_UPDATE that goes out now: at least 8 listen events ahead (10 R275). -/
def newInstant (s : State) (a : Assoc) : Nat := let step := a.params.latency + 1; (eventAt s a.params / step + 9) * step

/-- A CONN_UPDATE goes out no less than 6 listen events before INSTANT: one that was held too long takes a later INSTANT
before it is first sent (10 R275). -/
def leadKept (s : State) (f : TxFrame) : State × TxFrame :=
  match assocOf s f.node with
  | none => (s, f)
  | some a =>
    match a.next with
    | none => (s, f)
    | some (p, i) =>
      let step := a.params.latency + 1
      if f.msg ≠ 4 ∨ f.origin ≠ 0 ∨ f.total ≠ 0 ∨ (eventAt s a.params / step + 6) * step ≤ i then (s, f)
      else
        let i := newInstant s a
        let b := le 2 (i % 65536) ++ paramBytes p
        ((s.onAssoc f.node fun a => { a with next := some (p, i) }).mapMesh fun m => { m with
          txq := m.txq.map fun x => if x.seq == f.seq && x.node == f.node then { x with payload := b } else x }, { f with payload := b })

/-- Starts a held frame to the module's child `a` in the event in progress: it must be able to end by the anchor plus a
quarter of INTERVAL, and its sub-band must allow it; else it waits (10 R256, R269). MORE says that another frame is held. -/
def txFrame (s : State) (a : Assoc) (f : TxFrame) : State :=
  let (s, f) := leadKept s f
  let p := paramsNow s a
  let n := eventAt s p
  let l := (pathTo s 16 f.node).getD [a]
  let path := (l.drop 1).map (·.short) ++ pathTail f.origin f.msg
  let len := wayLen l f.origin f.msg f.frag.isSome (f.payload.length + (if f.msg = 0 ∨ f.frag.isSome then 0 else 1))
  let us := airtime a.port p.rate len
  let late := 125 * (s.clk.tick - (p.anchor + 10 * p.interval * n))
  if 1250 * p.interval < 4 * (late + us) then s
  else
    let more := (framesFor s a.node).any fun x => !(x.seq == f.seq && x.node == f.node)
    let x : Sending := { port := a.port, chan := hopChannel p.map p.seed (n % 65536), us := us, cls := f.cls, seq := f.seq, dst := a.short, key := (netGen s).getD 0, level := 0, eui := [], ctrl := f.ctrl, ackReq := true, more := more, origin := f.origin, path := path, frag := f.frag, msg := f.msg, fields := f.payload, limit := p.txp }
    match transmit s x with
    | none => s
    | some s => onFrame s f fun f => { f with waiting := true, inEvent := f.inEvent + 1, total := f.total + 1 }

/-- A node is connected (10 Table 10.11). -/
def connected (s : State) (n : U32) : Bool := match assocOf s n with | none => false | some a => a.nstate == 2 || a.nstate == 3

/-- SAFE_STORE goes out for every command still waiting for its SAFE_ACK; one that cannot be sent is refused (10 R261, R284). -/
def safeFrames (s : State) : State :=
  s.mesh.safeToks.foldl (fun s x =>
    if (s.mesh.txq.any fun f => f.node == x.1 && f.msg == 0x12 && f.origin == 0) || !connected s x.1 then s
    else if dataFits s x.1 0x12 2 then queueData s x.1 0x12 2 (le 2 x.2.1)
    else refuseOp (s.mapMesh fun m => { m with safeToks := m.safeToks.filter fun y => y.2.2 != x.2.2 }) x.2.2 true) s

/-- SUIT to a lantern that is connected, FROM the period start of 07 R176; one that is not is told when it connects (10 R284). -/
def suitFrame (s : State) (n : U32) : State :=
  let s := s.mapMesh fun m => { m with suitDue := m.suitDue.filter fun x => x != n }
  if !connected s n then s.mapMesh fun m => { m with suitDue := m.suitDue ++ [n] }
  else match suitOf s n with
    | none => queueData s n 0x14 2 (le 2 0xFFFF ++ le 8 (codeStart (curRound s)))
    | some e => queueData s n 0x14 2 (le 2 e.code ++ le 8 e.effRound)

/-- SUIT goes out to every lantern it has not reached (10 R284). -/
def suitFrames (s : State) : State := s.mesh.suitDue.foldl (fun s n => if connected s n then suitFrame s n else s) s

/-- Messages that wait for their lantern to be connected. -/
def dueFrames (s : State) : State := suitFrames (safeFrames s)

/-- An empty DATA frame with ACK_REQ to a child (10 R269). -/
def pushEmpty (s : State) (n : U32) (cls : Nat) : State := pushFrame s n 0 cls false 0 none []

/-- The exchange that the parent starts at a listen event: the first frame held, otherwise an empty DATA frame, of class 1
when the supervision timer would run out before the next listen event (10 R269, Table 10.3). -/
def startEvent (s : State) (a : Assoc) : State :=
  let s := (framesFor s a.node).foldl (fun s f => onFrame s f fun f => { f with inEvent := 0, waiting := false }) (dueFrames s)
  match framesFor s a.node with
  | f :: _ => txFrame s a f
  | [] =>
    let due := decide (a.heard + 80 * a.params.timeout ≤ s.now + 10 * a.params.interval * (a.params.latency + 1))
    let s := pushEmpty s a.node (if due then 1 else 3)
    match framesFor s a.node with
    | f :: _ => txFrame s a f
    | [] => s

/-- The exchange of an event goes on while either side has more: the next frame held, or an empty one that a child with MORE
answers (10 R269, R270). -/
def continueEvent (s : State) (n : U32) (childMore : Bool) : State :=
  match assocOf s n with
  | none => s
  | some a =>
    let l := framesFor s n
    if !radioSends s || a.parent ≠ 0 || l.any (fun f => f.waiting) then s
    else match l with
      | f :: _ => txFrame s a f
      | [] =>
        if !childMore then s
        else
          let s := pushEmpty s n 3
          match framesFor s n with
          | f :: _ => txFrame s a f
          | [] => s

/-- Row CONNECTION_EVENT: the anchor of an event of one of the module's children (10 R269, R270). At an event that is no
listen event the module only listens. -/
def execConnectionEvent (node : U32) (s : State) : Result :=
  .next (match assocOf s node with
    | none => s
    | some a =>
      if !radioSends s || a.parent ≠ 0 || a.nstate < 1 || 3 < a.nstate || workLost s 3 then s
      else
        let a := switchParams s a
        match eventNow s a.params with
        | none => s
        | some n =>
          if listens a.params n then startEvent (s.onAssoc node fun a => { switchParams s a with evCount := n % 65536, window := 0 }) a
          else s.onAssoc node fun a => { switchParams s a with evCount := n % 65536, window := widening s a })

/-! Removal (10 R281, R293) -/

/-- Removes an association with the frames held for its node. -/
def dropAssoc (s : State) (n : U32) : State :=
  s.mapMesh fun m => { m with assocs := m.assocs.filter (fun a => a.node != n), txq := m.txq.filter fun f => f.node != n }

/-- Data of the notices of 0x0509 (06 Table 6.11). -/
def countData (n : Nat) : List Byte := le 2 n ++ le 2 0

/-- The notice of a release whose nodes are all gone (10 R293). -/
def releaseDone (s : State) : State :=
  s.mesh.adoptTok.foldl (fun s x =>
    if s.mesh.adopted.any (fun n => n.home == x.1) || s.pow.stores.any (fun y => y.tok == some x.2.1) then s
    else finishIfDone (s.mapMesh fun m => { m with adoptTok := m.adoptTok.filter fun y => y.2.1 != x.2.1 }) (some x.2.1) { data := countData x.2.2 }) s

/-- A node is gone from the mesh: its address is free, and an adopted record being released goes with it. -/
def nodeGone (s : State) (a : Assoc) : State :=
  let s := dropAssoc s a.node
  if a.removeRec then releaseDone (s.mapMesh fun m => { m with adopted := m.adopted.filter fun n => n.node != a.node }) else s

/-- Sends LEAVE to a node that is connected, or lets go of one that is not (10 R281, R293). The REASON is free. -/
def sendLeave (s : State) (n : U32) (homeFirst removeRec : Bool) : State :=
  match assocOf s n with
  | none => if removeRec then releaseDone (s.mapMesh fun m => { m with adopted := m.adopted.filter fun x => x.node != n }) else s
  | some a =>
    if 1 ≤ a.nstate ∧ a.nstate ≤ 3 then
      let s := s.onAssoc n fun a => { a with leaving := true, removeRec := removeRec }
      queueCtrl s.bump n 0x05 (le 1 (Config.freeNat s.fresh) ++ le 1 (bit homeFirst))
    else nodeGone (s.onAssoc n fun a => { a with removeRec := removeRec }) { a with removeRec := removeRec }

/-- A frame was acknowledged on its first hop (10 R259, R281). Of a node behind a router that acknowledgement is not the
node's: its record goes when its connection is lost. -/
def frameAcked (s : State) (f : TxFrame) : State :=
  let s := dropFrame s f
  if f.msg = 0x05 ∧ f.origin = 0 then
    match assocOf s f.node with
    | none => s
    | some a => if a.leaving && a.parent == 0 then nodeGone s a else s
  else s

/-- A lantern is to be told its level anew. -/
def forgetLevels (s : State) (gone : U32 → Bool) : State :=
  s.mapSch fun y => { y with lanterns := y.lanterns.filter fun f => !gone f.node }

/-- A frame is given up after its limit, and the failure is reported upward (10 R271): LEAVE, CONN_UPDATE and SUIT are sent anew,
SAFE_STORE too while its command waits, and a lantern that missed its level is told it again. -/
def frameFailed (s : State) (f : TxFrame) : State :=
  let s := dropFrame s f
  if f.origin ≠ 0 then s
  else match f.msg with
    | 0x04 => pushFrame s f.node 0x04 3 true 0 none f.payload
    | 0x05 => pushFrame s f.node 0x05 3 true 0 none f.payload
    | 0x07 => pushFrame s f.node 0x07 3 true 0 none f.payload
    | 0x10 => forgetLevels s fun n => n == f.node
    | 0x14 => suitFrame s f.node
    | 0x17 => forgetLevels s fun n => (assocOf s n).any fun a => a.parent == f.node
    | _ => s

/-- Row ACK_TIMEOUT: a frame to a child goes unacknowledged (10 R271, R281): retried in the event, else held for the next,
dropped after the eighth time. An empty frame is not held. -/
def execAckTimeout (node : U32) (s : State) : Result :=
  .next (match assocOf s node, (framesFor s node).find? (fun f => f.waiting) with
    | some a, some f =>
      if f.inEvent < 3 ∧ f.total < 8 then txFrame (onFrame s f fun f => { f with waiting := false }) a { f with waiting := false }
      else
        let s := s.onAssoc node fun a => { a with nstate := if a.nstate = 2 then 3 else a.nstate }
        if f.msg = 0 then dropFrame s f
        else if 8 ≤ f.total then frameFailed s f
        else onFrame s f fun f => { f with waiting := false }
    | _, _ => s)

/-- Row SUPERVISION_TIMEOUT: the timer of a connection reaches TIMEOUT (10 R274). Of a node behind a router the row stands for
what its router found (log 198); the module itself must have heard nothing of it for TIMEOUT. -/
def execSupervisionTimeout (node : U32) (s : State) : Result :=
  .next (match assocOf s node with
    | none => s
    | some a =>
      if !radioSends s || a.nstate < 1 || 3 < a.nstate || decide (s.now < a.heard + 80 * a.params.timeout) then s
      else
        let s := s.event 0x0501 (le 4 node.toNat ++ le 2 a.short ++ le 1 a.port ++ le 1 0)
        let suit := s.mesh.txq.any fun f => f.node == node && f.msg == 0x14 && f.origin == 0
        let s := s.mapMesh fun m => { m with
          txq := m.txq.filter fun f => f.node != node
          suitDue := if suit then m.suitDue ++ [node] else m.suitDue }
        if a.leaving then nodeGone s a else s.onAssoc node fun a => { a with nstate := 4, next := none })

/-! Beacons (10 R276, R277) -/

/-- The module takes no more children. -/
def meshFull (s : State) (port : Nat) : Bool :=
  decide (512 ≤ (s.mesh.assocs.filter fun a => a.parent == 0 && a.port == port).length) || decide (assocCapacity s ≤ s.mesh.assocs.length)

/-- The beacon payload (10 Table 10.10). The module's own TIME_ERR is 1 µs (10 R275, worked example). -/
def beaconPayload (s : State) (port : Nat) (standby : Bool) : List Byte :=
  let lock := s.eth.servo.lock
  le 4 (segNumber s).toNat ++ le 8 s.clk.tick ++ le 4 s.mesh.restart.toNat ++ le 1 0 ++
    le 1 (bit (!standby) + 2 * bit standby + 4 * bit (meshFull s port) + 8 * bit (lock != 2) + 16 * bit (lock == 0)) ++
    le 2 1 ++ le 2 (profileInForce s).1 ++ le 4 (s.mesh.adopting.headD 0).toNat

/-- Airtime of a beacon: on RF-A always at 50 kbit/s (10 R253). -/
def beaconUs (port : Nat) : Nat := airtime port 0 (frameLen 0 false 26)

/-- The header of a beacon: BEACON, SEC, to 0xFFFF, MIC-64 with the payload in clear (10 R276, Tables 10.4, 10.5). -/
def beaconHeader (seq : U16) (fc key : Nat) : List Byte :=
  le 2 0x0A ++ le 2 seq.toNat ++ le 2 0xFFFF ++ le 2 0 ++ le 4 fc ++ le 1 (key + 64)

/-- Sends a beacon as its sub-band allows (10 Table 10.3). -/
def sendBeacon (s : State) (port : Nat) (standby : Bool) : State :=
  match netGen s with
  | none => s
  | some g =>
    if !mayStart s port (rendezvous port) 1 (beaconUs port) then s
    else match takeFc s with
      | none => s
      | some (s, fc) =>
        let key := ((netHand s g).map (·.key)).getD []
        let b := beaconPayload s port standby
        (charge (takeSeq s).1 port (rendezvous port) (beaconUs port)).bump.emit
          (.beacon port (outDbm s port (portMax s port)) b (framePsdu s key (beaconHeader s.mesh.txSeq fc g) fc 1 b))

/-- Row BEACON: at tick 4,000 of a round, on RF-A of every eighth round (10 R276); one on each port. -/
def execBeacon (port : Nat) (s : State) : Result :=
  .next (if radioSends s && tickInRound s == 4000 && (port == 2 || (port == 1 && curRound s % 8 == 0)) && !s.mesh.beaconSent.contains (port, s.clk.tick) then
      sendBeacon (s.mapMesh fun m => { m with beaconSent := (port, s.clk.tick) :: m.beaconSent.filter fun x => x.1 != port }) port false
    else s)

/-- Row STANDBY_BEACON: RF-A, once every 16 rounds of the free-running time (10 R277). -/
def execStandbyBeacon (s : State) : Result :=
  .next (if s.sys.mode == .standby && curRound s % 16 == 0 && s.mesh.standbySent != some (curRound s) then
      sendBeacon (s.mapMesh fun m => { m with standbySent := some (curRound s) }) 1 true
    else s)

/-! Reception (10 R259 to R267) -/

/-- The longest PSDU that a port's PHR can signal (10 Table 10.6). -/
def portPsdu (port : Nat) : Nat := if port = 1 then 2047 else 127

/-- Octets that the header fields of a frame require (10 Table 10.4). -/
def headerNeeds (f : LernasFrame) : Nat :=
  8 + (if f.fc.getLsbD 3 then 5 + 8 else 0) + (if f.fc.getLsbD 6 then 5 + (if f.hopsB.getLsbD 5 then 2 * (f.hopsB.toNat % 32) else 0) else 0) +
    (if f.fc.getLsbD 5 then 4 else 0) + 4

/-- A reserved short address (10 R260). -/
def addrReserved (v : U16) : Bool := decide (0x1800 < v.toNat) && decide (v.toNat < 0xFFFE)

/-- The cause for which a frame is dropped by its form (10 R259, R261, Table 10.6), none for a sound one: the first that applies
in the order of the rule. -/
def formCause (f : LernasFrame) : Option Nat :=
  let typ := f.fc.toNat % 8
  let sec := f.fc.getLsbD 3
  let key := f.keyId.toNat % 64
  let route := f.fc.getLsbD 6
  if 3 < typ then some 8
  else if f.fc.extractLsb' 9 2 ≠ 0 then some 9
  else if addrReserved f.dst || addrReserved f.src || (route && (addrReserved f.origin || addrReserved f.final || f.path.any addrReserved)) then some 10
  else if sec && (!((decide (1 ≤ key) && decide (key ≤ 3)) || key == 63) || decide (1 < f.keyId.toNat / 64)) then some 11
  else if typ = 1 then (if f.octets == 12 && !sec && !f.fc.getLsbD 4 && !f.fc.getLsbD 5 && !route then none else some 13)
  else if !sec then some 12
  else if f.fc.getLsbD 4 && f.dst == 0xFFFF then some 14
  else if f.octets < 25 then some 3
  else if f.octets < headerNeeds f then some 15
  else none

/-- The replay check of 10 R266: none below the window; otherwise the state and whether the frame is delivered. -/
def replay (b : Option Nbr) (gen fc : Nat) : Option (Nbr × Bool) :=
  match b with
  | none => some ({ gen := gen, hi := fc, win := 1 }, true)
  | some x =>
    if x.hi < fc then
      let d := fc - x.hi
      some ({ x with hi := fc, win := if 64 ≤ d then 1 else (x.win <<< d) ||| 1 }, true)
    else if 64 ≤ x.hi - fc then none
    else if x.win.getLsbD (x.hi - fc) then some (x, false)
    else some ({ x with win := x.win ||| (1 <<< (x.hi - fc)) }, true)

/-- Sends an acknowledgement when the radio may: 12 octets, with PEND when a frame is held for the receiver
(10 R256, R259, R294, Table 10.5). -/
def sendAck (s : State) (port ch : Nat) (rate dst : Nat) (seq : U16) (pend : Bool) : State :=
  if radioSends s && mayStart s port ch 1 (airtime port rate 12) then
    let b := le 2 (1 + 0x100 * bit pend) ++ le 2 seq.toNat ++ le 2 dst ++ le 2 0
    (charge s port ch (airtime port rate 12)).bump.emit (.radioAck port (outDbm s port (portMax s port)) dst seq (b ++ padTo 4 (Config.frameFcs b)))
  else s

/-- A valid frame from a node: its supervision timer restarts, and a first answer connects it, so that its level, and a SUIT it
has missed, are sent (10 R274, R284, Table 10.11). -/
def heardFrom (s : State) (n : U32) (rssi : Int) : State :=
  match assocOf s n with
  | none => s
  | some a =>
    let s := s.onAssoc n fun a => { a with heard := s.now, lastTick := s.clk.tick, rssi := rssi, nstate := if a.nstate = 1 ∨ a.nstate = 3 then 2 else a.nstate }
    if a.nstate = 1 then forgetLevels s fun x => x == n else s

/-- An acknowledgement of the frame outstanding to a child; the exchange goes on while either side has more
(10 R269, R271, Table 10.5). -/
def ackIn (s : State) (f : LernasFrame) : State :=
  match s.mesh.assocs.find? fun a => a.short == f.src.toNat && a.parent == 0 with
  | none => s
  | some a =>
    match (framesFor s a.node).find? fun x => x.waiting && x.seq == f.seq with
    | none => s
    | some x => continueEvent (frameAcked (heardFrom s a.node f.rssi) x) a.node (f.fc.getLsbD 7 || f.fc.getLsbD 8)

/-- A fragment: the datagram once it is whole (10 R262). -/
def fragIn (s : State) (f : LernasFrame) (src : Nat) : State × Option (List Byte) :=
  let i := f.index.toNat
  let c := f.count.toNat
  if c = 0 ∨ 32 < c ∨ c ≤ i then (countDrop s f.port 18, none)
  else
    let same (x : FragAsm) : Bool := x.src == src && x.tag == f.tag
    match s.mesh.frags.find? same with
    | some x =>
      if x.count ≠ c ∨ x.parts.any (fun y => y.1 == i) then (s, none)
      else
        let parts := putSorted x.parts (·.1) (i, f.payload)
        if 2048 < ((parts.map fun y => y.2.length).sum) then (countDrop s f.port 7, none)
        else if parts.length = c then (s.mapMesh fun m => { m with frags := m.frags.filter fun y => !same y }, some (parts.map (·.2)).flatten)
        else (s.mapMesh fun m => { m with frags := m.frags.map fun y => if same y then { y with parts := parts } else y }, none)
    | none =>
      if c = 1 then (s, some f.payload)
      else if 2048 < f.payload.length then (countDrop s f.port 7, none)
      else
        let keep := if 64 ≤ s.mesh.frags.length then s.mesh.frags.drop 1 else s.mesh.frags
        (s.mapMesh fun m => { m with frags := keep ++ [{ src := src, tag := f.tag, count := c, parts := [(i, f.payload)], since := s.now }] }, none)

/-- Row FRAGMENT_TIMEOUT: a reassembly is discarded 30 s after its first fragment (10 R262). -/
def execFragmentTimeout (src : Nat) (tag : U16) (s : State) : Result :=
  .next (s.mapMesh fun m => { m with frags := m.frags.filter fun x => !(x.src == src && x.tag == tag && decide (x.since + secs 30 ≤ s.now)) })

/-! Joining (10 R278 to R281, R292) -/

/-- Updates the record of a node, own or adopted. -/
def State.onRec (s : State) (n : U32) (f : NodeRec → NodeRec) : State :=
  let one (x : NodeRec) : NodeRec := if x.node == n then f x else x
  let s := { s with cfg := { s.cfg with nodes := s.cfg.nodes.map one } }
  s.mapMesh fun m => { m with adopted := m.adopted.map one }

/-- The lowest free short address of a node's range (10 R260). -/
def freeShort (s : State) (adopted : Bool) : Nat :=
  let used := (allNodes s).filterMap (·.short) ++ s.mesh.assocs.map (·.short)
  let lo := if adopted then 0x1001 else 0x0001
  (((List.range (if adopted then 2048 else 4096)).map (· + lo)).find? fun a => !used.contains a).getD lo

/-- The anchor of event 0: the next tick that lies 10 x (short address modulo INTERVAL) ticks after a multiple of
10 x INTERVAL (15 R395). -/
def anchorOf (s : State) (short interval : Nat) : Nat :=
  let period := 10 * interval
  let phase := 10 * (short % interval)
  (s.clk.tick + period - phase) / period * period + phase

/-- Parameters of a new connection (10 Table 10.7, 15 R395): RATE and TXP are free within their ranges. -/
def joinParams (s : State) (port short : Nat) (sleepy : Bool) : ConnParams :=
  let interval := if sleepy then 16 else 400
  let top := portMax s port
  { anchor := anchorOf s short interval, map := mapOf (profileInForce s).1 port, seed := crc32 (le 4 (segNumber s).toNat ++ le 2 short),
    interval := interval, timeout := if sleepy then 12000 else 1000, latency := if sleepy then 255 else 0,
    rate := if port = 1 then Config.freeNat s.fresh % 4 else 0, txp := top - (Config.freeNat (s.fresh + 1) % (top + 11).toNat : Nat), psca := 2 }

/-- The depth that a node gets below a parent; 1 below the module. -/
def depthBelow (s : State) (parent : U32) : Nat := if parent = 0 then 1 else ((assocOf s parent).map (·.hops)).getD 16 + 1

/-- The children of a router. -/
def childCount (s : State) (n : U32) : Nat := (s.mesh.assocs.filter fun a => a.parent == n).length

/-- The new parent has room (10 R278, R279). -/
def parentRoom (s : State) (parent : U32) (port : Nat) : Bool :=
  if parent = 0 then decide ((s.mesh.assocs.filter fun a => a.parent == 0 && a.port == port).length < 512)
  else match assocOf s parent with
    | none => false
    | some a => decide (childCount s parent < a.maxChild)

/-- Sleepy associations (10 R278). -/
def sleepyCount (s : State) : Nat := (s.mesh.assocs.filter fun a => ((nodeRec s a.node).map (·.sleepy)).getD false).length

/-- The home of a node lets it in: its own segment, or it is being adopted (10 R278). -/
def homeOk (s : State) (j : JoinReq) (n : NodeRec) : Bool :=
  if n.origin = 1 then s.mesh.adopting.contains n.home else j.home == segNumber s

/-- The node that a JOIN_REQ comes from: an own record first, then an adopted one. -/
def joiningNode (s : State) (j : JoinReq) : Option NodeRec :=
  (allNodes s).find? fun n => n.eui == j.eui && homeOk s j n

/-- The port on which a node is allowed: its record's PORT, else the port of its first join; 0 any (15 R395). -/
def allowedPort (n : NodeRec) : Nat := if n.port = 0 then n.joinPort else n.port

/-- CAP names a port (10 Table 10.13). -/
def capHas (cap : U8) (port : Nat) : Bool := (port == 1 && cap.getLsbD 2) || (port == 2 && cap.getLsbD 3)

/-- The module admits the node (10 R278, R279). -/
def joinAllowed (s : State) (j : JoinReq) (n : NodeRec) (parent : U32) : Bool :=
  let s := dropAssoc s n.node
  j.typ == n.typ && (allowedPort n == 0 || allowedPort n == j.port) && capHas j.cap j.port && parentRoom s parent j.port &&
    decide (s.mesh.assocs.length < assocCapacity s) && (!n.sleepy || decide (sleepyCount s < 1536)) && decide (depthBelow s parent ≤ 16)

/-- Sends an answer to a node that has not joined on the rendezvous channel (10 R278): JOIN_RSP under its join key, encrypted;
others under the network key in clear, as a beacon, since the join key protects JOIN_REQ and JOIN_RSP alone (10 R263, log 194). -/
def sendJoin (s : State) (o : JoinOut) : Option State :=
  let rsp := o.msg == 2
  let (s, q) := takeSeq s
  let us := airtime o.port 0 (frameLen 0 false (1 + o.fields.length))
  transmit s { port := o.port, chan := rendezvous o.port, us := us, cls := 3, seq := q, dst := 0xFFFE, key := if rsp then 63 else (netGen s).getD 0, level := bit (!rsp), eui := o.eui, ctrl := true, ackReq := false, more := false, origin := 0, path := [], frag := none, msg := o.msg, fields := o.fields, limit := portMax s o.port }

/-- Sends an answer to a node that has not joined: directly, where it waits while its sub-band does not allow it, or back
through its router (10 R256, R278). -/
def answerJoin (s : State) (port : Nat) (eui : List Byte) (parent : U32) (msg : Nat) (fields : List Byte) : State :=
  if parent = 0 then
    let o : JoinOut := { port := port, msg := msg, fields := fields, eui := eui, since := s.now }
    (sendJoin s o).getD (s.mapMesh fun m => { m with joinOut := m.joinOut.filter (fun x => x.eui != eui) ++ [o] })
  else queueCtrl s parent msg fields

/-- The answers that wait go out when they may; after 10 s their node asks again (10 R256, R278): at each round boundary. -/
def joinRound (s : State) : State :=
  let l := s.mesh.joinOut.filter fun x => decide (s.now < x.since + secs 10)
  l.foldl (fun s x => match sendJoin s x with
    | some s => s
    | none => s.mapMesh fun m => { m with joinOut := m.joinOut ++ [x] }) (s.mapMesh fun m => { m with joinOut := [] })

/-- The event for requests of a foreign segment: the first, and every hundredth after it (10 R292). -/
def foreignJoin (s : State) (seg : U32) : State :=
  let n := ((s.mesh.joinWaits.find? fun x => x.1 == seg).map (·.2)).getD 0 + 1
  let s := s.mapMesh fun m => { m with joinWaits := (seg, n) :: m.joinWaits.filter fun x => x.1 != seg }
  if (n - 1) % 100 = 0 then s.event 0x0506 (le 4 seg.toNat ++ le 4 n) else s

/-- JOIN_WAIT: RETRY 60 to a node of a segment that is not being adopted, free otherwise (10 R278, R292). -/
def joinWait (s : State) (j : JoinReq) (parent : U32) : State :=
  let foreign := j.home != 0 && j.home != segNumber s && !s.mesh.adopting.contains j.home
  let s := match (allNodes s).find? fun n => n.eui == j.eui with
    | none => s
    | some n => s.mapMesh fun m => { m with waiting := n.node :: m.waiting.filter fun x => x != n.node }
  let s := if foreign then foreignJoin s j.home else s
  answerJoin s.bump j.port j.eui parent 0x03 (le 2 (if foreign then 60 else Config.freeNat s.fresh))

/-- Notes that replicated records changed (10 R288). -/
def recordsChanged (s : State) : State := s.mapMesh fun m => { m with version := m.version + 1, lastChange := s.now }

/-- Admits a node: its address, its association and JOIN_RSP (10 R260, R278, 15 R395). -/
def joinAdmit (s : State) (j : JoinReq) (n : NodeRec) (parent : U32) : State :=
  let old := assocOf s n.node
  let s := dropAssoc s n.node
  let short := n.short.getD (freeShort s (n.origin == 1))
  let port := if n.joinPort = 0 then j.port else n.joinPort
  let fresh := n.short != some short || n.joinPort != port
  let s := s.onRec n.node fun x => { x with short := some short, joinPort := port }
  let s := if fresh ∧ n.origin = 0 then recordsChanged s else s
  let p := joinParams s j.port short n.sleepy
  let kids := if j.cap.getLsbD 0 && !n.sleepy then min j.maxChild.toNat 32 else 0
  let a : Assoc := { node := n.node, short := short, nstate := 1, port := j.port, hops := depthBelow s parent, parent := parent, level := 0, ackRound := 0, rssi := j.rssi, lastTick := s.clk.tick, heard := s.now, params := p, next := none, evCount := 0, nbrs := (old.map (·.nbrs)).getD [], floors := (old.map (·.floors)).getD [], window := 0, csca := j.csca.toNat, maxPsdu := j.maxPsdu.toNat, maxChild := kids, leaving := false, removeRec := false, nflags := 0 }
  let s := s.mapMesh fun m => { m with assocs := putSorted m.assocs (fun x => x.node.toNat) a, waiting := m.waiting.filter fun x => x != n.node }
  let s := if n.origin = 0 ∧ n.short.isNone then requestStore s .nand (anteMj .nand) .nodeShort none else s
  let g := (netGen s).getD 0
  let key := ((netHand s g).map (·.key)).getD []
  let f := le 2 short ++ le 4 (segNumber s).toNat ++ le 4 s.mesh.restart.toNat ++ le 1 g ++ padTo 16 key ++ le 2 (profileInForce s).1 ++
    le 2 (4001 + Config.freeNat (s.fresh + 2) % 3199) ++ le 1 kids ++ paramBytes p
  answerJoin (s.bump.bump.bump) j.port j.eui parent 0x02 f

/-- The port that a joining node gets: the one its JOIN_REQ came in on; behind a router, whose port for its children the frame does
not name, the record's, else one that its CAP names, free between two (10 R278, 15 R395, log 199). -/
def joinPortOf (s : State) (j : JoinReq) : Nat :=
  if j.via = 0 then j.port
  else
    let want := ((joiningNode s j).map allowedPort).getD 0
    let l := [1, 2].filter fun p => capHas j.cap p
    if want ≠ 0 then want else l.getD (Config.freeNat s.fresh % max 1 l.length) j.port

/-- A JOIN_REQ reaches the module (10 R278, R292). -/
def joinReq (s : State) (j : JoinReq) : State :=
  if !radioSends s then s
  else
    let parent : U32 := if j.via = 0 then 0 else ((s.mesh.assocs.find? fun a => a.short == j.via.toNat).map (·.node)).getD 0
    let j := { j with port := joinPortOf s j }
    let s := (if j.via = 0 then s else s.bump).mapMesh fun m => { m with caps := (j.eui, j.cap) :: m.caps.filter fun x => x.1 != j.eui }
    match joiningNode s j with
    | some n => if (j.via == 0 || parent != 0) && joinAllowed s j n parent then joinAdmit s j n parent else joinWait s j parent
    | none => joinWait s j parent

/-- Row JOIN_REQ. -/
def execJoinReq (j : JoinReq) (s : State) : Result := .next (joinReq s j)

/-! Node messages (10 R283, R284) -/

/-- A LEVEL_ACK (10 R284). -/
def levelAck (s : State) (n : U32) (level round : Nat) : State := s.onAssoc n fun a => { a with level := level, ackRound := round }

/-- Row LEVEL_ACK. -/
def execLevelAck (node : U32) (level : Nat) (round : Nat) (s : State) : Result :=
  .next (if radioHears s then levelAck s node level round else s)

/-- A SAFE_ACK: the level is confirmed and the notice of its command placed (10 R284, 06 R147). -/
def safeAck (s : State) (n : U32) (safe : Nat) : State :=
  if (nodeRec s n).isNone then s
  else
    let s := s.mapMesh fun m => { m with safeConf := (n, safe) :: m.safeConf.filter fun x => x.1 != n }
    let done := s.mesh.safeToks.filter fun x => x.1 == n && x.2.1 == safe
    let s := s.mapMesh fun m => { m with safeToks := m.safeToks.filter fun x => !(x.1 == n && x.2.1 == safe) }
    done.foldl (fun s x => finishIfDone s (some x.2.2) {}) s

/-- Row SAFE_ACK. -/
def execSafeAck (node : U32) (safe : Nat) (s : State) : Result := .next (if radioHears s then safeAck s node safe else s)

/-- A STATUS message: its flags and the beacons it reports, with the preferences that follow (10 R286, R290). -/
def statusIn (s : State) (m : NodeStatus) : State :=
  let s := s.onAssoc m.node fun a => { a with nflags := m.flags }
  let upd (n : NodeRec) : NodeRec := if n.node == m.node then { n with beacons := m.beacons } else n
  let c := withPrefs { s.cfg with nodes := s.cfg.nodes.map upd }
  let t := { s with cfg := c }
  if c.nodes.map (·.prefer) = s.cfg.nodes.map (·.prefer) then t else recordsChanged t

/-- Row STATUS. -/
def execStatus (m : NodeStatus) (s : State) : Result := .next (if radioHears s then statusIn s m else s)

/-- The JOIN_REQ in a frame's payload (10 Table 10.13). -/
def joinOf (f : LernasFrame) (b : List Byte) (via : U16) : JoinReq where
  eui := cut b 1 8
  home := fld b 9 32
  typ := fld b 13 16
  cap := fld b 15 8
  csca := fld b 16 8
  maxPsdu := fld b 17 16
  maxChild := fld b 19 8
  port := f.port
  via := via
  counter := f.secFc.toNat
  rssi := f.rssi

/-- The parent of a relayed JOIN_REQ: the router it came from; with more hops the frame does not name it and it is free
among the routers (10 R278). -/
def relayedVia (s : State) (f : LernasFrame) : U16 :=
  if f.hopsB.toNat % 32 ≤ 1 then f.src
  else
    let l := (s.mesh.assocs.filter fun a => decide (0 < a.maxChild)).map (·.short)
    BitVec.ofNat 16 (l.getD (Config.freeNat s.fresh % max 1 l.length) f.src.toNat)

/-- Hands a DATA message to its receiver by its code; an unknown code is ignored (10 R283). -/
def dispatchMsg (s : State) (n : U32) (b : List Byte) : State :=
  match num b 0 1 with
  | 0x11 => levelAck s n (num b 1 2) (num b 3 8)
  | 0x13 => safeAck s n (num b 1 2)
  | 0x15 => statusIn s { node := n, level := num b 1 2, flags := fld b 3 16, temp := (fld b 5 16).toInt, beacons := (List.range (num b 7 1)).map fun k => (fld b (8 + 5 * k) 32, (fld b (12 + 5 * k) 8).toInt) }
  | 0x16 =>
    match execPresence { node := n, kind := fld b 1 8, speed := fld b 2 16, pos := fld b 4 32, tick := fld b 8 64 } s with
    | .next s => s
    | _ => s
  | _ => s

/-- A routed frame of one node for another goes down its path, secured afresh (10 R280). -/
def forwardFrame (s : State) (f : LernasFrame) : State :=
  match s.mesh.assocs.find? fun a => a.short == f.final.toNat with
  | none => s
  | some a =>
    let ctrl := f.fc.toNat % 8 == 3
    let frag := if f.fc.getLsbD 5 then some (f.tag.toNat, f.index.toNat, f.count.toNat) else none
    let code := if frag.isSome then 0xFF else num f.payload 0 1
    let body := if frag.isSome ∨ code = 0 then f.payload else f.payload.drop 1
    let fits := match pathTo s 16 a.node with
      | none => false
      | some l => decide (wayLen l f.origin.toNat code frag.isSome f.payload.length ≤ linkPsdu l)
    if fits then pushFrame s a.node code 3 ctrl f.origin.toNat frag body else countDrop s (portTo s a.node) 16

/-- A frame that passed its checks goes up (10 R262, R263, R280, R283): whole datagrams reach their receiver, frames for another
node go on, a frame that would take a 17th hop is dropped; under a join key there is only JOIN_REQ. -/
def deliverFrame (s : State) (f : LernasFrame) : State :=
  let routed := f.fc.getLsbD 6
  let ctrl := f.fc.toNat % 8 == 3
  let src := if routed then f.origin.toNat else f.src.toNat
  if routed && !f.hopsB.getLsbD 5 && decide (16 < f.hopsB.toNat % 32) then countDrop s f.port 17
  else if routed && f.final != 0 then forwardFrame s f
  else
    let (s, b) := if f.fc.getLsbD 5 then fragIn s f src else (s, some f.payload)
    match b with
    | none => s
    | some b =>
      if f.keyId.toNat % 64 = 63 then (if ctrl && num b 0 1 == 1 then joinReq s (joinOf f b 0) else s)
      else if ctrl then (if num b 0 1 = 1 ∧ routed ∧ f.origin = 0xFFFE then joinReq s.bump (joinOf f b (relayedVia s f)) else s)
      else match s.mesh.assocs.find? fun a => a.short == src with
        | none => s
        | some a => dispatchMsg (if routed then heardFrom s a.node f.rssi else s) a.node b

/-- Channel and rate of the present exchange with a sender. -/
def ackChannel (s : State) (f : LernasFrame) : Nat × Nat :=
  if f.keyId.toNat % 64 = 63 then (rendezvous f.port, 0)
  else match s.mesh.assocs.find? fun a => a.short == f.src.toNat with
    | none => (rendezvous f.port, 0)
    | some a => let p := paramsNow s a; (hopChannel p.map p.seed (eventAt s p % 65536), p.rate)

/-- The acknowledgement of a frame that asks for one (10 R266). -/
def ackFor (s : State) (f : LernasFrame) : State :=
  let (ch, rate) := ackChannel s f
  let held := s.mesh.assocs.any fun a => a.short == f.src.toNat && !(framesFor s a.node).isEmpty
  if f.fc.getLsbD 4 then sendAck s f.port ch rate f.src.toNat f.seq held else s

/-- A frame under a join key with a good MIC: floor, replay by EUI-64, acknowledgement, delivery (10 R263, R266, R267). -/
def joinSecured (s : State) (f : LernasFrame) : State :=
  let eui := cut f.payload 1 8
  let fc := f.secFc.toNat
  let old := s.mesh.joinNbrs.find? fun x => x.eui == eui
  let floor := (old.map (·.floor)).getD 0
  if fc < floor then answerJoin (countDrop s f.port 5) f.port eui 0 0x06 (le 4 s.mesh.restart.toNat)
  else match replay (old.map (·.nbr)) 63 fc with
    | none => countDrop s f.port 5
    | some (_, false) => countDrop (ackFor s f) f.port 6
    | some (x, true) =>
      let s := s.mapMesh fun m => { m with joinNbrs := { eui := eui, nbr := x, floor := floor } :: m.joinNbrs.filter fun y => y.eui != eui }
      deliverFrame (ackFor s f) f

/-- A secured frame with a good MIC: floor, replay, acknowledgement, delivery; then the exchange goes on (10 R266, R267, R269,
R270). -/
def securedIn (s : State) (f : LernasFrame) : State :=
  let gen := f.keyId.toNat % 64
  let fc := f.secFc.toNat
  if gen = 63 then joinSecured s f
  else match s.mesh.assocs.find? fun a => a.short == f.src.toNat with
    | none => countDrop s f.port 4
    | some a =>
      if a.floors.any fun x => x.1 == gen && decide (fc < x.2) then queueCtrl (countDrop s f.port 5) a.node 0x06 (le 4 s.mesh.restart.toNat)
      else match replay (a.nbrs.find? fun x => x.gen == gen) gen fc with
        | none => countDrop s f.port 5
        | some (_, false) => countDrop (ackFor s f) f.port 6
        | some (x, true) =>
          let s := s.onAssoc a.node fun a => { a with nbrs := x :: a.nbrs.filter fun y => y.gen != gen }
          continueEvent (deliverFrame (ackFor (heardFrom s a.node f.rssi) f) f) a.node (f.fc.getLsbD 7)

/-- The module holds the key that a frame names (10 R263, 16 R439). -/
def keyHeld (s : State) (f : LernasFrame) : Bool :=
  let k := f.keyId.toNat % 64
  if k = 63 then !(lotHands s).isEmpty else (netHand s k).isSome

/-- Row LERNAS_FRAME_RECEIVE: form, MIC and replay, then delivery (10 R253, R259, R261, R266). Frames for another receiver
and beacons of other senders are not the module's. A frame whose key the module does not hold fails its MIC. -/
def execLernasFrameReceive (f : LernasFrame) (s : State) : Result :=
  .next (
    if !radioHears s || decide (portPsdu f.port < f.octets) then s
    else if f.octets < 12 then countDrop s f.port 2
    else if f.fcsType1 || !f.fcsOk then countDrop s f.port 1
    else match formCause f with
      | some c => countDrop s f.port c
      | none =>
        if f.dst ≠ 0 then s
        else match f.fc.toNat % 8 with
          | 1 => ackIn s f
          | 2 => if f.micOk && keyHeld s f then s else countDrop s f.port 4
          | _ => if f.micOk && keyHeld s f then securedIn s f else countDrop s f.port 4)

/-! Levels for lanterns (10 R284, 13 R344) -/

/-- A connected lantern to which a level may be sent. -/
def lanternUp (s : State) (n : NodeRec) : Bool :=
  refClass n.node == 1 && (match assocOf s n.node with | some a => (a.nstate == 2 || a.nstate == 3) && !a.leaving | none => false)

/-- What a lantern was last told. -/
def fadeRec (s : State) (n : U32) : Option Fade := s.sch.lanterns.find? fun f => f.node == n

/-- The next change of level or fade that a lantern is to be told: its AT, level and fade (10 R284, 13 R342, R344, R355). A lantern
not yet told anything gets its result at the earliest round. -/
def nextChange (s : State) (n : NodeRec) : Option (Nat × Nat × Nat) :=
  let e := earliestRound s
  match fadeRec s n.node with
  | none => let r := lanternRes s n e; some (e, r.level, fadeOf .dflt r.src)
  | some f =>
    if f.outstanding.isSome then none
    else
      let at_ (k : Nat) : Nat × Nat × Nat × Bool :=
        let r := lanternRes s n (e + k)
        let old := if s.sch.evalAll then Source.dflt else (lanternRes s n (e + k - 1)).src
        let fade := fadeOf old r.src
        (e + k, r.level, fade, r.level != f.level || (!s.sch.evalAll && old != r.src && fade != f.fade))
      (((List.range (curRound s + 31 - e)).map at_).find? fun x => x.2.2.2).map fun x => (x.1, x.2.1, x.2.2.1)

/-- The level that a test of 0x0409 asks of a lantern in COMMISSIONING; its safe level after the test (06 R147). -/
def testChange (s : State) (n : NodeRec) : Option (Nat × Nat × Nat) :=
  let e := earliestRound s
  let f := fadeRec s n.node
  if (f.bind (·.outstanding)).isSome then none
  else match testOf s 3 (refIndex n.node), f with
    | some t, some f => if f.level = t.value then none else some (e, t.value, 0)
    | some t, none => some (e, t.value, 0)
    | none, some f =>
      let safe := (confirmedSafe s n.node).getD 10000
      if f.level = safe then none else some (e, safe, 0)
    | none, none => none

/-- Notes a level message as outstanding (13 R344). -/
def noteChange (s : State) (n : U32) (x : Nat × Nat × Nat) : State :=
  let old := (fadeRec s n).getD { node := n, level := 0, fade := 0, since := 0, outstanding := none, next := none }
  s.mapSch fun y => { y with lanterns := putSorted y.lanterns (fun f => f.node.toNat) { old with outstanding := some x.1, next := some x.2 } }

/-- Sends the changes of one round: several lanterns of one router as a LEVEL_LIST that goes to it and on to its children at 0xFFFF,
others as LEVEL (10 R284, Table 10.13, 13 R344). -/
def sendLevels (s : State) (l : List (NodeRec × Nat × Nat × Nat)) : State :=
  let parentOf (n : NodeRec) : U32 := ((assocOf s n.node).map (·.parent)).getD 0
  let shortOf (n : NodeRec) : Nat := ((assocOf s n.node).map (·.short)).getD 0
  let mates (x : NodeRec × Nat × Nat × Nat) : List (NodeRec × Nat × Nat × Nat) := l.filter fun y => parentOf y.1 == parentOf x.1 && y.2.1 == x.2.1
  l.foldl (fun s x =>
    let g := mates x
    if parentOf x.1 = 0 ∨ g.length < 2 then queueData s x.1.node 0x10 2 (le 2 x.2.2.1 ++ le 2 x.2.2.2 ++ le 8 x.2.1)
    else if (g.head?.map fun y => y.1.node) = some x.1.node then
      queueData s (parentOf x.1) 0x17 2 (le 8 x.2.1 ++ le 1 g.length ++ (g.map fun y => le 2 (shortOf y.1) ++ le 2 y.2.2.1 ++ le 2 y.2.2.2).flatten)
    else s) s

/-- Row LANTERN_COMMAND_HANDOVER: the level changes due within 30 rounds go to the radio sequencers (13 R344, 10 R284). -/
def execLanternCommandHandover (s : State) : Result :=
  .next (
    if !radioSends s || workLost s 2 then s
    else
      let s := dueFrames s
      let change (n : NodeRec) : Option (Nat × Nat × Nat) := if s.sys.mode = .declarer then nextChange s n else testChange s n
      let l := ((allNodes s).filter (lanternUp s)).filterMap fun n => (change n).map fun x => (n, x)
      let s := l.foldl (fun s x => noteChange s x.1.node x.2) (sendLevels s l)
      s.mapSch fun y => { y with evalAll := false })

/-- A level message whose round has begun is in force (13 R344): done at each round boundary. -/
def levelsBegin (s : State) : State :=
  let n := curRound s
  let one (f : Fade) : Fade :=
    match f.outstanding, f.next with
    | some at_, some x => if at_ ≤ n then { f with level := x.1, fade := x.2, since := at_, outstanding := none, next := none } else f
    | _, _ => f
  s.mapSch fun y => { y with lanterns := y.lanterns.map one }

/-! Associations in NAND (10 R295) -/

/-- Row ASSOCIATION_COMMIT: the associations are to be committed under gate N (10 R295). -/
def execAssociationCommit (s : State) : Result :=
  .next (if radioHears s && !(s.pow.stores.any fun x => x.purpose == .assocs) then
      requestStore (s.mapMesh fun m => { m with assocCommit := curRound s }) .nand (anteMj .nand) .assocs none
    else s)

/-- The counters accepted of a neighbour after a restart or a takeover: its stored hi plus 2^20 and above (10 R267). -/
def raiseFloors (a : Assoc) : Assoc := { a with floors := a.nbrs.map fun x => (x.gen, x.hi + 2 ^ 20) }

/-- The same of a node under its join key (10 R267). -/
def raiseJoinFloor (x : JoinNbr) : JoinNbr := { x with floor := x.nbr.hi + 2 ^ 20 }

/-- The restart rule at a takeover: each neighbour's counters count from its hi plus 2^20 (10 R267). -/
def meshRestart (s : State) : State := s.mapMesh fun m => { m with
  assocs := m.assocs.map raiseFloors
  joinNbrs := m.joinNbrs.map raiseJoinFloor }

/-! Key change (10 R263, R265) -/

/-- A network key generation takes force: every counter under it starts at 0, the module's own and its neighbours', and the values
used up count on under the join keys (10 R263, R265, R267). -/
def newGeneration (s : State) (g used : Nat) : State :=
  let old := ((netHand s s.mesh.keyGen).map fun h => [h.key]).getD []
  let new := ((netHand s g).map fun h => [h.key]).getD []
  let one (a : Assoc) : Assoc := { a with
    nbrs := a.nbrs.filter fun x => x.gen != g
    floors := a.floors.filter fun x => x.1 != g }
  s.mapMesh fun m => { m with
    keyGen := g
    joinBase := m.joinBase + used
    secFc := 0
    fcEnd := 0
    keyNext := none
    netUsed := (m.netUsed ++ old ++ new).eraseDups
    assocs := m.assocs.map one }

/-- A loaded generation under whose key no counter has run: one may change to it without using a counter value twice (10 R265). -/
def freshGen (s : State) (g : Nat) : Bool :=
  match netHand s g with
  | none => false
  | some h => !s.mesh.netUsed.contains h.key && ((netHand s s.mesh.keyGen).map (·.key)) != some h.key

/-- At a round boundary: a new generation takes force at its FROM; a change begins when the counter passes 0xC000_0000 and the next
generation is loaded; a module in whose hands the present generation is not loaded takes the lowest that is (18 R481). The lead
of FROM is free. -/
def keyRound (s : State) : State :=
  let g := s.mesh.keyGen
  match s.mesh.keyNext with
  | some (g, since) => if since ≤ curRound s then newGeneration s g s.mesh.fcEnd else s
  | none =>
    if !radioSends s then s
    else if (s.sec.hands.getD g none).isNone then
      match [1, 2, 3].find? fun k => freshGen s k with
      | none => s
      | some k => newGeneration s k s.mesh.fcEnd
    else if s.mesh.secFc ≤ 0xC0000000 || !freshGen s (g % 3 + 1) then s
    else
      let key := ((netHand s (g % 3 + 1)).map (·.key)).getD []
      let since := curRound s + 1 + Config.freeNat s.fresh
      let s := s.bump.mapMesh fun m => { m with keyNext := some (g % 3 + 1, since) }
      (s.mesh.assocs.filter fun a => connected s a.node).foldl (fun s a => queueCtrl s a.node 0x07 (le 1 (g % 3 + 1) ++ padTo 16 key ++ le 8 since)) s

/-- The work of the mesh at a round boundary (10 R256, R265, R275). -/
def radioRound (s : State) : State := joinRound (switchAll (keyRound (dutyRound s)))

/-! Commands of group 0x05 -/

/-- Own node records and sleepy ones that the tables hold (15 Table 15.2). -/
def nodesFit (c : Cfg) : Bool := decide (c.nodes.length ≤ 4096)

/-- Field checks of 0x0501 (10 R279, R282, 13 R340); indices from 0x80_0000 are for adopted nodes (15 Table 15.2). The ports that a
node can use are known once it has asked to join. -/
def nodeChecks (s : State) (p : AddNodeP) : List (Nat × Bool) :=
  let cls := refClass p.node
  let sensor := p.typ.getLsbD 15
  let rated := p.typ.toNat % 1024
  let can := match s.mesh.caps.find? fun x => x.1 == p.eui with
    | none => true
    | some x => p.port == 0 || capHas x.2 p.port.toNat
  [(0x10, (cls == 1 || cls == 2) && decide (refIndex p.node < 0x800000)), (0x1C, sensor == (cls == 2) && (if sensor then rated == 0 else rated != 0)), (0x1E, decide (p.feeder.toNat < 8)),
   (0x1F, decide (p.port.toNat ≤ 2) && can), (0x20, decide (p.cls.toNat ≤ 7)), (0x21, p.sleepy == 0 || (p.sleepy == 1 && cls == 2)), (0x22, p.rsv == 0)]

/-- Command 0x0501, add node (10 R279). -/
def execAddNode (r : Req) (p : AddNodeP) (s : State) : Result :=
  .next (gmp s r { cmd := 0x0501, len := 20, fields := nodeChecks s p } fun t s => admitIf s t (.addNode r p) nodesFit)

/-- Command 0x0502, remove node: refused for an adopted one (10 R281, R291). -/
def execRemoveNode (r : Req) (p : RemoveNodeP) (s : State) : Result :=
  .next (gmp s r { cmd := 0x0502, len := 4, fields := [(0x10, (planned s).nodes.any fun n => n.node == p.node)] } fun t s => admitChange s t (.removeNode r p))

/-- NSTATE of a node (10 Table 10.11): one without a connection that was answered JOIN_WAIT is WAITING. -/
def nstateOf (s : State) (n : U32) : Nat :=
  let wait := s.mesh.waiting.contains n
  match assocOf s n with
  | some a => if a.nstate = 4 ∧ wait then 5 else a.nstate
  | none => if wait then 5 else 0

/-- Command 0x0503, node status (10 R281). -/
def execNodeStatus (r : Req) (p : NodeStatusP) (s : State) : Result :=
  .next (gmp s r { cmd := 0x0503, len := 4, fields := [(0x10, (nodeRec s p.node).isSome)] } fun _ s =>
    let o := ((nodeRec s p.node).map (·.origin)).getD 0
    let d := match assocOf s p.node with
      | some a => le 1 a.port ++ le 1 a.hops ++ le 1 o ++ le 4 a.parent.toNat ++ le 2 a.level ++ leInt 2 a.rssi ++ le 8 a.lastTick
      | none => le 1 0 ++ le 1 0 ++ le 1 o ++ le 4 0 ++ le 2 0 ++ le 2 0 ++ le 8 0
    (s, okWith (le 1 (nstateOf s p.node) ++ d)))

/-- Command 0x0504, associations (10 R281). -/
def execAssociations (r : Req) (p : AssociationsP) (s : State) : Result :=
  .next (gmp s r { cmd := 0x0504, len := 12, fields := [(0x1A, p.prsv == 0)] } fun _ s =>
    let item (a : Assoc) : Nat × List Byte :=
      (a.node.toNat, le 4 a.node.toNat ++ le 1 (nstateOf s a.node) ++ le 1 a.port ++ le 1 a.hops ++ le 1 (((nodeRec s a.node).map (·.origin)).getD 0))
    (s, okWith (page p.cursor p.max [] ((s.mesh.assocs.map item).foldl (fun l x => putSorted l (·.1) x) []))))

/-- Field checks of 0x0505 (10 R255, 06 R148, 02 Table 2.13). -/
def profileChecks (s : State) (p : ConfirmRegionalProfileP) : List (Nat × Bool) :=
  [(0x10, profileOk s p.profile.toNat), (0x12, decide (-10 ≤ i8 p.maxA) && decide (i8 p.maxA ≤ 27)), (0x13, decide (-10 ≤ i8 p.maxB) && decide (i8 p.maxB ≤ 20))]

/-- Command 0x0505, confirm regional profile (10 R255). -/
def execConfirmRegionalProfile (r : Req) (p : ConfirmRegionalProfileP) (s : State) : Result :=
  .next (gmp s r { cmd := 0x0505, len := 4, fields := profileChecks s p } fun t s => admitChange s t (.confirmRegionalProfile r p))

/-- 0x0501 takes force: no node of that reference waits for an answer any more. -/
def forceNode (p : AddNodeP) (s : State) : State := s.mapMesh fun m => { m with waiting := m.waiting.filter fun n => n != p.node }

/-- A LEAVE fits the links to a node (10 R261). -/
def leaveFits (s : State) (n : U32) : Bool := ctrlFits s n 0x05 2

/-- 0x0502 takes force: LEAVE to a node that is connected (10 R281). -/
def forceRemoveNode (t : OpTok) (p : RemoveNodeP) (s : State) : State := refuseOp (sendLeave s p.node false false) t (!leaveFits s p.node)

/-- The alarm of a profile not confirmed (10 R255). -/
def profileAlarm (s : State) : State :=
  let d := le 2 (profileInForce s).1 ++ le 2 0
  if s.cfg.profile.isNone then s.raise 0x0503 d else s.clearAlarm 0x0503 d

/-- A connection's parameters under a new profile: MAP enables every channel that it allows, its power its limits (10 R255, R275,
15 R395). INSTANT lies 8 listen events ahead. -/
def newParams (s : State) (a : Assoc) : ConnParams :=
  { a.params with map := mapOf (profileInForce s).1 a.port, txp := min a.params.txp (portMax s a.port) }

/-- The connection is to change its parameters. -/
def needsUpdate (s : State) (a : Assoc) : Bool := newParams s a != a.params && decide (1 ≤ a.nstate) && decide (a.nstate ≤ 3)

/-- Sends CONN_UPDATE to a connection whose parameters change (10 R255, R275). -/
def reprofile (s : State) (a : Assoc) : State :=
  if !needsUpdate s a then s
  else
    let i := newInstant s a
    let q := newParams s a
    queueCtrl (s.onAssoc a.node fun a => { a with next := some (q, i) }) a.node 0x04 (le 2 (i % 65536) ++ paramBytes q)

/-- 0x0505 takes force (10 R255): a CONN_UPDATE that fits no link is refused (10 R261). -/
def forceProfile (t : OpTok) (s : State) : State :=
  let s := profileAlarm s
  let bad := s.mesh.assocs.any fun a => needsUpdate s a && !ctrlFits s a.node 0x04 30
  refuseOp (s.mesh.assocs.foldl reprofile s) t bad

/-- 0x0209 takes force: SUIT to each lantern whose code changes; one that cannot be sent is refused (10 R261, R284). -/
def forceSuit (t : OpTok) (l : List U32) (s : State) : State :=
  refuseOp (l.foldl suitFrame s) t (l.any fun n => connected s n && !dataFits s n 0x14 10)

/-- 0x040A takes force for a lantern: its notice waits for SAFE_ACK (10 R284). -/
def forceSafeLantern (t : OpTok) (p : SafeLevelP) (s : State) : State :=
  if p.target ≠ 3 then s
  else safeFrames (s.mapMesh fun m => { m with safeToks := m.safeToks ++ [(mkRef 1 (refIndex p.index), p.safe.toNat, t)] })

end Sys2Proof.Machine
end

