-- ==== Sys2Proof/Machine/UpdateOps.lean ====
section
/-!
DEFINITION. Operations over the update that other families call (17): the result and its event, the end of an install,
the settings slots, and the image bytes and header.
-/

namespace Sys2Proof.Machine

open Sys2Proof

/-! Images (17 R452, R453) -/

/-- The byte at `a` of the blocks received, newest first: a later block overwrites an earlier one (17 R454). -/
def blockByte (l : List (Nat × List Byte)) (a : Nat) : Byte :=
  match l.find? fun b => decide (b.1 ≤ a) && decide (a < b.1 + b.2.length) with
  | some b => byteAt b.2 (a - b.1)
  | none => 0

/-- `n` bytes of the file from offset `o`. -/
def fileBytes (x : UpdSess) (o n : Nat) : List Byte := (List.range n).map fun k => blockByte x.data (o + k)

/-- The header of a file (17 Table 17.1). -/
def headerOf (x : UpdSess) : List Byte := fileBytes x 0 4096

/-- What the module reads from the header of a file whose SHA-384 is `hash` (17 Table 17.1). -/
def imgHdrOf (x : UpdSess) : ImgHdr :=
  let b := headerOf x
  let sig := Config.imageSig b (num b 6 1)
  { hash := x.hash, size := x.size, kind := num b 6 1, variant := num b 7 1 % 4, version := fld b 8 32, rollback := num b 0x0C 1, compatLo := num b 0x10 2, compatHi := num b 0x12 2, schema := num b 0x14 2, schemaFrom := num b 0x16 2, root := sig.2.1, expiry := sig.2.2 }

/-- The bytes from `o`, `n` long, are all zero. -/
def zeroAt (b : List Byte) (o n : Nat) : Bool := (cut b o n).all fun x => x == 0

/-- The first header field that is wrong, by its offset (17 Table 17.3 check 3); the padding counts as reserved (log 205). -/
def badHeader (x : UpdSess) (kind : Nat) : Option Nat :=
  let b := headerOf x
  let clen := num b 0x1C 2
  firstBad [(0x000, num b 0 4 == 0x384D4353), (0x004, num b 4 2 == 1), (0x006, num b 6 1 == kind),
    (0x007, decide (num b 7 1 < 4)), (0x00D, zeroAt b 0x0D 3),
    (0x018, 4096 + num b 0x18 4 == x.size && (kind != 2 || decide (x.size ≤ 131072))),
    (0x01E, zeroAt b 0x1E 2),
    (0x020, Config.sha384 (fileBytes x 4096 (x.size - 4096)) == cut b 0x20 48),
    (0x050, zeroAt b 0x50 176), (0x100 + clen + 96, zeroAt b (0x100 + clen + 96) (4096 - (0x100 + clen + 96)))]

/-- A GMP request as the module sends it to a peer: channel 0xFE (17 R456, 05 Table 5.4). -/
def reqMsg (txn cmd compat : Nat) (payload : List Byte) : List Byte :=
  let all := le 4 txn ++ le 2 cmd ++ le 2 payload.length ++ le 1 0xFE ++ le 1 0 ++ le 2 compat ++ le 4 0 ++ payload
  all ++ le 4 (crc32 all).toNat

/-! The update record (17 R462) -/

/-- Writes the update record over its older copy, with SEQ raised (17 R462, Table 17.4). -/
def State.writeRec (s : State) (f : UpdRec → UpdRec) : State :=
  s.mapUpd fun u => { u with
    rec_ := { f u.rec_ with seq := u.rec_.seq + 1 }
    recPrev := some u.rec_ }

/-! Settings slots (17 R464) -/

/-- A slot is valid: STATUS 0x01 and a correct CRC. -/
def SetSlot.valid (x : SetSlot) : Bool := x.status == 0x01 && x.crcOk

/-- A settings slot. -/
def slotAt (s : State) (i : Nat) : SetSlot := s.upd.slots.getD i SetSlot.reset

/-- The newest valid slot: of the valid ones the highest GEN (17 R464). -/
def newestSlot (s : State) : Option Nat :=
  (List.range s.upd.slots.length).foldl (fun b i =>
    if !(slotAt s i).valid then b
    else match b with
      | none => some i
      | some j => if (slotAt s j).gen < (slotAt s i).gen then some i else some j) none

/-- The slot with the lowest GEN among those other than `o` (17 R465). -/
def oldestSlot (s : State) (o : Option Nat) : Nat :=
  (((List.range s.upd.slots.length).filter fun i => some i != o).foldl (fun b i =>
    match b with
    | none => some i
    | some j => if (slotAt s i).gen < (slotAt s j).gen then some i else some j) none).getD 0

/-- Writes a new slot with GEN one higher and the committed records, and makes it valid (17 R465, 18 R476). -/
def newSlot (s : State) (schema level : Nat) (fw : U32) : State × Nat :=
  let old := newestSlot s
  let n := oldestSlot s old
  let gen := ((old.map fun i => (slotAt s i).gen).getD 0) + 1
  let x : SetSlot := { gen := gen, schema := schema, status := 0x01, fw := fw, level := level, crcOk := true, cfg := s.cfgNand }
  (s.mapUpd fun u => { u with slots := updAt u.slots n fun _ => x }, n)

/-- Writes the committed configuration into the newest valid slot, in the same commit (17 R464). A module without a
valid slot makes one. -/
def putSlot (s : State) : State :=
  match newestSlot s with
  | some i => s.mapUpd fun u => { u with slots := updAt u.slots i fun x => { x with cfg := s.cfgNand } }
  | none => (newSlot s s.sys.schema.toNat s.sys.compatRunning.toNat s.sys.fwVersion).1

/-! Results (17 R469, R470) -/

/-- RESULT changes: it is kept in MRAM and its event is entered (17 R469, R470). -/
def setResult (s : State) (r info : Nat) (detail : Nat) (new old : U32) (changes : Nat) : State :=
  let s := s.mapUpd fun u => { u with result := r }
  s.event 0x0B01 (le 2 r ++ le 2 info ++ le 4 detail ++ le 4 new.toNat ++ le 4 old.toNat ++ le 2 changes ++ le 2 0)

/-- FW_VERSION of the image under installation, or of the last one. -/
def newVersion (s : State) : U32 :=
  match s.upd.hdr with
  | some h => h.version
  | none => s.upd.rec_.newVersion

/-- What an install holds is discarded: the image, its stores, its part in a swap (17 R457, R461). -/
def dropInstall (s : State) : State :=
  let s := s.mapPow fun w => { w with stores := w.stores.filter fun x => x.purpose != .staging && x.purpose != .copying && x.purpose != .imageWrite }
  let s := s.mapPair fun x => { x with swapInstall := false }
  s.mapUpd fun u => { u with
    phase := if u.sess.isSome then 1 else 0
    hdr := none
    staged := none
    inst := none
    tok := none
    leaving := false
    loaderInst := false }

/-- The install ends before the module leaves service: RESULT records the end, its notice is placed and what it staged
is discarded (17 R457, R461, R469). -/
def endInstall (s : State) (r : Nat) (p : Reply) : State :=
  let s := setResult s r p.info p.detail (newVersion s) s.sys.fwVersion 0
  dropInstall (finishOpt s s.upd.tok p)

end Sys2Proof.Machine
end

