-- ==== Sys2Proof/Machine/Peers.lean ====
section
/-!
DEFINITION. Peer seats, replicas, adoption and release (10 R288 to R293) and the configuration that a peer seat gives back
(18 R480).
-/

namespace Sys2Proof.Machine

open Sys2Proof

/-- The module keeps peer sessions: it governs or is being commissioned (10 R289). -/
def peersRun (s : State) : Bool := radioSends s

/-- Updates the session that the module keeps to a peer segment. -/
def State.onPeer (s : State) (seg : U32) (f : PeerSess → PeerSess) : State :=
  s.mapMesh fun m => { m with peers := m.peers.map fun p => if p.seg == seg then f p else p }

/-- Updates a session by its SESSION_ID, opened by either side. -/
def State.onSess (s : State) (sid : U32) (f : PeerSess → PeerSess) : State :=
  let one (p : PeerSess) : PeerSess := if p.up && p.sid == sid then f p else p
  s.mapMesh fun m => { m with
    peers := m.peers.map one
    inbound := m.inbound.map one }

/-- The session that the module keeps to a peer segment. -/
def peerOf (s : State) (seg : U32) : Option PeerSess := s.mesh.peers.find? fun p => p.seg == seg

/-- The open session of a SESSION_ID. -/
def sessOf (s : State) (sid : U32) : Option PeerSess := (s.mesh.peers ++ s.mesh.inbound).find? fun p => p.up && p.sid == sid

/-- A session to a peer seat, not yet open. -/
def newPeer (seg : U32) (addr : List Byte) : PeerSess where
  seg := seg
  addr := addr
  up := false
  hsSince := none
  sid := 0
  rxHi := 0
  rxSeen := []
  txSeq := 0
  lastRx := 0
  lastTx := 0
  silent := false
  sentVer := 0
  sentAt := 0
  outs := []
  slots := []
  hsShare := []
  hsNonce := []
  keys := GcmKeys.reset

/-- OWNER_ID of the owner record in force; zeros without one (16 R427). -/
def ownerIdOf (s : State) : List Byte := padTo 16 (((ownerRec s).map (·.ownerId)).getD [])

/-- Sends handshake step 1 to a peer seat (10 R289). -/
def askPeer (s : State) (seg : U32) : State :=
  match peerOf s seg with
  | none => s
  | some p =>
    ({ s with fresh := s.fresh + 2 }.onPeer seg fun p => { p with hsSince := some s.now, hsShare := freshShare s, hsNonce := freshNonce s }).emit
      (.handshake 1 0 p.addr [freshShare s, freshNonce s, Config.deviceChain])

/-- Frees the key slots of sessions (16 R436). -/
def freePeerSlots (s : State) (l : List PeerSess) : State :=
  s.mapSec fun x => { x with slots := (l.map (·.slots)).flatten.foldl (fun y i => y.set i Slot.reset) x.slots }

/-- Opens sessions to the peer seats of the configuration; old sessions to them end (10 R288, R289). -/
def openPeers (s : State) : State :=
  let s := freePeerSlots s s.mesh.peers
  let l := match s.cfg.peers with
    | none => []
    | some p => ([(p.seg1, p.addr1), (p.seg2, p.addr2)].filter fun x => x.1 != 0).map fun x => newPeer x.1 x.2
  let s := s.mapMesh fun m => { m with peers := l }
  l.foldl (fun s p => askPeer s p.seg) s

/-- Command 0x0508, peer seats (10 R288). -/
def execPeerSeats (r : Req) (p : PeerSeatsP) (s : State) : Result :=
  .next (gmp s r { cmd := 0x0508, len := 40 } fun t s => admitChange s t (.peerSeats r p))

/-- 0x0508 takes force: in COMMISSIONING without a node record each peer is also asked for the replica (18 R480). -/
def forcePeers (s : State) : State :=
  let s := s.mapMesh fun m => { m with restore := s.sys.mode == .commissioning && s.cfg.nodes.isEmpty }
  if peersRun s then openPeers s else s

/-- A peer message: PTYPE, rsv, LEN and its fields (10 R289, Table 10.14). -/
def peerMsg (ptype : Nat) (fields : List Byte) : List Byte := le 1 ptype ++ le 1 0 ++ le 2 fields.length ++ fields

/-- One peer message on an open session (05 R128, 10 Table 10.14). -/
def sendPeer (s : State) (p : PeerSess) (ptype : Nat) (fields : List Byte) : State :=
  (s.onSess p.sid fun x => { x with txSeq := x.txSeq + 1, lastTx := s.now }).emit
    (.peer p.seg ptype fields (datagramBytes p.sid p.keys (p.txSeq + 1) (peerMsg ptype fields)))

/-- The first message of a relay waiting for this peer seat (17 R456). -/
def relayBegin (s : State) (seg : U32) : State :=
  match s.upd.relay, peerOf s seg with
  | some x, some p =>
    if x.seg == seg ∧ p.up then sendPeer s.bump p 5 (reqMsg (Config.freeNat s.fresh) 0x0B01 s.sys.compatRunning.toNat (x.img.hash ++ le 4 x.img.size ++ le 4 0)) else s
  | _, _ => s

/-- PEER_SESSION (15 Table 15.13). -/
def peerEvent (s : State) (seg : U32) (up : Bool) : State := s.event 0x0505 (le 4 seg.toNat ++ le 1 (bit up) ++ le 3 0)

/-- A datagram arrived on a session: one that was silent recovers, and a home segment that is back is recorded
(10 R288, R293). -/
def peerHeard (s : State) (sid : U32) : State :=
  match sessOf s sid with
  | none => s
  | some p =>
    let s := s.onSess sid fun x => { x with lastRx := s.now, silent := false }
    if p.silent then
      let s := peerEvent s p.seg true
      if s.mesh.adopted.any fun n => n.home == p.seg then s.event 0x0507 (le 4 p.seg.toNat) else s
    else s

/-- Row PEER_HANDSHAKE_RESPONSE: step 2 of a handshake that the module began is verified, a key slot taken, and step 3
sent (10 R289, 05 Table 5.8). The port of a refused one is not named and is free. -/
def execPeerHandshakeResponse (h : PeerHs) (s : State) : Result :=
  .next (match peerOf s h.seg with
    | none => s
    | some p =>
      match p.hsSince with
      | none => s
      | some t =>
        let drop (c : Nat) : State := handshakeDropped ((s.onPeer h.seg fun x => { x with hsSince := none }).bump) (1 + Config.freeNat s.fresh % 2) c 47322 p.addr
        if p.up then s
        else if !h.ok then drop 1
        else if t + secs 2 < s.now then drop 2
        else match freeSlot s with
          | none => drop 3
          | some slot =>
            let s := takeSlot s slot 32
            let s := s.onPeer h.seg fun x => { x with up := true, hsSince := none, sid := h.sid, rxHi := 0, rxSeen := [], txSeq := 0, lastRx := s.now, lastTx := s.now, silent := false, outs := [], slots := [slot], keys := sessionKeys p.hsShare h.share (p.hsNonce ++ h.nonce) }
            let sig := deviceSign s (handshakeText p.hsShare h.share p.hsNonce h.nonce h.sid)
            let s := relayBegin (s.bump.emit (.handshake 3 h.sid p.addr [le 4 h.sid.toNat, sig])) h.seg
            if s.mesh.restore && s.sys.mode == .commissioning then
              match peerOf s h.seg with
              | some q => sendPeer s q 3 (le 4 0 ++ ownerIdOf s)
              | none => s
            else s)

/-! Replicas (10 R288, R289) -/

/-- The items that a replica holds (10 R288). The peer seats go with them, since a peer preference names one of the two. -/
def replicaItems (c : Cfg) : List CfgItem :=
  (match c.comm with | some x => [.comm { x with nominal := 0, uDinA := 0, uDinB := 0 }] | none => []) ++
  (match c.profile with | some x => [.profile x.1 x.2.1 x.2.2] | none => []) ++
  (match c.peers with | some x => [.peers x.seg1 x.seg2 x.addr1 x.addr2] | none => []) ++
  c.nodes.map .node ++ (c.safes.filter fun x => x.1 == 3).map (fun x => .safe x.1 x.2.1 x.2.2) ++ c.suit.map (fun x => .suit x.1 x.2) ++
  c.groups.map (fun x => .group x.1 x.2) ++ c.scheds.map .sched ++ (if c.zone = Cfg.reset.zone then [] else [.zone c.zone])

/-- Items with the part in which their records end, parts of 4,000 bytes (10 R289). -/
def partition (l : List CfgItem) : List (Nat × CfgItem) :=
  (l.foldl (fun (b : Nat × List (Nat × CfgItem)) i =>
    let e := b.1 + ((itemRecords i).map fun r => (recordBytes r).length).sum
    (e, b.2 ++ [((e - 1) / 4000, i)])) (0, [])).2

/-- Number of parts of a replica. -/
def partCount (l : List (Nat × CfgItem)) : Nat := (l.getLast?.map (·.1)).getD 0 + 1

/-- The parts of a replica of the module's own records. -/
def ownParts (s : State) : List (Nat × CfgItem) := partition (replicaItems s.cfg)

/-- The fields of a REPLICA part (10 Table 10.14). -/
def partBytes (s : State) (seg version : U32) (l : List (Nat × CfgItem)) (k : Nat) : List Byte :=
  le 4 seg.toNat ++ ownerIdOf s ++ le 4 version.toNat ++ le 2 k ++ le 2 (partCount l) ++
    (((l.filter fun i => i.1 == k).map fun i => ((itemRecords i.2).map recordBytes).flatten)).flatten

/-- Notes when a part of a replica was last sent. -/
def ReplicaOut.sent (o : ReplicaOut) (k now : Nat) : ReplicaOut := { o with unacked := (k, now) :: o.unacked.filter fun u => u.1 != k }

/-- Sends one part of a replica on a session that holds it (10 R289). -/
def sendPart (s : State) (sid : U32) (o : ReplicaOut) (k : Nat) : State :=
  match sessOf s sid with
  | none => s
  | some p =>
    let one (y : ReplicaOut) : ReplicaOut := if y.seg == o.seg then y.sent k s.now else y
    (s.onSess sid fun x => { x with txSeq := x.txSeq + 1, lastTx := s.now, outs := x.outs.map one }).emit
      (.replica o.seg o.version k (partCount o.items) ((o.items.filter fun i => i.1 == k).map (·.2))
        (datagramBytes sid p.keys (p.txSeq + 1) (peerMsg 1 (partBytes s o.seg o.version o.items k))))

/-- Sends a whole replica on a session, which keeps its parts until they are acknowledged (10 R289). -/
def sendParts (s : State) (p : PeerSess) (seg version : U32) (l : List (Nat × CfgItem)) : State :=
  let o : ReplicaOut := { seg := seg, version := version, items := l, unacked := [] }
  (List.range (partCount l)).foldl (fun s k => sendPart s p.sid o k) (s.onSess p.sid fun x => { x with outs := o :: x.outs.filter fun y => y.seg != seg })

/-- Row REPLICA_SEND: the replica goes to a peer seat after a change, or 3,600 s after the last (10 R288). A session that is
not open is asked for again. -/
def execReplicaSend (seg : U32) (s : State) : Result :=
  .next (match peerOf s seg with
    | none => s
    | some p =>
      if !peersRun s then s
      else if !p.up then (match p.hsSince with | some t => if t + secs 2 < s.now then askPeer s seg else s | none => askPeer s seg)
      else if p.sentAt ≠ 0 ∧ p.sentVer = s.mesh.version ∧ s.now < p.sentAt + secs 3600 then s
      else
        let s := s.onPeer seg fun x => { x with sentVer := s.mesh.version, sentAt := s.now }
        sendParts s p (segNumber s) s.mesh.version (ownParts s))

/-- The open sessions with a peer segment, or on which a replica of that segment was returned (10 R289). -/
def sessionsWith (s : State) (seg : U32) : List PeerSess :=
  (s.mesh.peers ++ s.mesh.inbound).filter fun p => p.up && (p.seg == seg || p.outs.any fun o => o.seg == seg)

/-- Row REPLICA_PART_RESEND: parts not acknowledged within 5 s, of the module's own replica or of a returned one (10 R289). -/
def execReplicaPartResend (seg : U32) (s : State) : Result :=
  .next ((sessionsWith s seg).foldl (fun t p => p.outs.foldl (fun t o =>
    (o.unacked.filter fun u => decide (u.2 + secs 5 ≤ s.now)).foldl (fun t u => sendPart t p.sid o u.1) t) t) s)

/-- Row REPLICA_ACK: a part that the peer segment `seg`, or the module that asked for that segment's replica, has acknowledged
(10 R289). -/
def execReplicaAck (seg : U32) (version : U32) (part : Nat) (s : State) : Result :=
  .next (
    let one (o : ReplicaOut) : ReplicaOut := if o.version == version then { o with unacked := o.unacked.filter fun u => u.1 != part } else o
    (sessionsWith s seg).foldl (fun s p => (peerHeard s p.sid).onSess p.sid fun x => { x with outs := x.outs.map one }) s)

/-- A replica whose parts have all arrived. -/
def ReplicaAsm.whole (a : ReplicaAsm) : Bool := a.parts.length == a.count

/-- The items of a replica in the order of its parts. -/
def ReplicaAsm.all (a : ReplicaAsm) : List CfgItem := (a.parts.map (·.2)).flatten

/-- A whole replica is kept once it is stored, in the order of first arrival; a ninth segment is not (10 R289, 15 Table 15.2). -/
def keepReplica (s : State) (seg : U32) : State :=
  match s.mesh.asms.find? fun a => a.seg == seg && a.whole with
  | none => s
  | some a =>
    let s := s.mapMesh fun m => { m with asms := m.asms.filter fun x => x.seg != seg }
    let new : Replica := { seg := seg, owner := a.owner, version := a.version, addr := a.addr, items := a.all }
    if s.mesh.replicas.any fun r => r.seg == seg then
      s.mapMesh fun m => { m with replicas := m.replicas.map fun r => if r.seg == seg then new else r }
    else if 8 ≤ s.mesh.replicas.length then s
    else s.mapMesh fun m => { m with replicas := m.replicas ++ [new] }

/-- The newest version of a segment's replica that the module holds or is receiving. -/
def knownVersion (s : State) (seg : U32) : Option Nat :=
  let l := ((s.mesh.replicas.filter fun r => r.seg == seg).map fun r => r.version.toNat) ++ ((s.mesh.asms.filter fun a => a.seg == seg).map fun a => a.version.toNat)
  if l.isEmpty then none else some (l.foldl max 0)

/-- One part of a replica joins the others of its version (10 R289). -/
def addPart (s : State) (m : ReplicaPart) : State :=
  let old := (s.mesh.asms.find? fun a => a.seg == m.seg && a.version == m.version).getD { seg := m.seg, version := m.version, count := m.count, owner := m.owner, addr := m.addr, parts := [] }
  let a := { old with parts := putSorted old.parts (·.1) (m.part, m.items) }
  s.mapMesh fun x => { x with asms := a :: x.asms.filter fun y => y.seg != m.seg }

/-- What comes of a whole replica: the module's own former configuration is restored, another segment's is kept; either
under gate N (10 R289, 18 R480). -/
def replicaWhole (s : State) (p : PeerSess) (m : ReplicaPart) : State :=
  match s.mesh.asms.find? fun a => a.seg == m.seg && a.whole with
  | none => s
  | some a =>
    if s.mesh.restore && s.sys.mode == .commissioning && m.seg != p.seg && s.mesh.peers.any (fun q => q.sid == m.sess && q.up) then
      requestStore (s.mapMesh fun x => { x with asms := x.asms.filter fun y => y.seg != m.seg }) .nand (anteMj .nand) (.restored a.all) none
    else requestStore s .nand (anteMj .nand) (.replica m.seg) none

/-- Row REPLICA: a part is acknowledged, and kept unless a newer version is known; one of another owner is ignored and
recorded (10 R289). -/
def execReplica (m : ReplicaPart) (s : State) : Result :=
  .next (match sessOf s m.sess with
    | none => s
    | some p =>
      let s := peerHeard s m.sess
      if m.owner ≠ ownerIdOf s then s.event 0x0509 (le 4 m.seg.toNat ++ padTo 16 m.addr)
      else
        let s := if p.seg = 0 then s.onSess m.sess fun x => { x with seg := m.seg } else s
        let s := sendPeer s ((sessOf s m.sess).getD p) 2 (le 4 m.seg.toNat ++ le 4 m.version.toNat ++ le 2 m.part ++ le 2 0)
        match knownVersion s m.seg with
        | some v =>
          if m.version.toNat < v ∨ (s.mesh.replicas.any fun r => r.seg == m.seg && r.version == m.version) then s
          else replicaWhole (addPart s m) p m
        | none => replicaWhole (addPart s m) p m)

/-- The restored items take force in the configuration (18 R480). -/
def restoreItems (s : State) (l : List CfgItem) : State :=
  let s := { s with
    cfg := l.foldl putItem s.cfg
    cfgNand := l.foldl putItem s.cfgNand }
  s.mapMesh fun m => { m with restore := false }

/-- Row REPLICA_REQUEST: answered with the newest replica of the segment, or of the segment last replicated from the
sender's address, to the same owner only (10 R289). -/
def execReplicaRequest (sess : U32) (seg : U32) (owner : List Byte) (s : State) : Result :=
  .next (match sessOf s sess with
    | none => s
    | some p =>
      let s := peerHeard s sess
      let want := if seg = 0 then (s.mesh.replicas.filter fun r => r.addr == p.addr).getLast? else replicaOf s seg
      match want with
      | none => s
      | some r => if owner = ownerIdOf s ∧ r.owner = ownerIdOf s then sendParts s p r.seg r.version (partition r.items) else s)

/-- Row KEEPALIVE: a peer's datagram (10 R289). -/
def execKeepalive (seg : U32) (s : State) : Result :=
  .next (match (s.mesh.peers ++ s.mesh.inbound).find? (fun p => p.up && p.seg == seg) with
    | none => s
    | some p => peerHeard s p.sid)

/-- Row KEEPALIVE_SEND: after 60 s without sending (10 R289). -/
def execKeepaliveSend (seg : U32) (s : State) : Result :=
  .next (((s.mesh.peers ++ s.mesh.inbound).filter fun p => p.up && p.seg == seg && decide (p.lastTx + secs 60 ≤ s.now)).foldl
    (fun s p => sendPeer s p 4 []) s)

/-- Row PEER_SILENT: a session with no datagram for 300 s becomes silent, whichever side opened it (10 R288). -/
def execPeerSilent (seg : U32) (s : State) : Result :=
  .next (((s.mesh.peers ++ s.mesh.inbound).filter fun p => p.up && p.seg == seg && !p.silent && decide (p.lastRx + secs 300 ≤ s.now)).foldl
    (fun s p => peerEvent (s.onSess p.sid fun x => { x with silent := true }) seg false) s)

/-! Adoption (10 R291, R293) -/

/-- Which peer seat of a replica's segment this module is: 1 SEG1, 2 SEG2, 0 neither. -/
def seatSide (s : State) (c : Cfg) : Nat :=
  match c.peers with
  | none => 0
  | some p => if p.seg1 = segNumber s then 1 else if p.seg2 = segNumber s then 2 else 0

/-- The nodes of a replica that prefer this segment (10 R290, R291). -/
def adoptees (s : State) (seg : U32) : List NodeRec :=
  match replicaOf s seg with
  | none => []
  | some r =>
    let c := cfgOfItems r.items
    let side := seatSide s c
    c.nodes.filter fun n => side != 0 && n.prefer == side && !s.mesh.adopted.any fun x => x.home == seg && x.eui == n.eui

/-- The segments of adoptions accepted and not yet in force, `seg` apart. -/
def adoptsWaiting (s : State) (seg : U32) : List U32 :=
  ((s.changes.filterMap fun c => match c.what with | .adopt _ p => some p.seg | _ => none).filter fun x => x != seg).eraseDups

/-- The adoption of a segment, with others that wait, passes the capacities of 06 R148. -/
def adoptFits (s : State) (seg : U32) (others : List U32) : Bool :=
  let l := ((seg :: others).map (adoptees s)).flatten
  decide (s.mesh.adopted.length + l.length ≤ 2048) && decide (sleepyCount s + (l.filter fun n => n.sleepy).length ≤ 1536)

/-- Field checks of 0x0509 (10 R291). -/
def adoptChecks (s : State) (seg : U32) (action : U8) (rsv : BitVec 24) : List (Nat × Bool) :=
  [(0x10, action == 0 || (replicaOf s seg).isSome), (0x14, action == 0 || action == 1)] ++ rsv3 0x15 rsv

/-- Command 0x0509: adoption needs room, a release does not (10 R291, 06 R148). -/
def adoptCommand (s : State) (r : Req) (i : Instr) (seg : U32) (action : U8) (rsv : BitVec 24) : State :=
  gmp s r { cmd := 0x0509, len := 8, fields := adoptChecks s seg action rsv } fun t s =>
    if action = 1 ∧ !adoptFits s seg (adoptsWaiting s seg) then (s, noSeatCapacity) else admitChange s t i

/-- Command 0x0509 with ACTION 1, adopt. -/
def execAdopt (r : Req) (p : AdoptP) (s : State) : Result := .next (adoptCommand s r (.adopt r p) p.seg p.action p.rsv)

/-- Command 0x0509 with ACTION 0, release. -/
def execReleaseAdopted (r : Req) (p : ReleaseAdoptedP) (s : State) : Result :=
  .next (adoptCommand s r (.releaseAdopted r p) p.seg p.action p.rsv)

/-- Creates the record of one adopted node: its address from 0x1001, its reference from the address, and the suit code that it keeps
(10 R291, 15 Table 15.2). -/
def adoptNode (seg : U32) (codes : List (U32 × Nat)) (s : State) (n : NodeRec) : State :=
  let short := freeShort s true
  let ref := mkRef (refClass n.node) (0x800000 + short - 0x1001)
  let x : NodeRec := { n with node := ref, origin := 1, home := seg, short := some short, joinPort := 0, prefer := 0, beacons := [] }
  let code := (codes.filter fun c => c.1 == n.node).map fun c => (ref, c.2)
  s.mapMesh fun m => { m with
    adopted := putSorted m.adopted (fun y => y.node.toNat) x
    adoptedSuit := code ++ m.adoptedSuit.filter fun c => c.1 != ref }

/-- The suit codes of a replica. -/
def replicaSuit (s : State) (seg : U32) : List (U32 × Nat) := ((replicaOf s seg).map fun r => (cfgOfItems r.items).suit).getD []

/-- 0x0509 takes force: records for the nodes that prefer this segment, or LEAVE to each adopted node of SEG, those deepest in the
mesh first, so that no router goes before its children (10 R291, R293). An adoption that by then passes a capacity is refused
(06 R148, 01 R24), a LEAVE that fits no link too (10 R261). -/
def forceAdopt (t : OpTok) (seg : U32) (action : U8) (s : State) : State :=
  if action = 1 ∧ !adoptFits s seg [] then finishOp s t noSeatCapacity
  else if action = 1 then
    let l := adoptees s seg
    let s := l.foldl (adoptNode seg (replicaSuit s seg)) s
    s.mapMesh fun m => { m with adopting := seg :: m.adopting.filter fun x => x != seg, adoptTok := m.adoptTok ++ [(seg, t, l.length)] }
  else
    let l := s.mesh.adopted.filter fun n => n.home == seg
    let bad := l.any fun n => connected s n.node && !leaveFits s n.node
    let depth (n : NodeRec) : Nat := ((assocOf s n.node).map (·.hops)).getD 0
    let l' := (List.range 17).reverse.flatMap fun h => l.filter fun n => min 16 (depth n) == h
    let s := s.mapMesh fun m => { m with adopting := m.adopting.filter fun x => x != seg, adoptTok := m.adoptTok ++ [(seg, t, l.length)] }
    refuseOp (l'.foldl (fun s n => sendLeave s n.node true true) s) t bad

/-- The store of a 0x0509 is done: an adoption is answered with its count; a release once its nodes are gone (10 R291,
R293). -/
def adoptStored (t : OpTok) (action : U8) (s : State) : State :=
  if action = 1 then
    match s.mesh.adoptTok.find? fun x => x.2.1 == t with
    | none => s
    | some x => finishIfDone (s.mapMesh fun m => { m with adoptTok := m.adoptTok.filter fun y => y.2.1 != t }) (some t) { data := countData x.2.2 }
  else releaseDone s

end Sys2Proof.Machine
end

