-- ==== Sys2Proof/Machine/Modes.lean ====
section
/-!
DEFINITION. Entering and leaving module states (01 R28, Tables 1.7 and 1.8, 03 R63 to R67, 05 R118, R125, 07 R172,
09 R230, 10 R294) and the fatal faults (01 R13, R25, 14 R383).
-/

namespace Sys2Proof.Machine

open Sys2Proof

/-- The rank of a transition among causes of one tick: QUARANTINE before BATTERY_STANDBY before the others (log 39). -/
def modeRank : Mode → Nat
  | .quarantine => 2
  | .standby => 1
  | _ => 0

/-- A transition is to take effect at the next tick boundary (01 R28). -/
def goMode (s : State) (m : Mode) : State :=
  match s.sys.nextMode with
  | none => s.mapSys fun y => { y with nextMode := some m }
  | some k => if modeRank k < modeRank m then s.mapSys fun y => { y with nextMode := some m } else s

/-- A warm reset is to come at the next tick boundary (01 R28, 03 R66). -/
def goReset (s : State) (cause : U8) : State :=
  s.mapSys fun y => { y with nextReset := some (y.nextReset.getD cause) }

/-- A wake from BATTERY_STANDBY: the module resets with cause 0x08 at the next tick boundary, and the BOOT that follows
records the wake's reason; of several in one tick the first counts (01 R28, 03 R68). -/
def wake (s : State) (reason tell port : Nat) : State :=
  if s.sys.nextReset.isSome then s
  else goReset (s.mapSys fun y => { y with
    wakeReason := reason
    wakeTell := tell
    wakePort := port }) 0x08

/-! Sessions and operations (05 R118, R125) -/

/-- Ends the sessions on the channels that `p` names. -/
def endSessions (s : State) (p : Chan → Bool) : State :=
  (List.range 8).foldl (fun s n => if (chan s n).owner ≠ 0 ∧ p (chan s n) then freeChan s n else s) s

/-- Local sessions at Owner or above are established again against the fuse root key hashes: one whose credential chains
to a root slot that is programmed and not revoked stands at Owner, another falls to Observer (05 R125, 03 R65). -/
def reestablish (s : State) : State :=
  (List.range 8).foldl (fun s n => s.onChan n fun c =>
    if c.owner = 0 ∨ c.priv < 3 then c
    else { c with priv := if rootGood s c.credRoot && notExpired s c.credExpiry then 3 else 0 }) s

/-- The sessions that a state does not serve end (05 R125, Table 5.7). -/
def endUnserved (s : State) (m : Mode) : State :=
  match m with
  | .quarantine => reestablish (endSessions { s with hif := { s.hif with handshakes := [] } } fun c => c.owner == 3)
  | .boot => endSessions s fun _ => true
  | .update => endSessions { s with hif := { s.hif with handshakes := [] } } fun _ => true
  | .standby => endSessions { s with hif := { s.hif with handshakes := [] } } fun _ => true
  | _ => s

/-- The change of an operation has not yet taken force (05 R118). -/
def notInForce (s : State) (t : OpTok) : Bool :=
  s.changes.any (fun c => c.tok == t) || s.ctl.swaps.any (fun x => x.tok == t && !x.taken) ||
  s.sec.fuseQueue.any (fun x => x.tok == some t) ||
  s.pow.stores.any (fun x => x.tok == some t && !x.running && (match x.purpose with | .cfg _ => false | .comm _ _ => false | .swapBank _ _ => false | .nothing => false | _ => true)) ||
  (s.pair.swapHasTok && s.pair.swapHolder == t) || s.mesh.adoptTok.any (fun x => x.2.1 == t) || s.mesh.safeToks.any (fun x => x.2.2 == t) ||
  s.outs.stages.any (fun x => match x.store with | some y => y.tok == some t | none => false) ||
  s.outs.chains.any (fun x => x.enum == some t) || s.outs.chainStores.any (fun x => x.tok == some t) ||
  (match s.sec.debugTok with | some x => x.1 == t | none => false) || (match s.upd.relay with | some x => x.tok == t | none => false) ||
  s.upd.tok == some t || s.sys.arbTok == some t || s.sec.compatNext.any (fun x => x.tok == t) ||
  s.rcd.flushToks.contains t

/-- Takes an operation out of everything that waits on its account. -/
def cancelOp (s : State) (t : OpTok) : State :=
  let s := { s with changes := s.changes.filter fun c => c.tok != t }
  let s := s.mapCtl fun c => { c with swaps := c.swaps.filter fun x => x.tok != t || x.taken }
  let s := s.mapSec fun c => { c with
    fuseQueue := c.fuseQueue.filter fun x => x.tok != some t
    debugTok := if c.debugTok.any (fun x => x.1 == t) then none else c.debugTok
    compatNext := c.compatNext.filter fun x => x.tok != t }
  let s := s.mapPow fun w => { w with stores := w.stores.filter fun x => x.tok != some t || x.running }
  let s := s.mapRcd fun x => { x with flushToks := x.flushToks.filter fun y => y != t }
  let s := if s.pair.swapHasTok && s.pair.swapHolder == t then s.mapPair fun p => { p with swapRound := none, swapHasTok := false, swapInstall := false } else s
  let s := s.mapMesh fun m => { m with
    adoptTok := m.adoptTok.filter fun x => x.2.1 != t
    safeToks := m.safeToks.filter fun x => x.2.2 != t }
  let s := s.mapOuts fun o => { o with
    stages := o.stages.map fun x => if (match x.store with | some y => y.tok == some t | none => false) then { x with store := none } else x
    chains := o.chains.map fun x => if x.enum == some t then { x with enum := none, enumSent := false } else x
    chainStores := o.chainStores.filter fun x => x.tok != some t }
  let s := if s.upd.tok == some t then dropInstall s else s
  let s := if s.sys.arbTok == some t then s.mapSys fun y => { y with arbDue := false, arbTok := none } else s
  s.mapUpd fun u => { u with relay := if u.relay.any (fun x => x.tok == t) then none else u.relay }

/-- Abandons the operations whose command is illegal in the state entered and whose change is not in force (05 R118). -/
def abandonIllegal (s : State) : State :=
  s.hif.ops.foldl (fun s t =>
    let legal := match cmdInfo t.cmd.toNat with | some i => i.states.contains s.sys.mode | none => true
    if legal || !notInForce s t then s
    else finishOp (cancelOp s t) t { status := stState, info := modeCode s.sys.mode }) s

/-! Leaving and entering (01 Table 1.7) -/

/-- Contactor drive ends: the switch-off is forced at once (09 R230). -/
def contactorsOff (s : State) : State :=
  let one (c : Contactor) : Contactor := if c.on then { c with on := false, lastChange := some s.now } else c
  s.mapOuts fun o => { o with contactors := o.contactors.map one }

/-- The radios stop transmitting: frames held are dropped, peer sessions end (10 R294). -/
def radioOff (s : State) : State :=
  let s := freePeerSlots s (s.mesh.peers ++ s.mesh.inbound)
  s.mapMesh fun m => { m with txq := [], peers := [], inbound := [], asms := [] }

/-- What ends when a state is left. -/
def leaveMode (s : State) (new : Mode) : State :=
  let s := if s.sys.mode = .commissioning then { s with sys := { s.sys with tests := [] } } else s
  let s := if new = .declarer ∨ new = .commissioning then s else radioOff s
  let s := if s.sys.mode = .declarer then
      s.mapSch fun x => { x with nodeLevels := [], terms := [] }
    else s
  let s := if s.sys.mode = .declarer ∨ s.sys.mode = .commissioning then contactorsOff s else s
  s.mapOuts fun o => { o with sinksOn := false, ascCtl := none, ascInh := none }

/-- The counters of a new declarer (10 R265, R294). RESTART is raised at a boot and at a takeover, above the value that the partner
last reported, and a takeover sets the floors (10 R267). -/
def declarerCounters (s : State) (old : Mode) : State :=
  let e := max s.mesh.fcEnd (if s.pair.partnerE = 0 then 0 else s.pair.partnerE + 2 ^ 20)
  let r := if s.pair.partnerRestart = 0 then s.mesh.restart + 1 else s.pair.partnerRestart + 1
  let s := s.mapMesh fun m => { m with secFc := e, fcEnd := e, restart := if old = .commissioning then m.restart else r }
  if old = .dummy then meshRestart s else s

/-- Entry to DECLARER (03 R63, 08 R196, 09 R230, R243, 10 R267, R294, 13 R345, R355 to R357, R362, 14 R377). -/
def enterDeclarer (s : State) (old : Mode) : State :=
  let s := if old = .dummy then s.mapCtl fun c => { c with loops := c.loops.map fun r => { r with lflags := r.lflags &&& 0xFFFEFFFF } }
    else initLoops s
  let ct (c : Contactor) : Contactor := { c with lastChange := some s.now, due := 0 }
  let s := s.mapOuts fun o => { o with
    contactors := o.contactors.map ct
    adjRound := 3600
    busFree := true }
  let s := s.mapSch fun x => { x with
    nodeLevels := []
    terms := []
    evalAll := true
    windowT1 := some (((newestCkpt s).map (·.utc)).getD 0) }
  openPeers (declarerCounters s old)

/-- Entry to COMMISSIONING: RESTART of a module that has booted (10 R267), peer sessions as configured (18 R480); no arbitration is
due. -/
def enterCommissioning (s : State) (old : Mode) : State :=
  openPeers ((s.mapSys fun y => { y with arbDue := false }).mapMesh fun m => { m with restart := if old = .boot then m.restart + 1 else m.restart })

/-- Entry to QUARANTINE: closing checkpoint, scorecard entries of the failed check or the tamper (03 R65, 07 R172, 15 Table 15.11). -/
def enterQuarantine (s : State) : State :=
  let s := closingStop s 3
  let s := if s.sec.tamper.latched = 0 then s else s.score 0x04 (le 2 s.sec.tamper.latched.toNat ++ le 8 (s.sec.tamper.times.foldl max 0))
  s.score 0x06 (le 2 s.sys.bootCheckFailed)

/-- Entry to BATTERY_STANDBY, in which the stack is held without recharging it (03 R67). -/
def enterStandby (s : State) : State :=
  let s := (closingStop s 1).mapPow fun w => { w with charging := false }
  armAlarms (s.score 0x07 (le 4 s.pow.mainsHist.toNat))

/-- Entry to UPDATE: closing checkpoint and flush; then the loader starts the write. The install's command gets no
notice: its outcome is read from RESULT and the event recorder (07 R172, 17 R459, R461, R462). -/
def enterUpdate (s : State) : State :=
  let s := closingStop s 2
  let s := match s.upd.tok with
    | none => s
    | some t => s.mapHif fun h => { h with ops := h.ops.erase t }
  (s.mapUpd fun u => { u with
    tok := none
    sess := none
    inst := none
    writing := true
    retried := false
    anteWait := false
    leaving := false }).writeRec fun r => { r with state := if r.state = 5 then 6 else 2 }

/-- BID_HBO in the states that do not toggle it: low in BATTERY_STANDBY and after failing silent, else high until the
toggle conditions hold (14 R366). -/
def holdHbo (s : State) (m : Mode) : State :=
  if m = .standby ∨ s.sys.failSilent then s.mapPair fun p => { p with hbo := false, hboRun := false }
  else if m = .quarantine ∨ m = .update ∨ m = .failLit then s.mapPair fun p => { p with hbo := true, hboRun := false }
  else s

/-- A planned swap that has run: its notice follows when the module has entered DUMMY (06 R149). -/
def swapDone (s : State) (m : Mode) : State :=
  let t := s.mapPair fun p => { p with swapRan := false }
  if m = .dummy ∧ s.pair.swapHasTok ∧ s.pair.swapRan then
    finishOp (t.mapPair fun p => { p with swapHasTok := false }) s.pair.swapHolder {}
  else t

/-- A transition of 01 Table 1.8 takes effect: its event, its interrupt flag, and what the states end and begin. -/
def enterMode (s : State) (m : Mode) : State :=
  let old := s.sys.mode
  if old = m then s
  else
    let s := leaveMode s m
    let s := s.mapSys fun y => { y with mode := m }
    let s := s.event 0x0101 (le 1 (modeCode old) ++ le 1 (modeCode m) ++ le 2 0 ++ le 8 s.clk.tick)
    let s := (endUnserved s m).irq 8 false
    let s := holdHbo (swapDone s m) m
    let s := s.mapPair fun p => { p with deferTakeover := false, dlrReq := false, swapDummy := none }
    let s := abandonIllegal (s.mapOuts fun o => { o with takeoverTick := none })
    match m with
    | .declarer => enterDeclarer s old
    | .commissioning => enterCommissioning s old
    | .quarantine => enterQuarantine s
    | .standby => enterStandby s
    | .update => enterUpdate s
    | _ => s

/-! Fatal faults (01 R13, R25, 03 R66, 14 R383) -/

/-- The module of a pair fails silent: in the cycle of the fault it drives BID_HBO low and sends nothing more (14 R383). -/
def failSilent (s : State) : State :=
  (s.mapSys fun y => { y with failSilent := true }).mapPair fun p => { p with hbo := false, hboRun := false }

/-- Automatic restarts of the last 3,600 s (03 R66). -/
def recentRestarts (s : State) : List Nat := s.sys.autoRestarts.filter fun t => decide (s.now < t + secs 3600)

/-- The automatic restart after a fatal fault: at the next tick boundary for causes 5 and 9, after 10 s for 6; the fourth
within 3,600 s does not come and an alarm stands (03 R66). -/
def restartAfter (s : State) (cause : U8) : State :=
  if 3 ≤ (recentRestarts s).length then
    s.raise 0x0109 (le 1 (recentRestarts s).length ++ le 1 s.sys.resetCause.toNat ++ le 2 0)
  else if cause = 6 then s.mapSys fun y => { y with restartDue := some (s.now + secs 10) }
  else goReset (s.mapSys fun y => { y with autoRestarts := s.now :: recentRestarts s }) cause

/-- A fatal fault: FAIL_LIT in the tick of the cause, scorecard entry, restart; a module in a pair also fails silent
(01 R28, Table 1.8, 03 R66, 15 Table 15.11). UPDATE and BATTERY_STANDBY, from which Table 1.8 gives no transition for it,
stay as they are (log 173). -/
def fatalFault (s : State) (engine kind : Nat) (cause : U8) : State :=
  let s := s.score 0x05 (le 1 engine ++ le 1 kind)
  let s := if paired s then failSilent s else s
  let s := match s.sys.mode with
    | .declarer => enterMode s .failLit
    | .dummy => enterMode s .failLit
    | .commissioning => enterMode s .failLit
    | _ => s
  if s.sys.mode = .update ∨ s.sys.mode = .standby then s else restartAfter s cause

end Sys2Proof.Machine
end

