-- ==== Sys2Proof/Machine/Pair.lean ====
section
/-!
DEFINITION. Redundant pairs (14): claims, the bid link, per-tick and per-round state transfer, taking over, the dealer,
demotion and planned swaps, and arbitration at the end of BOOT.
-/

namespace Sys2Proof.Machine

open Sys2Proof

/-- The instant of cycle `cyc` of the present tick, TCLK. -/
def atCyc (s : State) (cyc : Nat) : Nat := s.clk.tclk + cyc

/-- The firmware watches the bid link and P3: a partner is configured and the state runs them (14 R368, 01 Table 1.7). -/
def watches (s : State) : Bool :=
  paired s && !s.sys.inReset && (ready s || (s.sys.mode == .boot && s.sys.booted))

/-- A dealer is configured for the pair (02 R47, 06 Table 6.14). -/
def hasDealer (s : State) : Bool := paired s && s.cfg.dealer != 0

/-- The dealer arbitrates: configured, with DLR_ALIVE toggling (14 R374). -/
def dealerAlive (s : State) : Bool := hasDealer s && !s.pair.dlrLost

/-! Claims (14 R364, R365) -/

/-- The epoch of a claim. -/
def epochOf (c : U32) : Nat := c.toNat / 256

/-- The epoch cannot be raised (14 R365). -/
def epochFull : Nat := 0xFFFFFF

/-- The alarm that stands while the epoch is at its end (14 R365). -/
def epochAlarm (s : State) : State := if epochOf s.pair.claim = epochFull then s.raise 0x0807 (le 4 s.pair.claim.toNat) else s

/-- The epoch a raise would give (14 R365). -/
def nextEpoch (s : State) : Nat := max (max (epochOf s.pair.claim) (epochOf s.pair.partnerClaim)) s.pair.heldEpoch + 1

/-- The claim raised, written and read back; none when its epoch cannot be raised (14 R365). -/
def raiseClaim (s : State) : Option State :=
  if epochFull < nextEpoch s then none
  else some (epochAlarm (s.mapPair fun p => { p with claim := BitVec.ofNat 32 (256 * nextEpoch s + rank s) }))

/-- The highest HELD_CLAIM among the reports held (14 R365, 09 R227). -/
def highestHeld (s : State) : Nat := (s.outs.stages.filterMap (·.report)).foldl (fun m r => max m r.held.toNat) 0

/-- The raise over a stale claim, at a round boundary (09 R227, 14 R382). -/
def staleRound (s : State) : State :=
  if !s.pair.staleRaise then s
  else
    let s := s.mapPair fun p => { p with staleRaise := false }
    if s.sys.mode ≠ .declarer then s
    else match raiseClaim s with
      | none => epochAlarm s
      | some t => t.event 0x0403 (le 4 s.pair.claim.toNat ++ le 4 t.pair.claim.toNat ++ le 4 (highestHeld s))

/-! CFG_MATCH (14 R372) -/

/-- CFG_MATCH as it stands now. -/
def matchNow (s : State) : Bool :=
  match s.sys.mode with
  | .declarer => paired s && !s.pair.wordsLost && s.pair.partnerRole == 2 && s.pair.partnerMatch
  | .dummy => !s.pair.missedRound && (match s.pair.frames.head? with | some f => f.digest == s.pair.digest | none => false)
  | _ => false

/-- A change of CFG_MATCH is recorded; a declarer is not told its partner's digest, so that field is free there
(15 Table 15.13). -/
def updateMatch (s : State) : State :=
  let m := matchNow s
  if m = s.pair.cfgMatch then s
  else
    let other := if s.sys.mode = .dummy then s.pair.partnerDigest.toNat else Config.freeNat s.fresh
    (s.bump.mapPair fun p => { p with cfgMatch := m }).event 0x0805 (le 1 (bit m) ++ le 7 0 ++ le 8 s.pair.digest.toNat ++ le 8 other)

/-! The bid link (14 R366 to R368) -/

/-- ROLE of the words sent; a new declarer sends 1 from the raise of its claim (14 Tables 14.2, 14.5). -/
def roleCode (s : State) : Nat :=
  match s.sys.mode with
  | .declarer => 1
  | .dummy => if s.pair.deferTakeover then 1 else 2
  | .commissioning => 3
  | _ => 0

/-- A word of 40 data bits with its CRC8 over them in the order sent (14 R367, 09 R214). -/
def wordOf (v : Nat) : BitVec 48 := BitVec.ofNat 48 (v + 2 ^ 40 * (crc8Bits (bitsLsb 40 v)).toNat)

/-- The bid word (14 Table 14.2). -/
def bidWord (s : State) : BitVec 48 :=
  wordOf (s.pair.claim.toNat + 2 ^ 32 * roleCode s + 2 ^ 35 * bit (!s.pair.p3Silent) + 2 ^ 36 * bit s.pair.swapDummy.isSome +
    2 ^ 37 * bit s.pow.mainsOk + 2 ^ 38 * bit (roleCode s == 2 && s.pair.cfgMatch))

/-- The states in which BID_HBO may toggle (14 R366). -/
def bidState (s : State) : Bool :=
  s.clk.running && !s.sys.inReset && !s.sys.failSilent && (match s.sys.mode with
    | .boot | .commissioning | .declarer | .dummy => true
    | _ => false)

/-- Row HEARTBEAT_TOGGLE: cycle 1,600 x m of a tick, and the bid word after it (14 R366, R367). -/
def execHeartbeatToggle (m : Nat) (s : State) : Result :=
  .next (if !bidState s || 15 < m then s
    else if s.clk.releaseMet && s.clk.dealConfirmed then
      let s := s.mapPair fun p => { p with hbo := !p.hbo, hboRun := true }
      if isDealer s then s else s.emit (.bidWord (bidWord s))
    else s.mapPair fun p => { p with hbo := true, hboRun := false })

/-- PAIR_LINK (15 Table 15.13). -/
def linkEvent (s : State) (link : Nat) (up : Bool) : State := s.event 0x0801 (le 1 link ++ le 1 (bit up) ++ le 2 0)

/-- Row PARTNER_HEARTBEAT_EDGE: an edge on BID_HBI (14 R368, 02 R52). -/
def execPartnerHeartbeatEdge (high : Bool) (cyc : Nat) (s : State) : Result :=
  .next (
    let s := s.mapPair fun p => { p with hbi := high, edgeSeen := true, lastEdge := atCyc s cyc }
    if watches s && s.pair.hbLost then
      let s := s.mapPair fun p => { p with hbLost := false, dlrReq := false }
      (linkEvent s 1 true).clearAlarm 0x0802 []
    else s)

/-- Row HEARTBEAT_LOSS: no edge for 4,800 TCLK (14 R368). -/
def execHeartbeatLoss (cyc : Nat) (s : State) : Result :=
  .next (if watches s && !s.pair.hbLost && decide (s.pair.lastEdge + 4800 ≤ atCyc s cyc) then
      linkEvent (s.mapPair fun p => { p with hbLost := true }) 1 false
    else s)

/-- Row BID_WORD: a word from the partner (14 R367, R368, R372). -/
def execBidWord (w : BidWordIn) (s : State) : Result :=
  .next (if !paired s || s.sys.inReset || !w.crcOk then s
    else
      let lost := s.pair.wordsLost
      let s := s.mapPair fun p => { p with
        partnerClaim := w.claim
        linkClaim := w.claim
        roleOneAt := if w.role = 1 then some (atCyc s w.cyc) else p.roleOneAt
        partnerRole := w.role
        partnerP3Ok := w.p3Ok
        swapAck := w.swapAck
        partnerMains := w.mains
        partnerMatch := w.cfgMatch
        lastWord := atCyc s w.cyc
        wordsLost := lost && !watches s }
      if watches s then
        let s := if lost then (linkEvent s 2 true).clearAlarm 0x0802 [] else s
        updateMatch s
      else s)

/-- Row BID_WORDS_LOSS: no good word for 4,800 TCLK (14 R368). -/
def execBidWordsLoss (cyc : Nat) (s : State) : Result :=
  .next (if watches s && !s.pair.wordsLost && decide (s.pair.lastWord + 4800 ≤ atCyc s cyc) then
      updateMatch (linkEvent (s.mapPair fun p => { p with wordsLost := true }) 2 false)
    else s)

/-- Row P3_SILENT: P3 out of sync or without a code group for 1,600 TCLK (14 R368). -/
def execP3Silent (_cyc : Nat) (s : State) : Result :=
  .next (if watches s && !s.pair.p3Silent then linkEvent (s.mapPair fun p => { p with p3Silent := true }) 3 false else s)

/-- Row P3_SYNC_GAINED (14 R368). -/
def execP3SyncGained (s : State) : Result :=
  .next (if watches s && s.pair.p3Silent then linkEvent (s.mapPair fun p => { p with p3Silent := false }) 3 true else s)

/-! Taking over (14 R373 to R377) -/

/-- Heartbeat and bid words are both lost (14 R373). -/
def bothLost (s : State) : Bool := s.pair.hbLost && s.pair.wordsLost

/-- STAGE_LIVE bits of the stages configured here (14 Table 14.3). -/
def stageMask (s : State) : List Nat := s.cfg.stages.map fun c => 16 * c.link + c.addr

/-- A tick-state frame shows every configured stage silent (14 R373). -/
def allSilentIn (s : State) (f : TickState) : Bool := (stageMask s).all fun n => !f.stageLive.getLsbD n

/-- The conditions beyond the bid link, of which one must hold (14 R373). -/
def takeoverCond (s : State) : Bool :=
  s.pair.p3Silent ||
    (!s.cfg.stages.isEmpty && s.pair.frames.length == 3 && s.pair.frames.all (allSilentIn s)) ||
    (match s.pair.frameTick with | none => true | some t => decide (t + 3 ≤ s.now))

/-- A refusal to take over, recorded once per cause (14 R375). -/
def refuseTakeover (s : State) (cause : Nat) : State :=
  if s.pair.refusedCauses.contains cause then s
  else (s.mapPair fun p => { p with refusedCauses := cause :: p.refusedCauses }).event 0x0804 (le 1 cause ++ le 3 0)

/-- Scorecard entry of a change of role (15 Table 15.11). -/
def roleScore (s : State) (cause : Nat) (old : U32) : State :=
  s.score 0x03 (le 1 cause ++ le 4 old.toNat ++ le 4 s.pair.claim.toNat ++ le 4 s.pair.partnerClaim.toNat)

/-- The first slot of a tick starting at `base` whose start lies after `t` (14 R376, 04 Table 4.2). -/
def slotAfter (base t : Nat) : Option Nat := (List.range 16).find? fun k => decide (t < base + 14064 + 640 * k)

/-- The takeover tick and k0 of a decision at `t` (14 R376). A last edge older than the previous tick gives the present
tick and its first slot still to come (log 51). -/
def takeoverSlot (s : State) (t : Nat) : Nat × Nat :=
  let next (tick : Nat) (o : Option Nat) : Nat × Nat := match o with | some k => (tick, k) | none => (tick + 1, 0)
  if s.clk.tclk ≤ s.pair.lastEdge then next s.clk.tick (slotAfter s.clk.tclk s.pair.lastEdge)
  else if s.clk.prevStart ≤ s.pair.lastEdge ∧ 0 < s.clk.tick then
    next (s.clk.tick - 1) (slotAfter s.clk.prevStart s.pair.lastEdge)
  else next s.clk.tick (slotAfter s.clk.tclk t)

/-- A frame of the takeover tick sent after that tick's end, for one stage (14 R376). -/
def lateFrame (s : State) (tick : Nat) (c : StageCfg) : State :=
  match stageRt s c.link c.addr with
  | none => s
  | some x => sendStage s c.link c.addr tick (s.now - 1) (frameValue s c) x.store

/-- The slots of a takeover tick that has ended already (14 R376). -/
def lateFrames (s : State) (tick k0 : Nat) : State :=
  if s.clk.tick ≤ tick then s
  else
    let seat (c : StageCfg) : Bool := (loopsOf s.cfg c.feeder).isEmpty || (seatAt s c.feeder).isSome
    let due := (List.range 16).flatMap fun k => s.cfg.stages.filter fun c => c.addr == k && decide (k0 ≤ k) && seat c
    due.foldl (fun s c => lateFrame s tick c) s

/-- Outputs that the new declarer has no loop for release their safe level; each is recorded (14 R387). -/
def noLoops (s : State) : State :=
  if s.pair.cfgMatch then s
  else
    let own := loopOutputs s.cfg
    let missing := (((s.pair.frames.head?.map (·.outs)).getD []).map (·.1)).filter fun o => !own.contains o
    let s := s.mapCtl fun c => { c with outs := c.outs.filter fun o => own.contains o.code }
    missing.foldl (fun s o => s.event 0x0305 (le 1 o ++ le 3 0)) s

/-- A dummy takes over with its claim raised at `cyc` (14 R375, R376, R387). -/
def takeOver (s : State) (cyc : Nat) : State :=
  if !s.pow.mainsOk then refuseTakeover s 1
  else if s.sys.mode ≠ .dummy then refuseTakeover s 3
  else match raiseClaim s with
    | none => refuseTakeover (epochAlarm s) 2
    | some t =>
      let (tick, k0) := takeoverSlot s (atCyc s cyc)
      let t := t.mapPair fun p => { p with deferTakeover := true, lastTakeover := tick, dlrReq := false }
      let t := noLoops (t.clearAlarm 0x0802 [])
      let t := t.mapOuts fun o => { o with takeoverTick := some tick, k0 := k0 }
      let t := t.emit (.bidWord (bidWord t))
      goMode (roleScore (lateFrames t tick k0) 1 s.pair.claim) .declarer

/-- Row TAKEOVER: the decision of a module without a dealer, or whose dealer is lost, at `cyc` (14 R373, R374, R375). -/
def execTakeover (cyc : Nat) (s : State) : Result :=
  .next (
    let may := match s.sys.mode with
      | .dummy | .commissioning | .quarantine | .failLit => true
      | _ => false
    if !watches s || !may || s.sys.failSilent || s.pair.deferTakeover || !bothLost s || dealerAlive s then s
    else if takeoverCond s then takeOver s cyc
    else if s.sys.mode = .dummy then s.raise 0x0802 []
    else s)

/-! The dealer (14 R374, R378 to R380) -/

/-- The word to the dealer (14 Table 14.6). -/
def dealerWord (s : State) : BitVec 48 :=
  let ok := s.outs.stages.all fun x => !x.silent
  wordOf (s.pair.claim.toNat + 2 ^ 32 * roleCode s + 2 ^ 35 * bit ok + 2 ^ 36 * bit (!s.pair.hbLost) + 2 ^ 37 * bit s.pair.dlrReq)

/-- Row DEALER_WORD_SEND (14 R378). -/
def execDealerWordSend (m : Nat) (s : State) : Result :=
  .next (if bidState s && paired s && decide (m ≤ 15) then s.emit (.dealerWord (dealerWord s)) else s)

/-- Row TAKEOVER_REQUEST: a dummy that has lost both, or a module arbitrating in BOOT without a valid bid word, asks the
dealer at once (14 R369, R374). -/
def execTakeoverRequest (s : State) : Result :=
  .next (
    let want := match s.sys.mode with
      | .dummy => bothLost s && !s.pair.deferTakeover
      | .boot => s.sys.booted && s.pair.wordsLost
      | _ => false
    if !bidState s || !dealerAlive s || !want || s.pair.dlrReq then s
    else
      let s := s.mapPair fun p => { p with dlrReq := true }
      s.emit (.dealerWord (dealerWord s)))

/-- Row DEALER_GRANT: a grant that answers a request (14 R369, R374, R379). -/
def execDealerGrant (cyc : Nat) (s : State) : Result :=
  .next (if !bidState s || !hasDealer s || !s.pair.dlrReq then s
    else
      let s := s.mapPair fun p => { p with dlrReq := false }
      if s.sys.mode = .dummy then takeOver s cyc
      else s.mapPair fun p => { p with granted := true })

/-- Row DEALER_REFUSE: the module stays as it is and goes on asking (14 R374). -/
def execDealerRefuse (s : State) : Result :=
  .next (if bidState s && hasDealer s && s.pair.dlrReq then s.raise 0x0802 [] else s)

/-- A declarer demotes itself (14 R381). -/
def demote (s : State) : State := goMode (roleScore s 3 s.pair.claim) .dummy

/-- Row DEALER_DEMOTE (14 R379, R381). -/
def execDealerDemote (s : State) : Result :=
  .next (if s.sys.mode = .declarer ∧ paired s ∧ hasDealer s ∧ s.sys.nextMode.isNone then demote s else s)

/-- Row DEALER_LOST: no edge on DLR_ALIVE for 24 us (14 R374, R378). -/
def execDealerLost (_cyc : Nat) (s : State) : Result :=
  .next (if !watches s || !hasDealer s || (s.pair.dlrLost && s.alarmOn 0x0803) then s
    else
      let s' := s.mapPair fun p => { p with dlrLost := true, dlrReq := false }
      (if s.pair.dlrLost then s' else linkEvent s' 4 false).raise 0x0803 [])

/-- Row DEALER_ALIVE_RETURN (14 R374, R378). -/
def execDealerAliveReturn (s : State) : Result :=
  .next (if !watches s || !hasDealer s || !s.pair.dlrLost then s
    else (linkEvent (s.mapPair fun p => { p with dlrLost := false }) 4 true).clearAlarm 0x0803 [])

/-- What a dealer keeps for a position. -/
def dealerPos (s : State) (b : Bool) : DealerPos := s.pair.dlrWords.getD (bit b) DealerPos.reset

/-- Updates what a dealer keeps for a position. -/
def State.onPos (s : State) (b : Bool) (f : DealerPos → DealerPos) : State :=
  s.mapPair fun p => { p with dlrWords := updAt p.dlrWords (bit b) f }

/-- A position is still sending: a good word within the last 4,800 TCLK (14 R379). -/
def stillSending (x : DealerPos) (t : Nat) : Bool := match x.last with | none => false | some l => decide (t < l + 4800)

/-- The dealer's answer to a request: refused within 8,000 TCLK of a grant to the other position, granted when the other
has gone, is not declarer or has no outputs, else refused (14 R379). After a grant the other position is to be demoted
whenever it sends (log 54). -/
def answerRequest (s : State) (b : Bool) (t : Nat) : State :=
  let other := dealerPos s !b
  let held := match other.granted with | none => false | some g => decide (t < g + 8000)
  if !held && (!stillSending other t || other.role != 1 || !other.outOk) then
    let s := (s.onPos b fun x => { x with granted := some t, demoting := false }).onPos (!b) fun x => { x with demoting := true }
    s.emit (.dealerAnswer b 1)
  else s.emit (.dealerAnswer b 2)

/-- Row MODULE_TO_DEALER_WORD: a module strapped to the dealer role performs 14 R379 (14 R380). -/
def execModuleToDealerWord (w : DealerWordIn) (s : State) : Result :=
  .next (if !isDealer s || s.sys.mode ≠ .declarer || !w.crcOk then s
    else
      let t := atCyc s w.cyc
      let s := s.onPos w.pos fun x => { x with
        last := some t
        role := w.role
        outOk := w.outOk
        demoting := x.demoting && w.role != 2 }
      let s := if w.req && (w.role == 2 || w.role == 0) then answerRequest s w.pos t else s
      if (dealerPos s w.pos).demoting then s.emit (.dealerAnswer w.pos 3) else s)

/-! Frames on P3 (14 Tables 14.3, 14.4, 14.10, 14.11) -/

/-- A frame of the pair on P3 around its payload (14 R370). -/
def p3Frame (s : State) (payload : List Byte) : List Byte :=
  padTo (max 60 (14 + payload.length)) (bcastMac ++ s.eth.mac ++ be 2 0x88B5 ++ payload)

/-- Sends a frame of the pair on P3 and counts it there (14 R370, 11 R304). -/
def sendP3 (s : State) (bytes : List Byte) (o : Out) : State := ((s.count 3 2).count 3 3 bytes.length).emit o

/-- The bytes of a loop entry (14 Table 14.4). -/
def loopEntryBytes (e : LoopEntry) : List Byte :=
  leInt 4 e.integ ++ leInt 4 e.pvPrev ++ leInt 4 (e.sp.getD 0) ++
    le 4 (e.sat + 2 ^ 24 * e.idx + 2 ^ 30 * bit e.sp.isNone) ++ (e.notches.map (leInt 2)).flatten

/-- The tick-state payload as bytes (14 Table 14.3). -/
def tickStateBytes (f : TickState) : List Byte :=
  le 1 1 ++ le 1 f.outs.length ++ le 1 f.loops.length ++ le 1 f.ct.toNat ++ le 4 f.claim.toNat ++ le 8 f.tick ++
    le 4 f.epoch.toNat ++ le 4 f.stageLive.toNat ++ le 8 f.digest.toNat ++ (f.caps.map (le 2)).flatten ++
    (f.outs.map fun x => le 1 x.1 ++ leInt 7 x.2).flatten ++ (f.loops.map loopEntryBytes).flatten

/-- The payload of a replay (14 R371). -/
def replayBytes (tick : Nat) (msg : List Byte) : List Byte := le 1 2 ++ le 3 0 ++ le 8 tick ++ msg

/-- The bytes of an association in section 1 (14 Table 14.11). -/
def assocRepBytes (a : AssocRep) : List Byte :=
  le 2 a.short ++ le 1 a.port ++ le 1 a.nstate ++ le 4 a.node.toNat ++ le 2 a.parent ++ le 1 a.hops ++ le 1 0 ++
    paramBytes a.params ++ (a.his.map (le 4)).flatten

/-- The records of items in order (15 R421). -/
def itemsBytes (l : List CfgItem) : List Byte :=
  (((l.map itemRecords).flatten.foldl (fun l x => putSorted l (fun y => keyOrder y.1) x) []).map recordBytes).flatten

/-- SECT and BODY of a section (14 Table 14.11). -/
def sectionBody (x : Section) : Nat × List Byte :=
  match x with
  | .assocs l => (1, (l.map assocRepBytes).flatten)
  | .assocsGone l => (2, (l.map (le 2)).flatten)
  | .counter g e r => (3, le 1 g ++ le 3 0 ++ le 4 e ++ le 4 r.toNat)
  | .ledger l => (4, (l.map fun e => le 4 (mkRef 4 e.sched).toNat ++ le 1 e.step ++ le 3 0 ++ leInt 4 e.day).flatten)
  | .changes l => (5, l.flatten)
  | .config l => (6, itemsBytes l)
  | .configGone l => (7, (l.map fun k => le 4 k.1.toNat ++ le 4 k.2.1.toNat ++ le 2 k.2.2.toNat ++ le 2 0).flatten)
  | .done => (8, [])

/-- A section as bytes, its BODY padded to a multiple of 4 (14 R389). -/
def sectionBytes (x : Section) : List Byte :=
  let b := sectionBody x
  le 1 b.1 ++ le 1 0 ++ le 2 b.2.length ++ b.2 ++ List.replicate ((4 - b.2.length % 4) % 4) 0

/-- A list in runs whose bodies LEN can count: each run takes what fits in 65,535 bytes (14 R389, log 52). -/
def runsOf {α : Type} (body : List α → Nat) (l : List α) : List (List α) :=
  (l.foldl (fun (acc : List (List α)) x => match acc with
    | r :: rest => if body (r ++ [x]) ≤ 65535 then (r ++ [x]) :: rest else [x] :: acc
    | [] => [[x]]) []).reverse

/-- A section, in as many sections as LEN asks for (14 R389). -/
def splitSection (x : Section) : List Section :=
  let size (mk : Section) : Nat := (sectionBody mk).2.length
  if size x ≤ 65535 then [x]
  else match x with
    | .assocs l => (runsOf (fun r => size (.assocs r)) l).map .assocs
    | .ledger l => (runsOf (fun r => size (.ledger r)) l).map .ledger
    | .changes l => (runsOf (fun r => size (.changes r)) l).map .changes
    | .config l => (runsOf (fun r => size (.config r)) l).map .config
    | .configGone l => (runsOf (fun r => size (.configGone r)) l).map .configGone
    | x => [x]

/-- The payload of a round-data frame around its part of the section stream (14 Table 14.10). -/
def roundBytes (f : RoundData) (part : List Byte) : List Byte :=
  le 1 3 ++ le 1 (bit f.swap + 2 * bit f.full) ++ le 2 0 ++ le 8 f.round ++ le 2 f.part ++ le 2 f.count ++ le 4 f.claim.toNat ++ part

/-- The bytes of the section stream that one frame of P3 takes: its MAXF less the Ethernet frame and the header (log 52). -/
def partRoom (s : State) : Nat := (portCfg s 3).maxf - 18 - 20

/-- Each section with the part in which its last byte lies, from byte `pos` of the stream on. -/
def sectionEnds (room pos : Nat) (l : List Section) : List (Nat × Section) :=
  match l with
  | [] => []
  | x :: rest =>
    let e := pos + (sectionBytes x).length
    ((e - 1) / room, x) :: sectionEnds room e rest

/-- The frames of a stream (14 R389). -/
def streamFrames (s : State) (swap full : Bool) (r : Nat) (l : List Section) : List (RoundData × List Byte) :=
  let room := partRoom s
  let l := (l.map splitSection).flatten
  let data := (l.map sectionBytes).flatten
  let count := (data.length + room - 1) / room
  let ends := sectionEnds room 0 l
  (List.range count).map fun k =>
    let f : RoundData := { swap := swap, full := full, round := r, part := k, count := count, claim := s.pair.claim,
                           sections := (ends.filter fun x => x.1 == k).map (·.2) }
    (f, p3Frame s (roundBytes f (cut data (k * room) room)))

/-- Sends a stream (14 R389). -/
def sendStream (s : State) (swap full : Bool) (r : Nat) (l : List Section) : State :=
  (streamFrames s swap full r l).foldl (fun s x => sendP3 s x.2 (.roundData x.1 x.2)) s

/-- The frame that announces a planned swap of round `r` (14 R385, R389). -/
def sendSwap (s : State) (r : Nat) : State := sendStream s true false r [.done]

/-! Two declarers (14 R381, R382) and swaps (14 R384, R385) -/

/-- Some stage's last reply carried OUTBID 1. -/
def someOutbid (s : State) : Bool := s.outs.stages.any (·.outbid)

/-- Row DEMOTION: outbid by a stage, or by a bid word or tick-state frame (14 R381). The bid link counts as lost here with its
words (log 202). -/
def execDemotion (s : State) : Result :=
  .next (
    let higher := decide (s.pair.claim.toNat < s.pair.partnerClaim.toNat)
    let byStage := someOutbid s && (higher || s.pair.wordsLost)
    let byWord := higher && ((!s.pair.wordsLost && s.pair.partnerRole == 1) ||
      (match s.pair.frameTick with | some t => decide (s.now ≤ t + 1) | none => false))
    if s.sys.mode = .declarer ∧ paired s ∧ s.sys.nextMode.isNone ∧ (byStage || byWord) then demote s else s)

/-- Some stage's last reply carried OUTBID 1 and answers a frame of this round, whose claim is the present one: claims rise
at boundaries only (14 R382). -/
def outbidThisRound (s : State) : Bool :=
  s.outs.stages.any fun x => x.outbid && x.outbidTick.any (fun t => decide (s.now ≤ t + s.clk.ticksInRound))

/-- Row STALE_CLAIM_RAISE: OUTBID from a claim that no partner governing holds (09 R227, 14 R382). -/
def execStaleClaimRaise (s : State) : Result :=
  .next (
    let stale := !paired s || (!s.pair.wordsLost && s.pair.partnerRole == 2 && decide (s.pair.partnerClaim.toNat < s.pair.claim.toNat))
    if s.sys.mode = .declarer ∧ outbidThisRound s ∧ stale then s.mapPair fun p => { p with staleRaise := true } else s)

/-- The holder that names a swap started by 14 R384 (06 R149). -/
def autoHolder : OpTok := { OpTok.none with ch := 0xFD }

/-- A planned swap starts: its round, its holder, and the announcement in that round (14 R385). -/
def startSwap (s : State) (holder : OpTok) (owes install : Bool) : State :=
  let r := changeRound s
  let s := s.mapPair fun p => { p with
    swapRound := some r
    swapHolder := holder
    swapHasTok := owes
    swapInstall := install
    swapAck := false }
  if r = curRound s then sendSwap s r else s

/-- Why a planned swap cannot start: one is pending, the partner is not in DUMMY or CFG_MATCH is 0 (06 R149). -/
def swapRefusal (s : State) : Option Reply :=
  if s.pair.swapRound.isSome || s.pair.swapRan then some (busyBy s.pair.swapHolder)
  else if !paired s || s.pair.wordsLost || s.pair.partnerRole != 2 || !s.pair.cfgMatch then some { status := stBusy, detail := 0xFE }
  else none

/-- Command 0x0802, planned role swap (06 R149). -/
def execPlannedRoleSwap (r : Req) (s : State) : Result :=
  .next (gmp s r { cmd := 0x0802, len := 0 } fun t s =>
    match swapRefusal s with
    | some p => (s, p)
    | none => (startSwap s t true false, { status := stAccepted }))

/-- Row AUTO_SWAP: every configured stage SILENT for 16 ticks (14 R384). -/
def execAutoSwap (s : State) : Result :=
  .next (if s.sys.mode = .declarer ∧ !s.cfg.stages.isEmpty ∧ 16 ≤ s.pair.autoTicks ∧ !s.pair.hbLost ∧ (swapRefusal s).isNone then
      (startSwap s autoHolder false false).event 0x0806 []
    else s)

/-- A planned swap without SWAP_ACK is abandoned (14 R385, 06 R149); an install that started it ends with BUSY, a
fall-back goes on alone (17 R460, R467). -/
def abandonSwap (s : State) : State :=
  let h := s.pair.swapHolder
  let owes := s.pair.swapHasTok
  let inst := s.pair.swapInstall
  let s := s.mapPair fun p => { p with swapRound := none, swapHasTok := false, swapInstall := false }
  let s := if owes then finishOp s h { status := stBusy, detail := 0xFE } else s
  if inst && !s.upd.fallBack then endInstall s 0x0004 { status := stBusy, detail := 0xFE } else s

/-- Row PLANNED_SWAP_EXECUTE: in tick 7,999 of the swap's round, for the boundary that follows (14 R385). -/
def execPlannedSwapExecute (s : State) : Result :=
  .next (
    let last := decide (tickInRound s = 7999)
    let now (r : Option Nat) : Bool := last && r == some (curRound s)
    match s.sys.mode with
    | .declarer =>
      if !now s.pair.swapRound then s
      else if s.pair.swapAck && !s.pair.wordsLost then
        let s := s.mapPair fun p => { p with swapRound := none, swapRan := true, swapInstall := false, lastTakeover := s.clk.tick + 1 }
        goMode (roleScore s 2 s.pair.claim) .dummy
      else abandonSwap s
    | .dummy =>
      if !now s.pair.swapDummy then s
      else
        match raiseClaim (s.mapPair fun p => { p with swapDummy := none }) with
        | none => refuseTakeover (s.mapPair fun p => { p with swapDummy := none }) 2
        | some t => goMode (roleScore (noLoops (t.mapPair fun p => { p with lastTakeover := s.clk.tick + 1 })) 2 s.pair.claim) .declarer
    | _ => s)

/-! Per-tick state (14 R370, R371, R373) -/

/-- The outputs with an entry: those with a loop, or a stage, string or chain device driven from them (14 R370, 09 R249). -/
def stateOutputs (s : State) : List Nat :=
  let driven (o : Nat) : Bool :=
    s.cfg.stages.any (fun c => c.feeder == o) ||
      s.cfg.strings.any (fun c => c.maxMa != 0 && stringOutput s c.ch == o) ||
      (decide (0x10 ≤ o) && decide (o < 0x20) && s.cfg.chains.getD ((o - 0x10) / 8) 0 != 0)
  allOutputs.filter fun o => !(loopsOf s.cfg o).isEmpty || driven o

/-- A loop entry; where the frame's unit is coarser than the state's, the rounding is not given and is free
(14 Table 14.4, log 16). -/
def loopEntry (s : State) (free : Nat) (l : LoopCfg) : LoopEntry :=
  let r := loopRt s l.idx
  let pv := roundBy free (mkRat r.pvPrev 4294967296)
  let n (k : Nat) (y : Int) : Int := clampInt (roundBy (free + 1 + k) (mkRat y 4294967296) - pv) (-32768) 32767
  { idx := l.idx
    integ := roundBy (free + 5) (mkRat r.integ 1000)
    pvPrev := pv
    sp := setPointOf s l r
    sat := min r.satTicks 4800000
    notches := [n 0 r.notch1.y1, n 1 r.notch1.y2, n 2 r.notch2.y1, n 3 r.notch2.y2] }

/-- The tick-state payload (14 Tables 14.3, 14.4). -/
def tickStateOf (s : State) : TickState where
  ct := BitVec.ofNat 8 (s.outs.contactors.mapIdx fun n c => bit c.want * 2 ^ n).sum
  claim := s.pair.claim
  tick := s.clk.tick
  epoch := s.clk.epoch
  stageLive := BitVec.ofNat 32 ((s.outs.stages.filter fun x => !x.silent).map fun x => 2 ^ (16 * x.link + x.addr)).sum
  digest := s.pair.digest
  caps := (List.range 8).map fun f => if regulated s f then 10000 else s.ctl.caps.getD f 10000
  outs := (stateOutputs s).map fun o => (o, releasedY s o)
  loops := s.cfg.loops.mapIdx fun k l => loopEntry s (s.fresh + 6 * k) l

/-- Row TICK_STATE_FRAME_SEND: the frame of this tick, then the requests that take effect in it (14 R370, R371). -/
def execTickStateFrameSend (s : State) : Result :=
  .next (if s.sys.mode ≠ .declarer || !paired s || s.sys.failSilent || !s.clk.running || workLost s 1 then s
    else
      let f := tickStateOf s
      let due := s.pair.replays.filter fun x => decide (x.1 ≤ s.clk.tick)
      let bytes := p3Frame s (tickStateBytes f)
      let s := sendP3 { s with fresh := s.fresh + 512 } bytes (.tickState f bytes)
      let s := due.foldl (fun s x =>
        let b := p3Frame s (replayBytes x.1 x.2)
        sendP3 s b (.replay x.1 x.2 b)) s
      releaseHeld (s.mapPair fun p => { p with
        sentTick := some s.now
        replays := p.replays.filter fun x => decide (s.clk.tick < x.1) }) 3)

/-- Row TICK_STATE_FRAME: a frame from the partner; a dummy takes it up at the next cycle 1,824 (14 R370, 04 R97). -/
def execTickStateFrame (f : TickState) (s : State) : Result :=
  .next (if !watches s then s
    else
      let s := s.mapPair fun p => { p with
        partnerClaim := f.claim
        frames := (f :: p.frames).take 3
        frameTick := some s.now
        partnerDigest := f.digest }
      if s.sys.mode = .dummy then updateMatch (s.mapCtl fun c => { c with shadowIn := some f }) else s)

/-! Round data (14 R371, R389, R294) -/

/-- An association as round data carries it (14 Table 14.11). -/
def assocRep (s : State) (a : Assoc) : AssocRep where
  short := a.short
  port := a.port
  nstate := a.nstate
  node := a.node
  parent := if a.parent = 0 then 0 else ((assocOf s a.parent).map (·.short)).getD 0
  hops := a.hops
  params := a.params
  his := (List.range 3).map fun g => ((a.nbrs.find? fun b => b.gen == g + 1).map (·.hi)).getD 0

/-- The sections of the round that begins, from the configuration before the boundary (14 R389). -/
def roundSections (s : State) (old : Cfg) : List Section :=
  let some_ (b : Bool) (x : Section) : List Section := if b then [x] else []
  let changed := s.mesh.assocs.filter fun a => !s.pair.sentAssocs.contains a
  let gone := (s.pair.sentAssocs.filter fun a => !s.mesh.assocs.any fun b => b.short == a.short).map (·.short)
  let ledger := s.sch.ledger.filter fun e => !s.pair.sentLedger.contains e
  let items := itemsChanged old s.cfg
  let removed := itemsGone old s.cfg
  some_ (!changed.isEmpty) (.assocs (changed.map (assocRep s))) ++ some_ (!gone.isEmpty) (.assocsGone gone) ++
    [.counter s.mesh.keyGen s.mesh.fcEnd s.mesh.restart] ++ some_ (!ledger.isEmpty) (.ledger ledger) ++
    some_ (!s.changes.isEmpty) (.changes (s.changes.map fun c => requestBytes c.what)) ++
    some_ (!items.isEmpty) (.config items) ++ some_ (!removed.isEmpty) (.configGone removed) ++ [.done]

/-- The round data of a declarer at a round boundary, the announcement of a swap of this round, and every 60 rounds a full
copy (14 R371, R385, R389). -/
def roundDataSend (s : State) (old : Cfg) : State :=
  if s.sys.mode ≠ .declarer || !paired s || s.sys.failSilent then s
  else
    let r := curRound s
    let s := sendStream s false false r (roundSections s old)
    let s := if s.pair.swapRound = some r then sendSwap s r else s
    let s := if r % 60 = 0 then sendStream s false true r [.config (itemsOf s.cfg), .done] else s
    s.mapPair fun p => { p with sentAssocs := s.mesh.assocs, sentLedger := s.sch.ledger }

/-- An association taken from round data, its parent by short address among those of the stream and those held, in any order
(10 R294). Of each neighbour's hi the higher is kept; MAX_PSDU and MAX_CHILD do not travel (log 200). -/
def takeAssoc (stream : List AssocRep) (s : State) (a : AssocRep) : State :=
  let old := assocOf s a.node
  let parent : U32 := if a.parent = 0 then 0
    else match stream.find? fun x => x.short == a.parent with
      | some x => x.node
      | none => match s.mesh.assocs.find? fun x => x.short == a.parent with
        | some x => x.node
        | none => (old.map (·.parent)).getD 0
  let held := (old.map (·.nbrs)).getD []
  let nbr (g h : Nat) : Option Nbr :=
    match held.find? fun b => b.gen == g with
    | some b => if b.hi < h then some { gen := g, hi := h, win := 1 } else some b
    | none => if h = 0 then none else some { gen := g, hi := h, win := 1 }
  let base : Assoc := old.getD {
    node := a.node, short := a.short, nstate := a.nstate, port := a.port, hops := a.hops, parent := parent, level := 0,
    ackRound := 0, rssi := 0, lastTick := 0, heard := s.now, params := a.params, next := none, evCount := 0, nbrs := [],
    floors := [], window := 0, csca := 0, maxPsdu := 127, maxChild := 0, leaving := false, removeRec := false, nflags := 0 }
  let new : Assoc := { base with
    short := a.short
    nstate := a.nstate
    port := a.port
    hops := a.hops
    parent := parent
    params := a.params
    nbrs := (a.his.mapIdx fun g h => nbr (g + 1) h).filterMap id }
  s.mapMesh fun m => { m with assocs := putSorted (m.assocs.filter fun x => x.node != a.node) (fun x => x.node.toNat) new }

/-- One section applied in a dummy (14 R371). Each module keeps its own configuration (06 R140); of the declarer's records
a dummy takes the one of 0x0104 (15 R421). Pending changes of the declarer are its own (log 53). -/
def applySection (stream : List AssocRep) (s : State) (x : Section) : State :=
  match x with
  | .assocs l => l.foldl (takeAssoc stream) s
  | .assocsGone l => s.mapMesh fun m => { m with assocs := m.assocs.filter fun a => !l.contains a.short }
  | .counter g e r =>
    let used := max s.mesh.fcEnd s.pair.partnerE
    let s := s.mapPair fun p => { p with partnerE := e, partnerRestart := r }
    if g = s.mesh.keyGen then s else newGeneration s g used
  | .ledger l => s.mapSch fun y => { y with ledger := l.foldl (fun a e => e :: a.filter fun z => !(z.sched == e.sched && z.step == e.step)) y.ledger }
  | .changes _ => s
  | .config l => l.foldl (fun s i => match i with
      | .comm c => if s.cfg.comm = some c then s else requestStore (s.mapCfg fun x => { x with comm := some c }) .nand 1080 (.comm c 0) none
      | _ => s) s
  | .configGone _ => s
  | .done => s

/-- The items that a stream's sections carry. -/
def streamItems (l : List Section) : List CfgItem := l.flatMap fun x => match x with | .config i => i | _ => []

/-- The associations that a stream's sections carry. -/
def streamAssocs (l : List Section) : List AssocRep := l.flatMap fun x => match x with | .assocs i => i | _ => []

/-- A stream is whole (14 R389): a dummy applies it; a replacement in COMMISSIONING without commissioned settings commits
a full copy (18 R480). -/
def applyStream (s : State) (a : StreamAsm) : State :=
  let l := (a.parts.map (·.2)).flatten
  match s.sys.mode with
  | .dummy =>
    let s := l.foldl (applySection (streamAssocs l)) s
    let s := s.mapPair fun p => { p with
      missedRound := p.missedRound && !a.full
      roundSeen := if a.full then p.roundSeen else a.round }
    updateMatch s
  | .commissioning =>
    if a.full ∧ !commissioned s.cfg ∧ s.pair.partnerRole = 1 ∧ (streamItems l).any (fun i => match i with | .comm _ => true | _ => false) then
      requestStore s .nand 1080 (.restored (streamItems l)) none
    else s
  | _ => s

/-- A part of round data was missed (14 R371). -/
def missRound (s : State) : State :=
  if s.sys.mode = .dummy then updateMatch (s.mapPair fun p => { p with missedRound := true }) else s

/-- The stream that a part belongs to. -/
def streamOf (s : State) (f : RoundData) : StreamAsm :=
  (s.pair.streams.find? fun a => a.round == f.round && a.full == f.full).getD
    { round := f.round, full := f.full, count := f.count, since := s.now, parts := [] }

/-- Row ROUND_DATA_FRAME: a part of a stream, or the announcement of a planned swap (14 R385, R389). -/
def execRoundDataFrame (f : RoundData) (s : State) : Result :=
  .next (if !watches s then s
    else
      let s := s.mapPair fun p => { p with partnerClaim := f.claim }
      if f.swap then
        let able := s.sys.mode == .dummy && s.pow.mainsOk && decide (nextEpoch s ≤ epochFull)
        if able then s.mapPair fun p => { p with swapDummy := some f.round } else s
      else
        let a := streamOf s f
        let a := { a with parts := putSorted a.parts (·.1) (f.part, f.sections) }
        let rest := s.pair.streams.filter fun x => !(x.round == f.round && x.full == f.full)
        if a.parts.length = a.count then applyStream (s.mapPair fun p => { p with streams := rest }) a
        else if f.part + 1 = a.count then missRound (s.mapPair fun p => { p with streams := rest })
        else s.mapPair fun p => { p with streams := a :: rest })

/-- Row ROUND_DATA_TIMEOUT: a stream incomplete 8,000 ticks after its first part (14 R389). -/
def execRoundDataTimeout (s : State) : Result :=
  .next (
    let late (a : StreamAsm) : Bool := decide (a.since + 8000 ≤ s.now)
    if s.pair.streams.any late then missRound (s.mapPair fun p => { p with streams := p.streams.filter fun a => !late a }) else s)

/-- A dummy at a round boundary: the round that ended brought no stream (14 R371). -/
def roundMissed (s : State) (ended : Nat) : State :=
  if s.sys.mode = .dummy ∧ paired s ∧ s.pair.roundSeen ≠ ended then missRound s else s

/-! Status and configuration (14 R388, 02 R47) -/

/-- ROLE of the pair status; of a module of a pair in a state without a role it is free (14 Table 14.9). -/
def statusRole (s : State) : Nat :=
  if isDealer s then 3
  else if !paired s then 0
  else match s.sys.mode with
    | .declarer => 1
    | .dummy => 2
    | _ => Config.freeNat s.fresh % 256

/-- PSTATE: with both wires lost, a live P3 shows a broken link; a silent one a partner in BOOT or UPDATE while it holds
BID_HBO high, else none seen (14 Table 14.9, R366). -/
def partnerState (s : State) : Nat :=
  if !paired s then 0
  else if bothLost s then (if !s.pair.p3Silent then 3 else if s.pair.hbi then 4 else 2)
  else if !s.pair.wordsLost && s.pair.partnerRole == 0 then 4
  else 1

/-- LINKS of the pair status (14 Table 14.9). -/
def linkBits (s : State) : Nat :=
  let recent (t : Option Nat) : Bool := match t with | some t => decide (s.now ≤ t + 1) | none => false
  let state := if s.sys.mode = .declarer then recent s.pair.sentTick else if s.sys.mode = .dummy then recent s.pair.frameTick else false
  bit (!s.pair.hbLost) + 2 * bit (!s.pair.wordsLost) + 4 * bit (!s.pair.p3Silent) + 8 * bit state + 16 * bit (!s.pair.dlrLost)

/-- Command 0x0801, pair status (14 R388). -/
def execPairStatus (r : Req) (s : State) : Result :=
  .next (gmp s r { cmd := 0x0801, len := 0 } fun _ s =>
    (s.bump, okWith (le 1 (statusRole s) ++ le 1 (partnerState s) ++ le 1 (linkBits s) ++ le 1 s.cfg.dealer ++ le 4 s.pair.claim.toNat ++
      le 4 s.pair.partnerClaim.toNat ++ le 1 (bit s.pair.cfgMatch) ++ le 3 0 ++ le 8 s.pair.lastTakeover)))

/-- Command 0x0803, configure pair (02 R47). -/
def execConfigurePair (r : Req) (p : ConfigurePairP) (s : State) : Result :=
  .next (gmp s r { cmd := 0x0803, len := 4, fields := [(0x10, decide (p.dealer.toNat ≤ 2)), (0x11, p.rsv == 0)] } fun t s =>
    admitChange s t (.configurePair r p))

/-! Arbitration at the end of BOOT and of commissioning (14 R369) -/

/-- What arbitration decides: the state it ends in, none while it must wait or cannot win. -/
def arbitrate (s : State) : State × Option Mode :=
  let win (s : State) : State × Option Mode := match raiseClaim s with
    | some t => (t.mapPair fun p => { p with granted := false }, some .declarer)
    | none => (refuseTakeover (epochAlarm s) 2, none)
  if !paired s then (s, some .declarer)
  else if !s.pair.wordsLost then
    match s.pair.partnerRole with
    | 1 => (s, some .dummy)
    | 2 => win s
    | 0 | 3 => if s.pair.partnerClaim.toNat < s.pair.claim.toNat then win s else (s, none)
    | _ => (s, none)
  else if dealerAlive s then
    if s.pair.granted then win s else (s, none)
  else if s.pair.p3Silent then win s
  else (s.raise 0x0802 [], none)

end Sys2Proof.Machine
end

