-- ==== Sys2Proof/Machine/Update.lean ====
section
/-!
DEFINITION. Firmware update: commands of group 0x0B, the phases of an install, leaving service, confirmation, the window
and the relay to a peer seat (17).
-/

namespace Sys2Proof.Machine

open Sys2Proof

/-! The update session (06 R151, 17 R454, R455) -/

/-- The same source: channel, transport and session. -/
def sameSource (a b : OpTok) : Bool := a.ch == b.ch && a.transport == b.transport && a.session == b.session

/-- A member of a session. -/
def member (x : UpdSess) (t : OpTok) : Bool := x.members.any (sameSource t)

/-- The open session that a number names for a member. -/
def sessFor (s : State) (t : OpTok) (id : U32) : Option UpdSess := s.upd.sess.filter fun x => x.id == id && member x t

/-- BUSY by the update itself (17 R458). -/
def busyUpdate : Reply := { status := stBusy, detail := 0xFC }

/-- The image of an install is still to be verified, staged, copied or written (17 Table 17.2). -/
def installing (s : State) : Bool := decide (2 ≤ s.upd.phase) && decide (s.upd.phase ≤ 5)

/-- 0x0B01: opens the one session, or joins it with the same HASH (06 R151, 17 R455, R458). -/
def updOpen (src : OpTok) (hash : List Byte) (size : Nat) (s : State) : State × Reply :=
  if s.upd.phase = 6 then (s, busyUpdate)
  else match s.upd.sess with
    | some x =>
      if x.hash ≠ hash then (s, busyBy x.holder)
      else
        let x' : UpdSess := if member x src then x else { x with members := x.members ++ [src] }
        (s.mapUpd fun u => { u with sess := some x' }, okWith (le 4 x.id.toNat ++ le 4 x.received))
    | none =>
      let x : UpdSess := { id := s.upd.sessNext, hash := hash, size := size, data := [], received := 0, last := s.now, holder := src, members := [src] }
      (s.mapUpd fun u => { u with
        sess := some x
        sessNext := u.sessNext + 1
        phase := if u.phase = 0 then 1 else u.phase },
        okWith (le 4 x.id.toNat ++ le 4 0))

/-- SIZE within the limits of 17 R454. -/
def sizeOk (size : Nat) : Bool := decide (4097 ≤ size) && decide (size ≤ 25165824)

/-- Field checks of 0x0B02, with the offset of its payload (06 R151, 17 R454, R455). -/
def blockChecks (s : State) (src : OpTok) (id offset : U32) (n : Nat) : List (Nat × Bool) :=
  match sessFor s src id with
  | none => [(0x10, false)]
  | some x => [(0x14, decide (offset.toNat ≤ x.received) && decide (offset.toNat + n ≤ x.size))]

/-- 0x0B02: writes a block; RECEIVED is the unbroken run from 0 (17 R454). -/
def updBlock (offset : U32) (data : List Byte) (s : State) : State × Reply :=
  match s.upd.sess with
  | none => (s, badField 0x10)
  | some x =>
    let n := max x.received (offset.toNat + data.length)
    let x' : UpdSess := { x with data := (offset.toNat, data) :: x.data, received := n, last := s.now }
    (s.mapUpd fun u => { u with sess := some x' }, okWith (le 4 n))

/-- The open session ends for all its members and its blocks are discarded (17 R455). -/
def dropSession (s : State) : State := s.mapUpd fun u => { u with
  sess := none
  phase := if u.phase = 1 then 0 else u.phase }

/-- 0x0B04: of the open session, or of the session whose install is under way before it leaves service (17 R455, R461).
The status of that install's notice is not named and is free. -/
def updAbort (src : OpTok) (id : U32) (s : State) : State × Reply :=
  match sessFor s src id with
  | some _ => (setResult (dropSession s) 0x0003 0 0 (newVersion s) s.sys.fwVersion 0, {})
  | none =>
    if installing s ∧ (s.upd.inst.any fun x => x.id == id && member x src) then
      (endInstall s.bump 0x0003 { status := Config.freeNat s.fresh % 65536 }, {})
    else (s, badField 0x10)

/-- The SESSION of a 0x0B04 names something that can be ended. -/
def abortable (s : State) (src : OpTok) (id : U32) : Bool :=
  (sessFor s src id).isSome || (installing s && s.upd.inst.any fun x => x.id == id && member x src)

/-- FW_VERSION of an image, 0 of none. -/
def versionOf (x : Option ImgHdr) : Nat := (x.map fun h => h.version.toNat).getD 0

/-- Response data of 0x0B05 (06 Table 6.17, 17 R469). -/
def updStatusData (s : State) : List Byte :=
  let p := s.upd.phase
  let staged := if 3 ≤ p ∧ p ≤ 5 then versionOf s.upd.hdr else if p = 6 then versionOf s.upd.rollbackStore else 0
  le 1 p ++ le 1 0 ++ le 2 s.upd.result ++ le 4 (if p = 6 then s.upd.rec_.windowLeft else 0) ++ le 4 s.sys.fwVersion.toNat ++ le 4 staged

/-- The source that a request comes from. -/
def srcOf (s : State) (r : Req) : OpTok := tokOf s r 0

/-- Command 0x0B01, open update session (06 R151, 17 R454). -/
def execOpenUpdateSession (r : Req) (p : OpenUpdateSessionP) (s : State) : Result :=
  .next (gmp s r { cmd := 0x0B01, len := 56, fields := [(0x40, sizeOk p.size.toNat), (0x44, p.rsv == 0)] } fun t s =>
    updOpen t (padTo 48 p.hash) p.size.toNat s)

/-- Command 0x0B02, image block (17 R454). -/
def execImageBlock (r : Req) (p : ImageBlockP) (s : State) : Result :=
  .next (gmp s r { cmd := 0x0B02, len := 8 + p.data.length, fields := blockChecks s (srcOf s r) p.session p.offset p.data.length } fun _ s =>
    updBlock p.offset p.data s)

/-- WINDOW in minutes: 0 selects 30, else 5 to 240 (06 R151). -/
def windowOk (w : Nat) : Bool := w == 0 || (decide (5 ≤ w) && decide (w ≤ 240))

/-- An install begins: its session ends and its image is verified (17 R455, R457). -/
def beginInstall (t : OpTok) (x : UpdSess) (window : Nat) (loader : Bool) (s : State) : State :=
  (dropSession s).mapUpd fun u => { u with
    phase := 2
    inst := some x
    hdr := some (imgHdrOf x)
    staged := none
    tok := some t
    window := if window = 0 then 30 else window
    loaderInst := loader }

/-- Command 0x0B03, install: in the declarer of a pair a planned swap comes first (17 R457, R460). While another install
is under way it is refused with BUSY (log 61). -/
def execInstall (r : Req) (p : InstallP) (s : State) : Result :=
  .next (gmp s r { cmd := 0x0B03, len := 8, fields := [(0x10, (sessFor s (srcOf s r) p.session).isSome), (0x14, windowOk p.window.toNat), (0x16, p.rsv == 0)] } fun t s =>
    match sessFor s t p.session with
    | none => (s, badField 0x10)
    | some x =>
      if installing s then (s, busyUpdate)
      else
        let go (s : State) : State × Reply := (beginInstall t x p.window.toNat false s, { status := stAccepted })
        if s.sys.mode = .declarer ∧ paired s then
          match swapRefusal s with
          | some q => (s, q)
          | none => go (startSwap s t false true)
        else go s)

/-- Command 0x0B04, abort (17 R455, R461). -/
def execAbort (r : Req) (p : AbortP) (s : State) : Result :=
  .next (gmp s r { cmd := 0x0B04, len := 4, fields := [(0x10, abortable s (srcOf s r) p.session)] } fun t s => updAbort t p.session s)

/-- Command 0x0B05, update status (17 R469). -/
def execUpdateStatus (r : Req) (s : State) : Result :=
  .next (gmp s r { cmd := 0x0B05, len := 0 } fun _ s => (s, okWith (updStatusData s)))

/-- Counts left of the loader replacement counter (16 Table 16.3), those already accepted counted as spent. -/
def loaderLeft (s : State) : Nat :=
  4 - popCount s.sec.fuses.loaderRepl - queuedChanges s (fun c => c == .loader) - bit (s.upd.loaderInst && installing s)

/-- Command 0x0B06, replace the resident loader (17 R472). -/
def execReplaceLoader (r : Req) (p : ReplaceLoaderP) (s : State) : Result :=
  .next (gmp s r { cmd := 0x0B06, len := 4, fields := [(0x10, (sessFor s (srcOf s r) p.session).isSome)], limit := if loaderLeft s = 0 then some (3, 0) else none } fun t s =>
    match sessFor s t p.session with
    | none => (s, badField 0x10)
    | some x => if installing s then (s, busyUpdate) else (beginInstall t x 0 true s, { status := stAccepted }))

/-- The peer seat with this address (10 R288). -/
def seatOf (s : State) (addr : List Byte) : Option U32 :=
  match s.cfg.peers with
  | none => none
  | some c =>
    if c.seg1 ≠ 0 ∧ c.addr1 = addr then some c.seg1
    else if c.seg2 ≠ 0 ∧ c.addr2 = addr then some c.seg2
    else none

/-- Command 0x0B07, relay to a peer seat (17 R456). While another relay is under way it is refused with BUSY naming that
relay's holder (log 61). -/
def execRelayToPeer (r : Req) (p : RelayToPeerP) (s : State) : Result :=
  .next (gmp s r { cmd := 0x0B07, len := 20, fields := [(0x10, (sessFor s (srcOf s r) p.session).any fun x => x.received == x.size), (0x14, (seatOf s p.addr).isSome)] } fun t s =>
    match sessFor s t p.session, seatOf s p.addr with
    | some x, some seg =>
      match s.upd.relay with
      | some y => (s, busyBy y.tok)
      | none => (relayBegin (s.mapUpd fun u => { u with relay := some { tok := t, seg := seg, img := x, sess := 0 } }) seg, { status := stAccepted })
    | _, _ => (s, badField 0x10))

/-- Row UPDATE_SESSION_DROP: no block for 600 s (06 R151). -/
def execUpdateSessionDrop (s : State) : Result :=
  .next (match s.upd.sess with
    | none => s
    | some x => if x.last + secs 600 ≤ s.now then setResult (dropSession s) 0x0003 0 0 (newVersion s) s.sys.fwVersion 0 else s)

/-! The relay (17 R456) -/

/-- The next block of a relay from RECEIVED `n`, or its end. -/
def relayNext (s : State) (p : PeerSess) (x : RelayOp) (n : Nat) : State :=
  if x.img.size ≤ n then finishOp (s.mapUpd fun u => { u with relay := none }) x.tok {}
  else sendPeer s.bump p 5 (reqMsg (Config.freeNat s.fresh) 0x0B02 s.sys.compatRunning.toNat (le 4 x.sess.toNat ++ le 4 n ++ fileBytes x.img n (min 4068 (x.img.size - n))))

/-- A relayed response: the peer's refusal ends the relay, its RECEIVED carries it on. -/
def relayResponse (s : State) (p : PeerSess) (b : List Byte) : State :=
  match s.upd.relay with
  | none => s
  | some x =>
    if x.seg ≠ p.seg then s
    else if stDuplicate < num b 16 2 then
      finishOp (s.mapUpd fun u => { u with relay := none }) x.tok { status := num b 16 2, info := num b 18 2, detail := num b 20 4 }
    else if num b 4 2 = 0x0B01 then
      let x' : RelayOp := { x with sess := fld b 24 32 }
      relayNext (s.mapUpd fun u => { u with relay := some x' }) p x' (num b 28 4)
    else if num b 4 2 = 0x0B02 then relayNext s p x (num b 24 4)
    else s

/-- A relayed request runs as from a source of transport code 5, channel 0xFE (17 R456). -/
def relayRun (src : OpTok) (cmd len : Nat) (q : List Byte) (s : State) : State × Reply :=
  let check (n : Nat) (f : List (Nat × Bool)) (go : State × Reply) : State × Reply :=
    if len ≠ n then (s, { status := stBadLength, detail := len })
    else match firstBad f with
      | some o => (s, badField o)
      | none => go
  match cmd with
  | 0x0B01 => check 56 [(0x40, sizeOk (num q 48 4)), (0x44, num q 52 4 == 0)] (updOpen src (cut q 0 48) (num q 48 4) s)
  | 0x0B02 => check (max 8 len) (blockChecks s src (fld q 0 32) (fld q 4 32) (len - 8)) (updBlock (fld q 4 32) (cut q 8 (len - 8)) s)
  | 0x0B04 => check 4 [(0x10, abortable s src (fld q 0 32))] (updAbort src (fld q 0 32) s)
  | 0x0B05 => check 0 [] (s, okWith (updStatusData s))
  | _ => (s, { status := stUnknown, info := s.sys.compatRunning.toNat })

/-- A relayed request is checked, run and answered (05 R111, 17 R456). -/
def relayRequest (s : State) (p : PeerSess) (b : List Byte) : State :=
  let len := num b 6 2
  let r : Req := { ch := 0, txn := fld b 0 32, len := fld b 6 16, chan := 0, flags := fld b 9 8, compat := fld b 10 16, rsv := fld b 12 32 }
  let src : OpTok := { ch := 0xFE, transport := 5, session := BitVec.ofNat 16 p.sid.toNat, txn := r.txn, cmd := fld b 4 16, quiet := true }
  let (s, q) :=
    if 4076 < len ∨ b.length ≠ 20 + len then (s, ({ status := stBadLength, info := 1, detail := len } : Reply))
    else if crc32 (cut b 0 (16 + len)) ≠ fld b (16 + len) 32 then (s, { status := stBadCrc, detail := (crc32 (cut b 0 (16 + len))).toNat })
    else match headerBad s r with
      | some o => (s, badField o)
      | none =>
        if ready s then relayRun src (num b 4 2) len (cut b 16 len) s
        else (s, { status := stState, info := modeCode s.sys.mode })
  sendPeer s p 5 (msgBytes 0xFE (rspMsg s r (num b 4 2) q))

/-- Row RELAY: a relayed request or response (10 R289, 17 R456). -/
def execRelay (seg : U32) (msg : List Byte) (s : State) : Result :=
  .next (match (s.mesh.peers ++ s.mesh.inbound).find? (fun p => p.up && p.seg == seg) with
    | none => s
    | some p =>
      let s := peerHeard s p.sid
      if (byteAt msg 9).getLsbD 0 then relayResponse s p msg else relayRequest s p msg)

/-! Installing (17 R457 to R461) -/

/-- Check 4 against the fuses and the time in force (17 R453, R458). -/
def chainOk (s : State) (h : ImgHdr) : Bool := rootGood s h.root && notExpired s h.expiry

/-- The checks that read the fuses and the level: 6 and 7 (17 Table 17.3). -/
def levelChecks (s : State) (h : ImgHdr) : List (Nat × Nat × Bool) :=
  [(6, popCount s.sec.fuses.rollback, decide (popCount s.sec.fuses.rollback ≤ h.rollback)),
   (7, s.sys.compatRunning.toNat, decide (h.compatLo ≤ s.sys.compatRunning.toNat) && decide (s.sys.compatRunning.toNat ≤ h.compatHi))]

/-- The checks of 17 Table 17.3 in order: INFO, DETAIL, holds. -/
def imageChecks (s : State) (x : UpdSess) (h : ImgHdr) : List (Nat × Nat × Bool) :=
  let kind := if s.upd.loaderInst then 2 else 1
  let bad := badHeader x kind
  let part := match s.sys.variant with | .e30 => 0 | .a30 => 1
  let slot := (newestSlot s).map fun i => (slotAt s i).schema
  let schema := slot.getD s.sys.schema.toNat
  [(1, x.received, decide (x.size ≤ x.received)),
   (2, 0, Config.sha384 (fileBytes x 0 x.size) == x.hash),
   (3, bad.getD 0, bad.isNone),
   (4, 0, decide (num (headerOf x) 0x1C 2 ≤ 3000) && (Config.imageSig (headerOf x) kind).1 && chainOk s h),
   (5, 0, h.variant.testBit part)] ++ levelChecks s h ++
  (if s.upd.loaderInst then [(9, (loaderVersion s).toNat, decide ((loaderVersion s).toNat < h.version.toNat))]
   else [(8, schema, decide (h.schemaFrom ≤ schema) && decide (schema ≤ h.schema))])

/-- The first check that fails: INFO and DETAIL. -/
def firstFailed (l : List (Nat × Nat × Bool)) : Option (Nat × Nat) := (l.find? fun c => !c.2.2).map fun c => (c.1, c.2.1)

/-- VERIFY_FAILED with the check's figures (17 R457). -/
def verifyFailed (x : Nat × Nat) : Reply := { status := stVerify, info := x.1, detail := x.2 }

/-- Asks for the NAND commits of a file of `n` bytes, one for each 4 MiB (17 Table 17.2). -/
def commitFile (s : State) (n : Nat) (p : StorePurpose) : State :=
  (List.range (max 1 (ceilDiv n 4194304))).foldl (fun s _ => requestStore s .nand (anteMj .nand) p s.upd.tok) s

/-- No commit of a file is still to be made. -/
def filesDone (s : State) : Bool := s.pow.stores.all fun x => x.purpose != .staging && x.purpose != .copying

/-- Row UPDATE_PHASE_COMPLETE: verification with its checks, staging with its read-back, copying (17 R457, Table 17.2).
A declarer's planned swap comes before anything is staged (R460). -/
def execUpdatePhaseComplete (readOk : Bool) (s : State) : Result :=
  .next (match s.upd.inst, s.upd.hdr with
    | some x, some h =>
      if s.upd.phase = 2 then
        if s.pair.swapInstall then s
        else match firstFailed (imageChecks s x h) with
          | some f => endInstall s 0x0002 (verifyFailed f)
          | none => commitFile (s.mapUpd fun u => { u with phase := 3 }) x.size .staging
      else if s.upd.phase = 3 ∧ filesDone s then
        if !readOk then endInstall s 0x0002 (verifyFailed (10, 0))
        else if s.upd.loaderInst then
          if s.sec.fuseQueue.any (fun q => q.change == .loader) || s.pow.stores.any (fun q => q.purpose == .fuse .loader) then s
          else
            let s := s.mapUpd fun u => { u with staged := some h }
            s.mapSec fun c => { c with fuseQueue := c.fuseQueue ++ [{ tok := s.upd.tok, change := .loader, since := s.now }] }
        else commitFile (s.mapUpd fun u => { u with phase := 4, staged := some h }) ((s.upd.running.map (·.size)).getD 0) .copying
      else if s.upd.phase = 4 ∧ filesDone s then s.mapUpd fun u => { u with
        phase := 5
        rollbackStore := u.running
        leaving := true }
      else s
    | _, _ => s)

/-- The update record armed at the passed ante (17 Table 17.4, Table 17.5). -/
def armRecord (s : State) (h : ImgHdr) : UpdRec where
  state := 1
  reason := 0
  oldSlot := (newestSlot s).getD 0
  newSlot := 0xFF
  windowLeft := 60 * s.upd.window
  newVersion := h.version
  oldVersion := s.sys.fwVersion
  newHash := h.hash
  oldHash := (s.upd.rollbackStore.map (·.hash)).getD []
  cfgChanges := 0
  seq := s.upd.rec_.seq + 1

/-- Stages that are SILENT now (17 R467). -/
def silentStages (s : State) : List (Nat × Nat) := (s.outs.stages.filter (·.silent)).map fun x => (x.link, x.addr)

/-- A lone declarer goes through FAIL_LIT in this tick; then UPDATE from the next tick boundary (17 R459). -/
def leaveFor (s : State) : State :=
  let s := if s.sys.mode = .declarer then enterMode s .failLit else s
  goMode s .update

/-- Waits for the image-write ante, or passes it (17 R459, 03 R72). -/
def imageAnte (s : State) (go : State → State) : State :=
  let asked := s.pow.stores.any fun x => x.kind == .image
  if antePasses s (anteMj .image) && !s.pow.warning then
    go (s.mapPow fun w => { w with stores := w.stores.filter fun x => x.kind != .image })
  else if asked then s
  else s.mapPow fun w => { w with stores := w.stores ++ [{ kind := .image, mj := anteMj .image, purpose := .imageWrite, tok := s.upd.tok, since := s.now, running := false }] }

/-- A state from which an install or a fall-back leaves service (17 R459, R467). -/
def leavable (s : State) : Bool :=
  match s.sys.mode with
  | .dummy | .failLit => true
  | .quarantine => !s.upd.fallBack
  | .declarer => !paired s || s.upd.fallBack
  | _ => false

/-- Row LEAVE_SERVICE: at a round boundary, with copying done and no swap pending; checks 4, 6 and 7 are made again and
the image-write ante is taken (17 R458, R459); a fall-back takes the same path without them (R467). -/
def execLeaveService (vhuMv : Nat) (s : State) : Result :=
  .next (
    let s' := s.mapPow fun w => { w with stackMv := vhuMv }
    if !s.upd.leaving || s.pair.swapInstall || !leavable s || s.sys.nextMode.isSome || tickInRound s ≠ 0 then s
    else if s.upd.fallBack then imageAnte s' leaveFor
    else match s.upd.hdr with
      | none => s
      | some h =>
        match firstFailed ((4, 0, chainOk s' h) :: levelChecks s' h) with
        | some f => endInstall s' 0x0002 (verifyFailed f)
        | none => imageAnte s' fun s => leaveFor ((s.mapUpd fun u => { u with silentAt := silentStages s }).writeRec fun _ => armRecord s h))

/-! Confirmation and fall-back (17 R467) -/

/-- Row UPDATE_CONFIRM: 240 qualifying rounds in a row; RESULT, the event, and one fuse operation for each step of the
rollback count (17 R467, R432). -/
def execUpdateConfirm (s : State) : Result :=
  .next (
    if s.upd.phase ≠ 6 ∨ s.upd.rec_.state ≠ 4 ∨ s.upd.good < 240 then s
    else
      let index := (s.upd.running.map (·.rollback)).getD 0
      let rise := index - popCount s.sec.fuses.rollback
      let s := setResult s 0x0001 0 0 s.upd.rec_.newVersion s.upd.rec_.oldVersion s.upd.rec_.cfgChanges
      let s := (s.mapUpd fun u => { u with
        phase := if u.sess.isSome then 1 else 0
        good := 0
        staged := none
        digestDue := paired s }).writeRec fun r => { r with
          state := 0
          reason := 0
          windowLeft := 0 }
      s.mapSec fun c => { c with fuseQueue := c.fuseQueue ++ List.replicate rise { tok := none, change := .rollback, since := s.now } })

/-- A fall-back is called for: STATE 5 with its REASON (17 Table 17.5). -/
def callFallBack (s : State) (reason : Nat) : State :=
  (s.mapUpd fun u => { u with fallBack := true }).writeRec fun r => { r with
    state := 5
    reason := reason }

/-- Row WINDOW_EXPIRY: WINDOW_LEFT is 0 before confirmation; the fall-back starts from the state the module is in
(17 R467). -/
def execWindowExpiry (s : State) : Result :=
  .next (
    if s.upd.rec_.state ≠ 4 ∨ s.upd.rec_.windowLeft ≠ 0 then s
    else
      let s := callFallBack s 0x0005
      match s.sys.mode with
      | .declarer =>
        let s := s.mapUpd fun u => { u with leaving := true }
        if paired s ∧ (swapRefusal s).isNone then startSwap s autoHolder false true else s
      | .dummy | .failLit => s.mapUpd fun u => { u with leaving := true }
      | .quarantine | .commissioning | .boot => goReset s 0x07
      | _ => s)

end Sys2Proof.Machine
end

