-- ==== Sys2Proof/Machine/Security.lean ====
section
/-!
DEFINITION. Security (16): fuse operations and fuse-counted changes, lifecycle, roots, ownership, keys and their
replacement, debug, identity, and the level of compatibility (18 R476).
-/

namespace Sys2Proof.Machine

open Sys2Proof

/-! Key slots and hands (16 R436, R441) -/

/-- Every volatile key slot is zeroised (16 R448, R451). -/
def zeroise (s : State) : State := s.mapSec fun x => { x with slots := List.replicate 32 Slot.reset, reload := [] }

/-- The sealed hand of an index. -/
def handAt (s : State) (i : Nat) : Option Hand := s.sec.hands.getD i none

/-- The hardware unique key can be read: not while debug is open and not in DECOMMISSIONED (16 R441). -/
def hukReadable (s : State) : Bool := s.sec.debugOpen == 0 && lifecycle s != 3

/-- The key of a hand for an operation of an engine mask bit and a usage bit: a boot hand from its slot, a demand hand
unwrapped for the operation; not delivered once expired (16 R436, R439, R441). -/
def handKey (s : State) (i maskBit usageBit : Nat) : Option Hand :=
  (handAt s i).filter fun h =>
    h.header == i && h.mask.testBit maskBit && h.usage.testBit usageBit && handLive s h &&
    (if i < 24 then (s.sec.slots.getD i Slot.reset).hand == some i else hukReadable s)

/-- The slot of a boot hand is loaded (16 R436, R444). -/
def loadSlot (s : State) (i : Nat) (h : Hand) : State :=
  if i < 24 then s.mapSec fun x => { x with slots := x.slots.set i { occupied := true, hand := some i, mask := h.mask } } else s

/-- A sealed hand is in force: written, and the slot of a boot hand loaded (16 R442). -/
def putHand (s : State) (i : Nat) (h : Hand) : State :=
  loadSlot (s.mapSec fun x => { x with hands := x.hands.set i (some h) }) i h

/-- A committed hand is in force: the directory points at it, and the slot of a boot hand is reloaded at the next tick boundary
(16 R444). -/
def commitHand (s : State) (i : Nat) (h : Hand) : State :=
  s.mapSec fun x => { x with
    hands := x.hands.set i (some h)
    reload := if i < 24 ∧ !x.reload.contains i then i :: x.reload else x.reload }

/-- The slots that a tick boundary reloads (16 R444). -/
def reloadSlots (s : State) : State :=
  s.sec.reload.foldl (fun s i => match handAt s i with
    | some h => if hukReadable s then loadSlot s i h else s
    | none => s) (s.mapSec fun x => { x with reload := [] })

/-- Step 6 of BOOT: unless a tamper is latched the boot hands are unwrapped; a hand whose header names another index is
refused and recorded (16 R436, R441). -/
def loadHands (s : State) : State :=
  if s.sec.tamper.latched ≠ 0 ∨ !hukReadable s then s
  else (List.range 24).foldl (fun s i =>
    match handAt s i with
    | none => s
    | some h => if h.header = i then loadSlot s i h else s.event 0x0A05 (le 2 i ++ le 2 0 ++ le 4 h.header)) s

/-- Key expiry at a round boundary; not while LOCK is 0 (16 R439). -/
def keyExpiry (s : State) : State :=
  if s.eth.servo.lock = 0 then s
  else (List.range 256).foldl (fun s i =>
    match handAt s i with
    | none => s
    | some h =>
      let past := h.expiry != 0 && !notExpired s h.expiry
      if past = h.expired then s
      else
        let h' : Hand := { h with expired := past }
        let s := s.mapSec fun x => { x with hands := x.hands.set i (some h') }
        if past then s.event 0x0A02 (le 2 i ++ le 2 0) else s) s

/-! Fuse-counted changes (16 R423, R424, R434, R435) -/

/-- The change programs a fuse: two counters are free in PROVISIONING (16 Table 16.3). -/
def needsFuse (s : State) : FuseChange → Bool
  | .metroUnseal => lifecycle s == 2
  | .ownerXfer _ _ => lifecycle s == 2
  | _ => true

/-- The ante of a change, mJ: the fuse operation, and for a loader the image write too (16 R434, 03 Table 3.4). -/
def fuseMj : FuseChange → Nat
  | .loader => anteMj .fuse + anteMj .image
  | _ => anteMj .fuse

/-- KIND of the commit record of a change (16 Table 16.6). -/
def commitKind : FuseChange → Nat
  | .lifecycle _ => 3
  | .revoke _ => 4
  | .rollback => 5
  | .key _ _ => 1
  | _ => 2

/-- Step 2 of a change: the bit is programmed in both copies and verified (16 R423, R425, R434). -/
def burnFor (f : Fuses) : FuseChange → Fuses
  | .metroUnseal => { f with metroSeal := burn f.metroSeal }
  | .ownerXfer _ _ => { f with ownerXfer := burn f.ownerXfer }
  | .loader => { f with loaderRepl := burn f.loaderRepl }
  | .compat _ => { f with compatRaise := burn f.compatRaise }
  | .lifecycle 2 => { f with debugLock := true, lifecycle := f.lifecycle ||| 2 }
  | .lifecycle 3 => { f with lifecycle := f.lifecycle ||| 4 }
  | .lifecycle _ => { f with lifecycle := f.lifecycle ||| 1 }
  | .revoke n => { f with rootRevoke := f.rootRevoke ||| BitVec.ofNat 4 (2 ^ n) }
  | .rollback => { f with rollback := burn f.rollback }
  | .key _ _ => f

/-- The new owner record, written over the older copy with a count one higher (16 R427). -/
def putOwner (s : State) (i ca : List Byte) : State :=
  let o : Owner := { count := ((ownerRec s).map (·.count)).getD 0 + 1, crcOk := true, ownerId := i, caHash := ca }
  s.mapSec fun x => { x with owners := o :: (ownerRec s).toList }

/-- Every sealed hand erased (16 R425). -/
def eraseHands (s : State) : State := s.mapSec fun x => { x with hands := List.replicate 256 none }

/-- DECOMMISSIONED: every sealed hand erased, the scorecard cleared and its numbering restarted (16 R425, 15 R418). -/
def wipe (s : State) : State :=
  (eraseHands s).mapRcd fun x => { x with score := [], scoreNext := 1, scoreRun := 0 }

/-- A raise takes force: the level, and a new settings slot at it (18 R476). -/
def forceCompat (s : State) (level : Nat) : State :=
  let s := s.mapSys fun y => { y with compatRunning := BitVec.ofNat 16 level }
  (newSlot s s.sys.schema.toNat level s.sys.fwVersion).1

/-- Step 4 of a change: it is applied, writing whole values (16 R434). A raise of the level waits for its round boundary
(18 R476). -/
def applyChange (s : State) : FuseChange → State
  | .metroUnseal => metrologyEvent (s.mapMet fun m => { m with sealOpen := true, sealAt := s.now }) 0x0205 0 0 0 0
  | .ownerXfer i ca => (putOwner s i ca).mapSec fun x => { x with endOwner := (ownerRec s).isSome }
  | .loader =>
    let c : LoaderCopy := { valid := Config.freeBool s.fresh, version := (s.upd.staged.map (·.version)).getD 0, root := (s.upd.staged.map (·.root)).getD 0 }
    s.bump.mapUpd fun u => { u with
      copies := u.copies.set (1 - u.booted) c
      otherDue := true }
  | .compat level => s.mapSec fun x => { x with compatNext := x.compatNext.map fun c => if c.level = level then { c with fused := true } else c }
  | .lifecycle 3 => wipe s
  | .lifecycle _ => s
  | .revoke _ => s
  | .rollback => s.event 0x0A03 (le 1 (popCount s.sec.fuses.rollback) ++ le 3 0)
  | .key i k => s.mapSec fun x => { x with hands := x.hands.set i (some k) }

/-- What comes before the fuse of DECOMMISSIONED: the key slots zeroised and the event ring flushed (16 R425). -/
def beforeBurn (s : State) : FuseChange → State
  | .lifecycle 3 => (zeroise s).mapRcd fun x => { x with flushTrig := some s.now }
  | _ => s

/-- The end of a change toward its command. A replaced loader ends its install: OK once the copy is written, or
VERIFY_FAILED by check 10 (17 R472). A raise is answered at its round boundary. -/
def changeDone (s : State) (t : Option OpTok) : FuseChange → State
  | .loader =>
    if (s.upd.copies.getD (1 - s.upd.booted) LoaderCopy.reset).valid then
      dropInstall (finishOpt (setResult s 0x0009 0 0 (newVersion s) s.sys.fwVersion 0) t {})
    else endInstall s 0x0002 (verifyFailed (10, 0))
  | .compat _ => s
  | _ => finishOpt s t {}

/-- Index of the bit that a change programs, 0xFFFF for none (16 Table 16.6). -/
def bitIndex (f : Fuses) : FuseChange → Nat
  | .metroUnseal => nextBit f.metroSeal
  | .ownerXfer _ _ => nextBit f.ownerXfer
  | .loader => nextBit f.loaderRepl
  | .compat _ => nextBit f.compatRaise
  | .lifecycle t => t - 1
  | .revoke n => n
  | .rollback => nextBit f.rollback
  | .key _ _ => 0xFFFF

/-- Bit `i` of the field of a change reads 1 (16 R435). -/
def bitReads (f : Fuses) (i : Nat) : FuseChange → Bool
  | .metroUnseal => f.metroSeal.getLsbD i
  | .ownerXfer _ _ => f.ownerXfer.getLsbD i
  | .loader => f.loaderRepl.getLsbD i
  | .compat _ => f.compatRaise.getLsbD i
  | .lifecycle _ => f.lifecycle.getLsbD i
  | .revoke _ => f.rootRevoke.getLsbD i
  | .rollback => f.rollback.getLsbD i
  | .key _ _ => false

/-- TARGET of a commit record: counter code or sealed hand reference (16 Table 16.6). -/
def commitTarget : FuseChange → U32
  | .metroUnseal => 1
  | .ownerXfer _ _ => 2
  | .loader => 3
  | .compat _ => 4
  | .key i _ => mkRef 0x09 i
  | _ => 0

/-- What a cut in the change that runs now would find (16 R435, log 106). -/
def cutOf (s : State) (r : CommitRec) : FuseCut where
  since := s.now
  rec_ := r
  old := s.sec.commits
  fuses := s.sec.fuses
  owners := s.sec.owners
  hands := s.sec.hands
  score := s.rcd.score
  scoreNext := s.rcd.scoreNext
  copies := s.upd.copies.map fun c => (c.valid, c.version, c.root)

/-- The five steps of a fuse-counted change whose ante has passed (16 R434). The record of a raise of the level stays
until the raise is in force. -/
def fiveSteps (s : State) (t : Option OpTok) (c : FuseChange) : State :=
  let s := beforeBurn s c
  let r : CommitRec := { kind := commitKind c, opSeq := s.sec.opSeq, target := commitTarget c, bit := bitIndex s.sec.fuses c, commit := true, change := c }
  let cut := cutOf s r
  let s := s.mapSec fun x => { x with
    opSeq := x.opSeq + 1
    fuses := if needsFuse s c then burnFor x.fuses c else x.fuses
    commits := match c with | .compat _ => x.commits ++ [r] | _ => x.commits
    fuseCut := if needsFuse s c then some cut else x.fuseCut }
  changeDone (applyChange s c) t c

/-- Takes the ante of a change and runs it, or defers it (16 R434, 03 R72). -/
def runFuse (s : State) (x : FuseOp) : State :=
  if !needsFuse s x.change then fiveSteps s x.tok x.change
  else
    let s := requestStore s .fuse (fuseMj x.change) (.fuse x.change) x.tok
    if storeRuns s then fiveSteps (s.mapPow fun w => { w with stores := w.stores.dropLast }) x.tok x.change
    else s

/-- Row FUSE_COUNTED_CHANGE: the fuse operations accepted before the present tick take their antes in order (16 R424,
R434). -/
def execFuseCountedChange (vhuMv : Nat) (s : State) : Result :=
  .next (
    let q := s.sec.fuseQueue.filter fun x => decide (x.since < s.now)
    if q.isEmpty then s
    else
      let s := s.mapPow fun w => { w with stackMv := vhuMv }
      q.foldl runFuse (s.mapSec fun x => { x with fuseQueue := x.fuseQueue.filter fun x => decide (s.now ≤ x.since) }))

/-- The loss of supply within the 25 ms of a fuse-counted change (03 Table 3.4): which of its steps was done is free. Nothing but
the record may stand, the bit too, COMMIT too, or all of it (16 R434, R435). Before LIFECYCLE bit 1 DEBUG_LOCK may stand alone
(16 R425). -/
def cutFuse (s : State) : State :=
  match s.sec.fuseCut with
  | none => s
  | some x =>
    let n := Config.freeNat s.fresh % 4
    if x.since + 200 < s.now || n == 0 then s.bump
    else
      let bare : Fuses := match x.rec_.change with
        | .lifecycle 2 => { x.fuses with debugLock := x.fuses.debugLock || Config.freeBool s.fresh }
        | _ => x.fuses
      let s := s.bump.mapSec fun c => { c with
        commits := x.old ++ [{ x.rec_ with commit := n == 1 }]
        fuses := if n = 3 then bare else c.fuses }
      match x.rec_.change with
      | .ownerXfer _ _ => s.mapSec fun c => { c with owners := x.owners }
      | .loader => s.mapUpd fun u => { u with
        copies := x.copies.map fun y => { valid := y.1, version := y.2.1, root := y.2.2 } }
      | .lifecycle 3 => (s.mapSec fun c => { c with hands := x.hands }).mapRcd fun c => { c with score := x.score, scoreNext := x.scoreNext }
      | _ => s

/-- An uncleared record at BOOT is completed or discarded, with its event (16 R435, R446). An unseal completed leaves the
seal closed. -/
def resolveOne (s : State) (r : CommitRec) : State :=
  let kept := r.commit || bitReads s.sec.fuses r.bit r.change
  let s :=
    if !kept then s
    else
      let s := if bitReads s.sec.fuses r.bit r.change then s else s.mapSec fun x => { x with fuses := burnFor x.fuses r.change }
      match r.change with
      | .compat level => forceCompat s level
      | .metroUnseal => s
      | c => applyChange s c
  s.event 0x0A04 (le 1 r.kind ++ le 1 (if kept then 1 else 2) ++ le 2 0 ++ le 4 r.opSeq.toNat)

/-- Before step 8 of BOOT every uncleared record is resolved; a DECOMMISSIONED module with hands erases them (16 R425,
R435, R446). -/
def resolveCommits (s : State) : State :=
  let l := s.sec.commits
  let s := l.foldl resolveOne (s.mapSec fun x => { x with commits := [] })
  if lifecycle s = 3 ∧ s.sec.hands.any (·.isSome) then eraseHands s else s

/-! Tokens (16 R428, R429) -/

/-- A token is good for one of the types: layout, SERIAL, NOT_AFTER, signature and chain. -/
def tokenGood (s : State) (b : List Byte) (types : List Nat) : Bool :=
  let v := Config.token b (ownerBytes s)
  decide (b.length = 0x58 + num b 0x54 2 + 96) && types.contains (num b 0 1) && num b 4 8 == s.sys.serial.toNat &&
    decide (utcNow s ≤ Int.ofNat (num b 0x0C 8)) && v.1 && rootGood s v.2.1 && notExpired s v.2.2 && (num b 0 1 != 3 || (ownerRec s).isSome)

/-- Field checks of a token at payload offset `o`: reserved bytes, and ARG zero for TTYPE 1 (16 Table 16.2, 00 R9). -/
def tokenFields (o : Nat) (b : List Byte) : List (Nat × Bool) :=
  [(o + 1, zeroAt b 1 3), (o + 0x14, num b 0 1 != 1 || zeroAt b 0x14 64), (o + 0x56, zeroAt b 0x56 2)]

/-- The refusal of a token: PRIVILEGE_REFUSED (16 R428). -/
def tokenRefused (s : State) (r : Req) (ok : Bool) : Option Reply :=
  if ok then none else some { status := stPrivilege, info := 3, detail := (chan s r.ch.toNat).priv }

/-! Commands -/

/-- A fuse operation is accepted: it takes its ante at the first tick boundary after the response (06 R136, 16 R434). -/
def acceptFuse (s : State) (t : OpTok) (c : FuseChange) : State × Reply :=
  (s.mapSec fun x => { x with fuseQueue := x.fuseQueue ++ [{ tok := some t, change := c, since := s.now }] }, { status := stAccepted })

/-- What the advance to DEPLOYED needs (16 R425). -/
def deployReady (s : State) : Bool :=
  (handAt s 0).isSome && (ownerRec s).isSome && (List.range 4).any (rootGood s)

/-- Where 0x0106 is legal (06 R141, R142). -/
def advanceLegal (s : State) (target transport : Nat) : Bool :=
  if lifecycle s = 0 then target == 1 && transport == 4
  else lifecycle s != 3 && (s.sys.mode == .quarantine || s.sys.mode == .commissioning || s.sys.mode == .declarer)

/-- Command 0x0106, lifecycle advance (06 R142, 16 R425). -/
def execLifecycleAdvance (r : Req) (p : LifecycleAdvanceP) (s : State) : Result :=
  let target := p.target.toNat
  let need := if target = 2 then 4 else if target = 3 then 3 else 0
  let ok := target == lifecycle s + 1 && (target != 2 || deployReady s)
  let fields := [(0x10, ok), (0x11, p.rsv == 0), (0x12, target == 3 || p.tlen == 0)] ++ (if target = 3 then tokenFields 0x14 p.token else [])
  .next (gmp s r { cmd := 0x0106, len := 4 + p.tlen.toNat, fields := fields, priv := some need, legal := some (advanceLegal s target (chan s r.ch.toNat).owner), refuse := tokenRefused s r (target != 3 || tokenGood s p.token [1]) } fun t s =>
    acceptFuse s t (.lifecycle target))

/-- Counts left for raises of the level, those accepted counted as spent (16 Table 16.3). -/
def compatLeft (s : State) : Nat := 6 - popCount s.sec.fuses.compatRaise - queuedChanges s (fun c => match c with | .compat _ => true | _ => false)

/-- The highest level accepted so far. -/
def levelSoFar (s : State) : Nat := s.sec.compatNext.foldl (fun m c => max m c.level) s.sys.compatRunning.toNat

/-- Command 0x0107, raise compatibility level (18 R476, 17 R458). -/
def execRaiseCompatibilityLevel (r : Req) (p : RaiseCompatibilityLevelP) (s : State) : Result :=
  let fields := [(0x10, decide (levelSoFar s < p.level.toNat) && decide (p.level.toNat ≤ s.sys.imageCompatHighest.toNat)), (0x12, p.rsv == 0)]
  .next (gmp s r { cmd := 0x0107, len := 4, fields := fields, limit := if compatLeft s = 0 then some (4, 0) else none } fun t s =>
    if installing s ∨ s.upd.phase = 6 then (s, busyUpdate)
    else
      let c : CompatRaise := { level := p.level.toNat, round := changeRound s, tok := t, fused := false }
      acceptFuse (s.mapSec fun x => { x with compatNext := x.compatNext ++ [c] }) t (.compat p.level.toNat))

/-- ROOTS, DEBUG and REMAIN of 06 Table 6.16. -/
def rootsByte (s : State) : Nat :=
  ((List.range 4).map fun n => if (s.sec.fuses.rootHash.getD n []).isEmpty then 0 else 2 ^ n).sum + 16 * s.sec.fuses.rootRevoke.toNat

/-- DEBUG of 0x0A01 (16 R451). -/
def debugByte (s : State) : Nat :=
  if s.sec.debugOpen = 2 then 2 else if lifecycle s = 1 ∧ !s.sec.fuses.debugLock then 1 else 0

/-- REMAIN of 0x0A01, in the order of 16 Table 16.3 (16 R433). -/
def remainBytes (s : State) : List Byte :=
  let f := s.sec.fuses
  le 1 (12 - popCount f.metroSeal) ++ le 1 (8 - popCount f.ownerXfer) ++ le 1 (4 - popCount f.loaderRepl) ++ le 1 (6 - popCount f.compatRaise)

/-- Occupied key slots as a mask. -/
def slotMask (s : State) : Nat := ((List.range 32).map fun i => if (s.sec.slots.getD i Slot.reset).occupied then 2 ^ i else 0).sum

/-- Response data of 0x0A01. -/
def securityData (s : State) : List Byte :=
  le 1 (lifecycle s) ++ le 1 (rootsByte s) ++ le 1 (popCount s.sec.fuses.rollback) ++ le 1 (debugByte s) ++ remainBytes s ++
    le 2 (s.sec.tamper.latched.toNat + 256 * s.sec.tamper.active.toNat) ++ le 2 0 ++ le 4 (slotMask s)

/-- Command 0x0A01, security status (16 R433, R447). -/
def execSecurityStatus (r : Req) (s : State) : Result :=
  .next (gmp s r { cmd := 0x0A01, len := 0 } fun _ s => (s, okWith (securityData s)))

/-- KLEN of a TYPE; none of a TYPE not listed (16 Table 16.5). -/
def keyLen : Nat → Option Nat
  | 0x01 => some 16
  | 0x02 => some 32
  | 0x10 => some 32
  | 0x11 => some 48
  | 0x20 => some 64
  | 0x21 => some 96
  | 0x30 => some 48
  | _ => none

/-- The fixed hands keep the TYPE and MASK of 16 Table 16.4. -/
def fixedType (hand typ : Nat) : Bool := if hand = 0 then typ == 0x11 else if hand ≤ 7 then typ == 0x01 else true
def fixedMask (hand mask : Nat) : Bool := if hand = 0 then mask == 0b100110 else if hand ≤ 7 then mask == 0b000001 else true

/-- Every USAGE bit is one that the TYPE can perform (16 R438). -/
def usageOk (typ usage : Nat) : Bool := (List.range 8).all fun b => !usage.testBit b || Config.typePerforms typ b

/-- Command 0x0A02, load key in plaintext: in PROVISIONING, into a slot 1 to 23 (16 R437, R438, R442). -/
def execLoadKeyPlaintext (r : Req) (p : LoadKeyPlaintextP) (s : State) : Result :=
  let n := p.slot.toNat
  let fields := [(0x10, decide (1 ≤ n) && decide (n ≤ 23)), (0x11, (keyLen p.typ.toNat).isSome && fixedType n p.typ.toNat),
    (0x12, decide (p.mask.toNat < 64) && fixedMask n p.mask.toNat), (0x13, usageOk p.typ.toNat p.usage.toNat),
    (0x1C, keyLen p.typ.toNat == some p.klen.toNat), (0x1E, p.rsv == 0)]
  .next (gmp s r { cmd := 0x0A02, len := 16 + p.klen.toNat, fields := fields, legal := some (s.sys.mode == .commissioning && lifecycle s == 1) } fun t s =>
    let k : Hand := { typ := p.typ.toNat, mask := p.mask.toNat, usage := p.usage.toNat, expiry := p.expiry.toNat, header := n, key := padTo p.klen.toNat p.key, expired := false }
    let s := requestStore s .key (anteMj .key) (.key n k) (some t)
    (s, gateReply s 2 (anteMj .key)))

/-- The hand that unwrapped bytes hold: the header of 16 R441, then the key. -/
def handOf (b : List Byte) : Hand where
  typ := num b 0 1
  mask := num b 1 1
  usage := num b 2 1
  expiry := num b 4 8
  header := num b 12 4
  key := b.drop 16
  expired := false

/-- The header of an unwrapped key suits HAND (16 R437, R438, R443). -/
def stageable (hand : Nat) (b : List Byte) (h : Hand) : Bool :=
  decide (16 ≤ b.length) && num b 3 1 == 0 && h.header == hand && keyLen h.typ == some h.key.length &&
    decide (h.mask < 64) && usageOk h.typ h.usage && fixedType hand h.typ && fixedMask hand h.mask

/-- The key that a 0x0A03 brings: unwrapped, or generated for hand 0 in PROVISIONING (16 R442, R443). -/
def broughtKey (s : State) (p : StageKeyP) : Option Hand :=
  if p.wlen = 0 then
    if lifecycle s = 1 ∧ p.hand = 0 then
      some { typ := 0x11, mask := 0b100110, usage := 0b00000100, expiry := 0, header := 0, key := padTo 48 (Config.newKey s.fresh), expired := false }
    else none
  else
    match handKey s p.wrapBy.toNat 2 5 with
    | none => none
    | some w =>
      match Config.unwrap w.key p.wrapped with
      | none => none
      | some b => if stageable p.hand.toNat b (handOf b) then some (handOf b) else none

/-- Field checks of 0x0A03. -/
def keyStageChecks (s : State) (p : StageKeyP) : List (Nat × Bool) :=
  let own := p.wlen == 0 && p.hand == 0 && lifecycle s == 1
  [(0x10, decide (p.hand.toNat < 256)),
   (0x14, own || (handKey s p.wrapBy.toNat 2 5).any fun w => w.typ == 0x02),
   (0x18, own || p.wlen != 0), (0x1A, p.rsv == 0), (0x1C, (broughtKey s p).isSome)]

/-- Command 0x0A03, stage key: at most four stages (06 R150, 16 R443). -/
def execStageKey (r : Req) (p : StageKeyP) (s : State) : Result :=
  .next (gmp s r { cmd := 0x0A03, len := 12 + p.wlen.toNat, fields := keyStageChecks s p } fun t s =>
    match s.sec.stages, broughtKey s p with
    | _, none => (s, badField 0x1C)
    | l, some k =>
      match (if 4 ≤ l.length then l.head? else none) with
      | some o => (s, busyBy o.holder)
      | none =>
        let nonce := padTo 32 (Config.freeBytes s.fresh 32)
        let x : Stage := { id := s.sec.stageNext, hand := p.hand.toNat, key := k, confirmed := false, since := s.now, holder := t, nonce := nonce }
        (s.bump.mapSec fun c => { c with stages := c.stages ++ [x], stageNext := c.stageNext + 1 },
          okWith (le 2 x.id.toNat ++ le 2 0 ++ nonce)))

/-- An open stage. -/
def stageOf (s : State) (i : U16) : Option Stage := s.sec.stages.find? fun x => x.id == i

/-- Discards the stages that `p` names. -/
def discardStages (s : State) (p : Stage → Bool) : State := s.mapSec fun x => { x with stages := x.stages.filter fun y => !p y }

/-- Command 0x0A04, confirm key by its proof (16 R443). -/
def execConfirmKey (r : Req) (p : ConfirmKeyP) (s : State) : Result :=
  .next (gmp s r { cmd := 0x0A04, len := 52, fields := [(0x10, (stageOf s p.stage).isSome), (0x12, p.rsv == 0)] } fun _ s =>
    match stageOf s p.stage with
    | none => (s, badField 0x10)
    | some x =>
      if Config.keyProof x.key.key x.nonce x.hand (le 8 s.sys.serial.toNat ++ le 2 x.id.toNat) = p.proof then
        (s.mapSec fun c => { c with stages := c.stages.map fun y => if y.id == x.id then { y with confirmed := true } else y }, {})
      else (discardStages s fun y => y.id == x.id, { status := stVerify }))

/-- Command 0x0A05, commit key: a confirmed stage, under gate K (16 R444). -/
def execCommitKey (r : Req) (p : CommitKeyP) (s : State) : Result :=
  .next (gmp s r { cmd := 0x0A05, len := 4, fields := [(0x10, (stageOf s p.stage).any (·.confirmed)), (0x12, p.rsv == 0)] } fun t s =>
    match stageOf s p.stage with
    | none => (s, badField 0x10)
    | some x =>
      let s := requestStore s .key (anteMj .key) (.stagedKey x.id.toNat x.hand x.key) (some t)
      (s, gateReply s 2 (anteMj .key)))

/-- Command 0x0A06, discard a staged key (06 R150). -/
def execDiscardStagedKey (r : Req) (p : DiscardStagedKeyP) (s : State) : Result :=
  .next (gmp s r { cmd := 0x0A06, len := 4, fields := [(0x10, (stageOf s p.stage).isSome), (0x12, p.rsv == 0)] } fun _ s =>
    (discardStages s fun y => y.id == p.stage, {}))

/-- Row KEY_STAGE_EXPIRY: a stage not committed within 600 s (06 R150). -/
def execKeyStageExpiry (stage : U16) (s : State) : Result :=
  .next (match stageOf s stage with
    | none => s
    | some x => if x.since + secs 600 ≤ s.now then discardStages s fun y => y.id == stage else s)

/-- A slot that 0x0A07 may revoke: programmed, unrevoked, not the last one, not the loader's (16 R430); revocations
accepted count as done. -/
def revocable (s : State) (n : Nat) : Bool :=
  let gone (m : Nat) : Bool := decide (0 < queuedChanges s (fun c => c == .revoke m))
  let good (m : Nat) : Bool := rootGood s m && !gone m
  decide (n < 4) && good n && (List.range 4).any (fun m => m != n && good m) &&
    n != (s.upd.copies.getD s.upd.booted LoaderCopy.reset).root

/-- A token of TTYPE 2 names the slot in byte 0 of ARG and is signed under another one (16 Table 16.2, R429). -/
def revokeToken (s : State) (n : Nat) (b : List Byte) : Bool :=
  tokenGood s b [2] && num b 0x14 1 == n && (Config.token b (ownerBytes s)).2.1 != n

/-- Command 0x0A07, revoke root slot (16 R428 to R430). -/
def execRevokeRootSlot (r : Req) (p : RevokeRootSlotP) (s : State) : Result :=
  let n := p.slot.toNat
  .next (gmp s r { cmd := 0x0A07, len := 4 + p.tlen.toNat, fields := [(0x10, revocable s n), (0x11, p.rsv == 0)] ++ tokenFields 0x14 p.token, refuse := tokenRefused s r (revokeToken s n p.token) } fun t s =>
    acceptFuse s t (.revoke n))

/-- Counts left for ownership transfers, those accepted counted as spent; free in PROVISIONING (16 Table 16.3). -/
def ownerLimit (s : State) : Option (Nat × Nat) :=
  let q := queuedChanges s (fun c => match c with | .ownerXfer _ _ => true | _ => false)
  if lifecycle s = 2 ∧ 8 ≤ popCount s.sec.fuses.ownerXfer + q then some (2, 0) else none

/-- Command 0x0A08, ownership transfer (16 R427 to R431). -/
def execOwnershipTransfer (r : Req) (p : OwnershipTransferP) (s : State) : Result :=
  .next (gmp s r { cmd := 0x0A08, len := 4 + p.tlen.toNat, fields := (0x12, p.rsv == 0) :: tokenFields 0x14 p.token, refuse := tokenRefused s r (tokenGood s p.token [3, 4]), limit := ownerLimit s } fun t s =>
    acceptFuse s t (.ownerXfer (cut p.token 0x14 16) (cut p.token 0x24 48)))

/-- At the poll after a transfer the sessions of the old owner CA end (16 R431). -/
def endOldOwner (s : State) : State :=
  if s.sec.endOwner then endSessions (s.mapSec fun x => { x with endOwner := false }) fun c => c.credOwner else s

/-- Command 0x0A09, clear tamper latch: named sources no longer active (16 R449); one still active stays and is named
(06 R150). A module in QUARANTINE whose latch is now clear restarts. -/
def execClearTamperLatch (r : Req) (p : ClearTamperLatchP) (s : State) : Result :=
  .next (gmp s r { cmd := 0x0A09, len := 4, fields := [(0x10, decide (p.sources.toNat < 32)), (0x12, p.rsv == 0)] } fun _ s =>
    let named := p.sources.extractLsb' 0 5 &&& s.sec.tamper.latched
    let still := named &&& s.sec.tamper.active
    let gone := named &&& ~~~s.sec.tamper.active
    let left := s.sec.tamper.latched &&& ~~~gone
    let s := s.mapSec fun x => { x with tamper := { x.tamper with latched := left } }
    let s := if s.sys.mode = .quarantine ∧ gone ≠ 0 ∧ left = 0 then goReset s 0x04 else s
    (s, if still = 0 then {} else { status := stTamper, info := still.toNat }))

/-- Command 0x0A0A, debug challenge, valid once for 60 s (16 R450). -/
def execDebugChallenge (r : Req) (s : State) : Result :=
  .next (gmp s r { cmd := 0x0A0A, len := 0 } fun _ s =>
    let b := padTo 32 (Config.freeBytes s.fresh 32)
    (s.bump.mapSec fun x => { x with debugChal := some (b, s.now) }, okWith b))

/-- Command 0x0A0B, debug unlock; what follows comes at the next tick boundary (16 R450, R451). -/
def execDebugUnlock (r : Req) (p : DebugUnlockP) (s : State) : Result :=
  .next (gmp s r { cmd := 0x0A0B, len := 100, fields := [(0x10, decide (p.scope.toNat < 64))] } fun t s =>
    let good := match s.sec.debugChal with
      | none => false
      | some (b, at_) => decide (s.now ≤ at_ + secs 60) && rootGood s Config.debugRoot && Config.debugSig s.sys.serial b p.scope p.sig
    let s := s.mapSec fun x => { x with debugChal := none }
    if good then (s.mapSec fun x => { x with debugTok := some (t, p.scope) }, { status := stAccepted })
    else (s, { status := stPrivilege, info := 3, detail := (chan s t.ch).priv }))

/-- The four steps of an accepted unlock at the tick boundary, then its notice (16 R451). -/
def debugOpens (s : State) : State :=
  match s.sec.debugTok with
  | none => s
  | some (t, scope) =>
    let s := zeroise (s.mapSec fun x => { x with debugTok := none })
    let s := if s.sys.mode = .quarantine then s.score 0x06 (le 2 s.sys.bootCheckFailed) else enterMode s .quarantine
    let s := s.mapSec fun x => { x with debugOpen := 2, debugScope := scope }
    finishOp (s.event 0x0A06 (le 4 scope.toNat)) t {}

/-- The content that 0x0A0C signs: SCM8-IDENTITY, SERIAL, NONCE, HIF_BOOT and LIFECYCLE (16 R440). -/
def identityContent (s : State) (nonce : List Byte) : List Byte :=
  [0x53, 0x43, 0x4D, 0x38, 0x2D, 0x49, 0x44, 0x45, 0x4E, 0x54, 0x49, 0x54, 0x59] ++ le 8 s.sys.serial.toNat ++
    padTo 32 nonce ++ le 4 s.sys.bootNumber.toNat ++ le 1 (lifecycle s)

/-- Command 0x0A0C, prove identity with hand 0 (16 R440). Without the device key in its slot the signature is free. -/
def execProveIdentity (r : Req) (p : ProveIdentityP) (s : State) : Result :=
  .next (gmp s r { cmd := 0x0A0C, len := 32 } fun _ s =>
    let key := ((handKey s 0 2 2).map (·.key)).getD []
    (s.bump, okWith (padTo 96 (Config.sign key (Config.sha384 (identityContent s p.nonce)) s.fresh))))

end Sys2Proof.Machine
end

