-- ==== Sys2Proof/Machine/Stores.lean ====
section
/-!
DEFINITION. What an ante-gated store leaves when it completes, and the notice that waits for it (03 R70 to R72, 06 R136,
08 R190, 15 R421, 17 R464, 18 R480).
-/

namespace Sys2Proof.Machine

open Sys2Proof

/-- A configuration with the coefficient banks that another has in force: any commit of the configuration takes the banks
with it (08 R190). -/
def withBanks (run c : Cfg) : Cfg :=
  let one (l : LoopCfg) : LoopCfg := match cfgLoopOf run l.idx with
    | none => l
    | some r => { l with
      bankA := r.bankA
      bankB := r.bankB
      activeB := r.activeB }
  { c with loops := c.loops.map one }

/-- A commit of the configuration is done: the NAND copy, and the newest settings slot in the same commit (17 R464). While
the update window runs the commit is counted (17 Table 17.5). -/
def commitCfg (s : State) (f : Cfg → Cfg) : State :=
  let s := putSlot { s with cfgNand := withBanks s.cfg (f s.cfgNand) }
  if s.upd.rec_.state = 4 then s.writeRec fun r => { r with cfgChanges := r.cfgChanges + 1 } else s

/-- The notice of a configuration command whose store is done (06 R136, Tables 6.10, 6.11). -/
def cfgNotice (s : State) (t : Option OpTok) (what : Instr) : State :=
  match what, t with
  | .adopt _ p, some t => adoptStored t p.action s
  | .releaseAdopted _ p, some t => adoptStored t p.action s
  | .configureChainPort _ p, _ =>
    let n := if p.enum = 0 then p.expect.toNat else ((chainRt s p.port.toNat).found).getD 0
    finishIfDone s t (okWith (foundData n))
  | _, _ => finishIfDone s t {}

/-- Short addresses assigned at a first join are part of the node record (15 Table 15.15). -/
def withShorts (run c : Cfg) : Cfg :=
  let one (n : NodeRec) : NodeRec := match run.nodes.find? fun x => x.node == n.node with
    | none => n
    | some x => { n with
      short := x.short
      joinPort := x.joinPort }
  { c with nodes := c.nodes.map one }

/-- A restored configuration takes force; from a partner in DECLARER it brings the commissioned settings, and the module
acts as if 0x0104 had been accepted (18 R480). -/
def restored (s : State) (l : List CfgItem) : State :=
  let had := commissioned s.cfg
  let s := syncLoops (syncStages (putSlot (restoreItems s l))) []
  if !had ∧ commissioned s.cfg ∧ s.sys.mode = .commissioning then s.mapSys fun y => { y with arbDue := true, arbSince := s.now } else s

/-- A key that was loaded in plaintext is in its slot and its hand (16 R442). -/
def keyLoaded (s : State) (t : Option OpTok) (hand : Nat) (k : Hand) : State :=
  finishIfDone (discardStages (putHand s hand k) fun y => y.hand == hand) t {}

/-- A key is in force: its hand written, its slot to be reloaded, the stages of that hand gone (16 R444). -/
def keyStored (s : State) (t : Option OpTok) (hand : Nat) (k : Hand) : State :=
  finishIfDone (discardStages (commitHand s hand k) fun y => y.hand == hand) t {}

/-- What a completed store leaves. -/
def storeDone (s : State) (x : Store) : State :=
  match x.purpose with
  | .cfg what => cfgNotice (commitCfg s (cfgOf what)) x.tok what
  | .swapBank _ _ => finishIfDone (commitCfg s id) x.tok {}
  | .comm c entered => finishIfDone (commitCfg s fun n => { n with comm := some c }) x.tok (okWith (le 1 entered ++ le 3 0))
  | .key hand k => keyLoaded s x.tok hand k
  | .stagedKey _ hand k => keyStored s x.tok hand k
  | .assocs => s.mapMesh fun m => { m with
    assocStored := m.assocs
    joinStored := m.joinNbrs }
  | .nodeShort => putSlot { s with cfgNand := withShorts s.cfg s.cfgNand }
  | .replica seg => keepReplica s seg
  | .restored l => restored s l
  | .flush => flushDone s
  | .nothing => finishIfDone s x.tok {}
  | .fuse _ => s
  | .records l => recordsStored s l
  | .retireList => s.mapRcd fun x => { x with
    listNand := x.kitty
    listNandCount := x.listCount }
  | .staging => s
  | .copying => s
  | .imageWrite => s

/-- Row STORE_COMPLETE: the first running store of the kind completes and its notice is placed (06 R136). A flush has a row
of its own. -/
def execStoreComplete (kind : StoreKind) (s : State) : Result :=
  .next (match firstRunning s kind with
    | none => s
    | some x => if x.purpose = .flush then s else storeDone (dropStore s x) x)

/-- Stores under way run to completion whatever happens to the supply (03 R72, Table 3.5). -/
def completeRunning (s : State) : State :=
  (s.pow.stores.filter (·.running)).foldl (fun s x => storeDone (dropStore s x) x) s

end Sys2Proof.Machine
end

