-- ==== Sys2Proof/Machine/Reset.lean ====
section
/-!
DEFINITION. Resets and the steps of BOOT: what each kind of reset keeps (03 R60, R61, Table 3.2), the loader's action on
the update record (17 R463, R468, R471, R472), and steps 1 to 8 of Table 3.3 (03 R62 to R64, R77, 07 R172, 12 R323,
15 R411, 16 R434 to R436, 17 R464, R465).
-/

namespace Sys2Proof.Machine

open Sys2Proof

/-! What a reset keeps (03 Table 3.2, 15 Table 15.12) -/

/-- Module figures that fuses, NOR, NAND and MRAM hold. -/
def keptSys (y : Sys) (cause : U8) : Sys := { Sys.reset with
  bootNumber := y.bootNumber
  resetCause := cause
  straps := y.straps
  storedSlot := y.storedSlot
  variant := y.variant
  serial := y.serial
  hwRev := y.hwRev
  fwVersion := y.fwVersion
  schema := y.schema
  compatRunning := y.compatRunning
  imageCompatLowest := y.imageCompatLowest
  imageCompatHighest := y.imageCompatHighest
  autoRestarts := y.autoRestarts }

/-- Supply and stack go on as they are; stores still deferred are lost with the DRAM that held them. -/
def keptPow (w : Power) : Power := { w with
  stores := []
  mainsLowTicks := 0
  mainsHighTicks := 0 }

/-- Checkpoints, alive mark and gap numbers in MRAM, the gap records whose copy in the profile of feeder 0 is in NAND, and
the places that spares have taken for good (01 R18). -/
def keptMet (m : Meter) (kept : List Nat) : Meter := { Meter.reset with
  chans := m.chans.mapIdx fun ch c => { MeterChan.reset with
    conv := match m.calSlot with | some x => if x.ch = ch then x.own else c.conv | none => c.conv }
  calHeld := m.calHeld
  ckpts := m.ckpts
  ckptAt := m.ckptAt
  alive := m.alive
  gaps := m.gaps.filter fun g => kept.contains g.seq
  gapNext := m.gapNext
  suit := m.suit }

/-- The records of a profile that are in NAND; numbering goes on behind them, or where the checkpoint says (15 R406). -/
def keptProfile (p : Profile) : Profile :=
  let l := p.recs.filter (·.stored)
  { p with
    recs := l
    next := match l with
      | [] => 0
      | r :: _ => r.seq + 1 }

/-- The numbers of the records of feeder 0 that are in NAND. -/
def keptGaps (x : Rec) : List Nat :=
  match x.profiles.find? fun p => p.obj == setProfile 0 with
  | none => []
  | some p => (p.recs.filter (·.stored)).map (·.seq)

/-- The sinks' table in MRAM (09 R236): until a level is commanded a channel stands at its safe level. -/
def keptString (x : StringRt) : StringRt := { StringRt.reset with
  level := x.tableSafe
  target := x.tableSafe
  tableMa := x.tableMa
  tableSafe := x.tableSafe
  tableOk := x.tableOk }

/-- Counters area, adopted records, replicas, airtime sums, and the committed associations under the floor of a restart (10 R256,
R265, R267, R289, R291, R295). -/
def keptMesh (m : Mesh) : Mesh := { Mesh.reset with
  adopted := m.adopted
  assocs := m.assocStored.map raiseFloors
  assocStored := m.assocStored
  joinNbrs := m.joinStored.map raiseJoinFloor
  joinStored := m.joinStored
  joinBase := m.joinBase
  netUsed := m.netUsed
  secFc := m.fcEnd
  fcEnd := m.fcEnd
  keyGen := m.keyGen
  restart := m.restart
  duty := m.duty
  dutyAt := m.dutyAt
  safeConf := m.safeConf
  suitDue := m.suitDue
  version := m.version
  replicas := m.replicas
  adopting := m.adopting
  adoptedSuit := m.adoptedSuit }

/-- The stored servo rate and the offset in force; the pins and the address stay (11 R319, R320). -/
def keptEth (e : Eth) (outs : Nat) : Eth := { Eth.reset with
  ports := List.replicate 3 { Port.reset with outMark := outs }
  sfp := e.sfp
  mac := e.mac
  taiUtc := e.taiUtc
  servo := { Servo.reset with
    stored := e.servo.stored
    integ := e.servo.stored
    rate := e.servo.stored } }

/-- Records in NAND and MRAM; records not yet committed go with the DRAM that held them (03 R61, R72), and the ring is
dealt with by `recoverRing` (15 R397, R400, R411, R416, R417). -/
def keptRcd (x : Rec) : Rec := { Rec.reset with
  ring := x.ring
  nand := x.nand
  nextSeq := x.nextSeq
  reserved := x.reserved
  seqExact := x.seqExact
  dropped := x.dropped
  dropFirst := x.dropFirst
  dropLast := x.dropLast
  score := x.score
  scoreNext := x.scoreNext
  profiles := x.profiles.map keptProfile
  kitty := x.kitty.map fun k => { k with advised := 0 }
  listCount := x.listCount
  listBad := x.listBad
  listNand := x.listNand
  listNandCount := x.listNandCount
  hotLost := x.hotLost
  norRemap := x.norRemap
  norProg := x.norProg
  retention := x.retention
  committed := x.committed
  dramExcluded := x.dramExcluded
  segLost := x.segLost }

/-- Fuses, commit records, owner record, sealed hands and the tamper latch (16). -/
def keptSec (c : Sec) : Sec := { Sec.reset with
  fuses := c.fuses
  commits := c.commits
  opSeq := c.opSeq
  owners := c.owners
  hands := c.hands
  tamper := c.tamper }

/-- The update record, the stored images, the loader copies and the settings slots (17). -/
def keptUpd (u : Upd) : Upd := { Upd.reset with
  result := u.result
  staged := u.staged
  rollbackStore := u.rollbackStore
  running := u.running
  window := u.window
  rec_ := u.rec_
  recPrev := u.recPrev
  copies := u.copies
  booted := u.booted
  otherDue := u.otherDue
  slots := u.slots
  silentAt := u.silentAt
  failAlarm := u.failAlarm
  migInfo := u.migInfo
  migDetail := u.migDetail }

/-- The module in reset: what survives is kept, everything else is at its reset value. -/
def inResetState (s : State) (cause : U8) : State := { s with
  sys := keptSys s.sys cause
  pow := keptPow s.pow
  clk := { Clock.reset with
    epoch := s.clk.epoch
    tclk := s.clk.tclk }
  hif := Hif.reset
  met := keptMet s.met (keptGaps s.rcd)
  ctl := Ctl.reset
  outs := { Outs.reset with strings := s.outs.strings.map keptString }
  mesh := keptMesh s.mesh
  eth := keptEth s.eth s.out.length
  rtc := { s.rtc with
    setPending := none
    rewriteDue := none }
  sch := Sch.reset
  pair := { Pair.reset with
    claim := s.pair.claim
    hbo := false }
  rcd := keptRcd s.rcd
  sec := keptSec s.sec
  upd := keptUpd s.upd
  cfg := s.cfgNand
  changes := [] }

/-- The transition into BOOT (01 Table 1.8): its event; a reset in BOOT is none. -/
def toBoot (s : State) : State :=
  if s.sys.mode = .boot then s
  else s.event 0x0101 (le 1 (modeCode s.sys.mode) ++ le 1 (modeCode .boot) ++ le 2 0 ++ le 8 s.clk.tick)

/-- A warm reset (03 R60, R61): notices of outstanding operations are lost (06 R143), stores under way complete (03 R72),
and the module is in reset until its release. A wake's reason goes on to the BOOT that follows (03 R68). -/
def warmReset (s : State) (cause : U8) : State :=
  let t := inResetState (toBoot (completeRunning (s.mapHif fun h => { h with ops := [] }))) cause
  if cause = 0x08 then t.mapSys fun y => { y with
    wakeReason := s.sys.wakeReason
    wakeTell := s.sys.wakeTell
    wakePort := s.sys.wakePort }
  else t

/-! The event ring at BOOT (03 R61, 15 R411) -/

/-- One above the highest SEQ still held in NAND; numbers start at 0. -/
def heldNext (s : State) : Nat := (s.rcd.nand.map (·.seq + 1)).foldl max 0

/-- The ring is recovered after a warm reset when its CRC is correct, and numbering continues; after a power-on reset, or
with a bad CRC, it is lost, and unless a closing set wrote the exact next number, numbering resumes past the reservation
behind a SEQUENCE_GAP. -/
def recoverRing (s : State) (ok : Bool) : State :=
  if s.sys.resetCause ≠ 0x01 ∧ ok then s.mapRcd fun x => { x with seqExact := false }
  else
    let s := s.mapRcd fun x => { x with
      ring := []
      dropped := 0 }
    if s.rcd.seqExact then s.mapRcd fun x => { x with seqExact := false }
    else
      let a := heldNext s
      let b := s.rcd.reserved
      if b ≤ a then s
      else enterRec (s.mapRcd fun x => { x with nextSeq := b }) 0x0004 0 (le 8 a ++ le 8 (b - 1))

/-- The retirement list at BOOT: the one with the higher change count whose CRC is correct (15 R400). -/
def takeList (s : State) : State :=
  s.mapRcd fun x =>
    if x.listBad || decide (x.listCount < x.listNandCount) then
      { x with kitty := x.listNand.map fun k => { k with advised := 0 }, listCount := x.listNandCount, listBad := false }
    else x

/-! The loader (17 R463, R468, R471, R472) -/

/-- The copy that the boot ROM boots: the valid one with the higher FW_VERSION, copy A when they are equal (17 R471). -/
def bestCopy (s : State) : Option Nat :=
  let a := s.upd.copies.getD 0 LoaderCopy.reset
  let b := s.upd.copies.getD 1 LoaderCopy.reset
  if a.valid then (if b.valid && decide (a.version.toNat < b.version.toNat) then some 1 else some 0) else if b.valid then some 1 else none

/-- A replaced loader that does not verify is recorded, and its other copy is no longer due (17 R472). -/
def newLoaderBad (s : State) (old : Nat) : State :=
  let c := s.upd.copies.getD (1 - old) LoaderCopy.reset
  if !s.upd.otherDue || c.valid then s
  else (s.mapUpd fun u => { u with otherDue := false }).event 0x0B02 (le 1 (1 - old) ++ le 1 0 ++ le 2 0 ++ le 4 c.version.toNat)

/-- The loader's write starts, or waits for its ante (17 R463). -/
def loaderWrite (s : State) : State :=
  let go := antePasses s (anteMj .image) && !s.pow.warning
  s.mapUpd fun u => { u with
    writing := go
    anteWait := !go }

/-- The loader starts a forward write: STATE 2. -/
def writeForward (s : State) : State :=
  loaderWrite ((s.mapUpd fun u => { u with retried := false }).writeRec fun r => { r with state := 2 })

/-- The loader starts a fall-back: STATE 6. -/
def writeBack (s : State) (reason : Nat) : State :=
  loaderWrite ((s.mapUpd fun u => { u with retried := false }).writeRec fun r => { r with
    state := 6
    reason := reason })

/-- A warm reset with cause 0x02 to 0x06. -/
def failCause (c : U8) : Bool := decide (2 ≤ c.toNat) && decide (c.toNat ≤ 6)

/-- The loader acts on STATE at boot (17 R463). -/
def loaderActs (s : State) : State :=
  let r := s.upd.rec_
  if r.state = 1 ∨ r.state = 2 then writeForward s
  else if r.state = 5 ∨ r.state = 6 then writeBack s r.reason
  else if r.state = 3 ∨ r.state = 4 then
    if failCause s.sys.resetCause then writeBack s 0x0007
    else s.writeRec fun r => { r with windowLeft := 60 * s.upd.window }
  else s

/-- The image that now runs: its version, schema and level range (06 Table 6.6, 17 Table 17.1). -/
def runImage (s : State) (h : Option ImgHdr) : State :=
  match h with
  | none => s
  | some x => (s.mapUpd fun u => { u with running := some x }).mapSys fun y => { y with
    fwVersion := x.version
    imageCompatLowest := BitVec.ofNat 16 x.compatLo
    imageCompatHighest := BitVec.ofNat 16 x.compatHi }

/-- A fall-back write is done: the new slot is invalid again, RESULT is REASON, and one event records it (17 R468). -/
def fellBack (s : State) : State :=
  let r := s.upd.rec_
  let mig := decide (r.reason = 0x0006)
  let s := s.mapUpd fun u => { u with
    slots := if r.newSlot = 0xFF then u.slots else updAt u.slots r.newSlot fun x => { x with status := 0 }
    failAlarm := false
    fallBack := false
    staged := none }
  let s := runImage s s.upd.rollbackStore
  let s := s.mapSys fun y => { y with schema := BitVec.ofNat 16 (((newestSlot s).map fun i => (slotAt s i).schema).getD s.sys.schema.toNat) }
  let s := setResult s r.reason (if mig then s.upd.migInfo else 0) (if mig then s.upd.migDetail.toNat else 0) r.newVersion r.oldVersion r.cfgChanges
  s.writeRec fun r => { r with
    state := 0
    reason := 0
    windowLeft := 0 }

/-- Row IMAGE_WRITE_COMPLETE: the written image passes check 10 or not. A failed write is repeated once; then a forward
write falls back with REASON 0x0008, and a fall-back raises an alarm and is retried at the next boot (17 R463, R468). Then
the loader boots: warm reset with cause 0x07 (03 Table 3.1). -/
def execImageWriteComplete (hashOk : Bool) (s : State) : Result :=
  .next (
    if !s.upd.writing then s
    else
      let back := decide (s.upd.rec_.state = 6)
      if hashOk then
        let s := s.mapUpd fun u => { u with writing := false }
        if back then warmReset (fellBack s) 0x07
        else warmReset (runImage (s.writeRec fun r => { r with state := 3 }) s.upd.staged) 0x07
      else if !s.upd.retried then s.mapUpd fun u => { u with retried := true }
      else if back then warmReset (s.mapUpd fun u => { u with failAlarm := true }) 0x07
      else writeBack s 0x0008)

/-- Row IMAGE_WRITE_ANTE_RETRY: the loader takes the ante again each second (17 R463). -/
def execImageWriteAnteRetry (vhuMv : Nat) (s : State) : Result :=
  .next (if s.upd.anteWait then loaderWrite (s.mapPow fun w => { w with stackMv := vhuMv }) else s)

/-! Step 6 (03 Table 3.3, 17 R464 to R466) -/

/-- The NAND configuration is used only when its digest is the newest slot's; otherwise it is rebuilt from the slot
(17 R464). Equal digests are read as equal records (log 62). -/
def chooseCfg (s : State) : State :=
  match newestSlot s with
  | none => { s with cfg := s.cfgNand }
  | some i =>
    let c := (slotAt s i).cfg
    if c = s.cfgNand then { s with cfg := c } else { s with cfg := c, cfgNand := c }

/-- SCHEMA of the running image. -/
def imageSchema (s : State) : Nat := (s.upd.running.map (·.schema)).getD s.sys.schema.toNat

/-- The first BOOT of a new image writes its settings slot, STATE 4; whether it can represent every record is free, and a
record that it cannot makes the migration fail: STATE 5 with REASON 0x0006 (17 R465, R466, log 63). -/
def migrate (s : State) : State :=
  let old := newestSlot s
  let was := (old.map fun i => (slotAt s i).schema).getD s.sys.schema.toNat
  let (t, n) := newSlot (chooseCfg s) (imageSchema s) s.sys.compatRunning.toNat s.sys.fwVersion
  let slots (r : UpdRec) : UpdRec := { r with
    oldSlot := old.getD 0
    newSlot := n
    cfgChanges := 0 }
  if Config.freeBool s.fresh then
    (t.bump.mapUpd fun u => { u with
      slots := updAt u.slots n fun x => { x with status := 0 }
      migInfo := Config.freeNat s.fresh % 256
      migDetail := BitVec.ofNat 32 (was + 65536 * imageSchema s) }).writeRec fun r => { slots r with
        state := 5
        reason := 0x0006 }
  else (t.bump.writeRec fun r => { slots r with
    state := 4
    windowLeft := 60 * s.upd.window }).mapSys fun y => { y with schema := BitVec.ofNat 16 (imageSchema s) }

/-! Step 7 (03 R77 to R79, 07 R171, R172, 12 R323, R336) -/

/-- The next SEQ of a profile: the checkpoint's, past what NAND holds (15 R406). -/
def seqFrom (l : List (U32 × Nat)) (p : Profile) : Profile :=
  { p with next := max p.next (((l.find? fun x => x.1 == p.obj).map (·.2)).getD 0) }

/-- What a checkpoint restores (03 R79, 07 R171, 08 R200, 09 R230, 13 R346, R356, 15 R406). -/
def applyCkpt (s : State) (c : Ckpt) : State :=
  let s := s.mapRcd fun x => { x with profiles := x.profiles.map (seqFrom c.profSeqs) }
  let s := s.mapMet fun m => { m with
    sets := c.sets
    lanterns := c.lanterns }
  let s := s.mapSch fun x => { x with
    overrides := c.overrides
    ledger := c.ledger
    lastUtc := c.utc }
  let s := s.mapCtl fun x => { x with loops := x.loops.map fun r => { r with sp := (c.setPoints.find? fun p => p.1 == r.idx).map (·.2) } }
  s.mapOuts fun o => { o with contactors := o.contactors.mapIdx fun i x => { x with want := c.contactors.getLsbD i } }

/-- Without a valid checkpoint the registers start at zero; OBJECT_LOST unless both copies are blank (03 R77). -/
def noCkpt (s : State) : State :=
  if s.met.ckpts.all (·.blank) then s else s.event 0x010F (le 4 0 ++ le 1 4 ++ le 1 0 ++ le 2 0)

/-- The energy checkpoint is restored, and a gap record written when it is no closing one. -/
def restoreEnergy (s : State) : State :=
  match newestCkpt s with
  | none => noCkpt s
  | some c => if c.closing then applyCkpt s c else writeGap (applyCkpt s c) c

/-- The wake from BATTERY_STANDBY is written to the recorder (03 R68). -/
def wakeEvent (s : State) : State :=
  if s.sys.wakeReason = 0 then s
  else s.event 0x0102 (le 1 s.sys.wakeReason ++ le 1 s.sys.wakeTell ++ le 1 s.sys.wakePort ++ le 1 0 ++ le 8 (rtcUtc s))

/-! Step 8 (03 R64, 11 R319, 15 R412) -/

/-- The tick number starts at the clock's time in TAI, rounded up to a whole second, or one round past the newest alive
mark with the epoch raised and time unset (03 R64, log 122). -/
def startTick (s : State) : State :=
  if rtcInvalid s then
    (s.mapClk fun c => { c with
      tick := s.met.alive.tick + 8000
      epoch := c.epoch + 1 }).mapEth fun e => { e with servo := { e.servo with lock := 0 } }
  else
    let sec := (Int.ofNat (utcOfFields s.rtc.time) + 946684800 + s.eth.taiUtc).toNat
    (s.bump.mapClk fun c => { c with tick := 8000 * (sec + bit (subsecNow s != 0)) }).mapEth fun e => { e with servo := { e.servo with
      lock := 1
      holdAt := s.now } }

/-- Codes of lanterns configured before the restart; their estimates start anew (07 R176, R182). A code still waiting for
its period start goes on waiting (log 192). -/
def suitAtBoot (s : State) : List SuitNode :=
  (s.cfg.suit.map fun x =>
    let was := s.met.suit.find? fun e => e.node == x.1 && e.code == x.2
    { node := x.1, code := x.2, effRound := (was.map (·.effRound)).getD 0, old := was.bind (·.old), slope := none, sigma := 0, slopes := [], sflags := 0x20, pEst := 0, conf := 0 }) ++ s.met.suit.filter fun e => e.code == 0xFFFF

/-- The AFE starts: every tracker at nominal, every detector searching from now (07 R159, R160). -/
def startMetering (s : State) : State :=
  let f := 1000 * nominalHz s
  refreshCorr <| s.mapMet fun m => { m with
    running := true
    calSince := s.now
    absMode := s.cfg.accModes
    suit := suitAtBoot s
    zcs := m.zcs.map fun z => { z with lastSeen := s.clk.tclk }
    trackers := m.trackers.map fun t => { t with freq := f } }

/-- Strings whose table entry fails its CRC are recorded (09 R236). -/
def tableFaults (s : State) : State :=
  (List.range 16).foldl (fun s n => if (stringRt s n).tableOk then s else stringEvent s n 6 true) s

/-- The alarms that stand from their cause are raised again (10 R255, 14 R365, 18 R483). -/
def bootRaises (s : State) : State := epochAlarm (adviseAll (profileAlarm s))

/-- The pause record follows a planned stop as metering starts (07 R172). -/
def pauseDue (s : State) : State :=
  match newestCkpt s with
  | none => s
  | some c => if c.closing && c.reason != 0 then writePause s c else s

/-- Step 8: seating, the deal built, the tick generator and the AFE start, and the first TIME_MARKER (03 R62, R64). Before
the first tick and the first round boundary no release point and no deal has been missed (14 R366, log 170). -/
def stepEight (s : State) : State :=
  let s := syncStages s
  let s := s.mapCtl fun c => { c with seats := if lifecycle s = 3 then [] else (seatsOf s s.cfg).2 }
  let s := dutyCatchUp (startTick s)
  let s := s.mapClk fun c => { c with
    running := true
    afeStart := s.now
    prevStart := c.tclk
    releaseMet := true
    dealConfirmed := true }
  let s := s.mapSys fun y => { y with
    inReset := false
    booted := true }
  let s := latchRef (startMetering s)
  openIntervals (pauseDue (bootRaises (tableFaults (timeMarker s))))

/-! The boot sequence (03 Table 3.3) -/

/-- Steps 6 to 8, once the loader has an image to boot. -/
def bootFirmware (s : State) : State :=
  let first := decide (s.upd.rec_.state = 3)
  let s := if first then migrate s else s
  if s.upd.rec_.state = 5 then warmReset s 0x07
  else
    let s := chooseCfg s
    let s := if s.upd.rec_.state = 4 then s.mapUpd fun u => { u with phase := 6 } else s
    let s := if rtcInvalid s then s.event 0x010A (le 4 (rtcStatus s.rtc)) else s
    let s := match s.sys.storedSlot with
      | none => s
      | some p => if p = s.sys.straps then s else s.event 0x010D (le 1 s.sys.straps.toNat ++ le 1 p.toNat ++ le 2 0)
    let s := loadHands (resolveCommits s)
    let s := wakeEvent (restoreEnergy (syncLoops s []))
    stepEight (bootAlarms s)

/-- Step 1: rails, pins and the start of charging; a stack below 1.0 V at power-on is taken as new (03 R69, 02 R44); the
claim takes the rank of the straps, of which a dealer has none (14 R364, Table 14.1). -/
def stepOne (s : State) (e : BootEnv) : State :=
  let new := decide (s.sys.resetCause = 0x01) && decide (e.vhuMv < 1000)
  let s := s.mapSys fun y => { y with
    straps := e.straps
    bootNumber := y.bootNumber + 1
    bootCheckFailed := e.failed }
  let s := if e.rtcOk then s else s.mapRtc rtcPowerUp
  let s := s.mapPair fun p => { p with
    hbo := true
    hbi := e.hbi
    lastEdge := s.clk.tclk
    claim := if e.straps = 0 then p.claim else p.claim.extractLsb' 8 24 ++ e.straps.setWidth 8 }
  s.mapPow fun w => { w with
    stackMv := e.vhuMv
    mainsOk := e.mainsOk
    stackCmF := if new then 470 else w.stackCmF
    stackEsr := if new then 300 else w.stackEsr
    seen12V := w.seen12V || decide (12000 ≤ e.vhuMv)
    charging := decide (18000 ≤ e.vinMv)
    chargeSince := s.now
    chargeFault := false }

/-- BOOT from the release of reset: steps 1 to 8, or the loader's write first (03 R62, 17 R463). Without a valid loader
copy the module does not boot (17 R471). A start from OFF is recorded as a transition here, once the ring has been dealt
with (01 Table 1.8). -/
def boot (s : State) (e : BootEnv) : State :=
  let old := s.upd.booted
  let s := recoverRing (takeList (stepOne s e)) e.ringOk
  match bestCopy s with
  | none => s
  | some i =>
    let s := if s.sys.resetCause = 0x01 then s.event 0x0101 (le 1 0 ++ le 1 (modeCode .boot) ++ le 2 0 ++ le 8 0) else s
    let s := newLoaderBad s old
    let s := s.score 0x01 (le 1 s.sys.resetCause.toNat)
    let s := loaderActs (s.mapUpd fun u => { u with booted := i })
    if s.upd.writing || s.upd.anteWait then s.mapSys fun y => { y with inReset := false } else bootFirmware s

/-! Rows that reset or boot (03 R60 to R62, R66, R68, 02 R46) -/

/-- Row POWER_ON: VIN rises above 18.5 V (02 R42, 03 Table 3.1). -/
def execPowerOn (e : BootEnv) (s : State) : Result :=
  .next (
    if s.pow.drawing || decide (e.vinMv ≤ 18500) then s
    else
      let s := inResetState s 0x01
      boot (s.mapPow fun w => { w with
        drawing := true
        vinGood := true
        warning := false
        finalDone := false
        seen12V := false }) e)

/-- Row RESET_RELEASE (03 R62). -/
def execResetRelease (e : BootEnv) (s : State) : Result := .next (if s.pow.drawing && s.sys.inReset then boot s e else s)

/-- Row RESET_N: 8 samples in a row read low (02 R46). The reset comes at the next tick boundary (01 R28), or at once while
the tick generator does not run. From UPDATE and BATTERY_STANDBY, which Table 1.8 lets RESET_N not leave, nothing comes of
it (01 R28 against 02 R46, log 174). -/
def execResetN (samples : Nat) (s : State) : Result :=
  .next (if !s.pow.drawing || decide (samples < 8) || s.sys.mode = .update || s.sys.mode = .standby then s
    else if s.clk.running then goReset s 0x02
    else warmReset s 0x02)

/-- Row AUTOMATIC_RESTART: 10 s after a fatal fault (03 R66). -/
def execAutomaticRestart (s : State) : Result :=
  .next (match s.sys.restartDue with
    | none => s
    | some t =>
      if s.now < t then s
      else if s.sys.mode = .failLit ∨ s.sys.mode = .quarantine then
        warmReset (s.mapSys fun y => { y with autoRestarts := s.now :: recentRestarts s }) 0x06
      else s.mapSys fun y => { y with restartDue := none })

/-- States that the round watchdog resets (01 Table 1.8). -/
def watched (m : Mode) : Bool :=
  match m with
  | .commissioning | .declarer | .dummy | .failLit | .quarantine => true
  | _ => false

/-- Row ROUND_WATCHDOG: two round boundaries in a row without a committed deal (03 Table 3.1, 04 R93); the reset comes at
the next tick boundary (01 R28). -/
def execRoundWatchdog (s : State) : Result :=
  .next (if 2 ≤ s.clk.missedDeals ∧ watched s.sys.mode then goReset s 0x03 else s)

/-- Row MAINS_RETURN: MAINS_OK, high at this moment too, has been high for 2 s without a break (03 R68). -/
def execMainsReturn (ok : Bool) (s : State) : Result :=
  .next (if s.sys.mode = .standby ∧ ok = true ∧ 16000 < s.pow.mainsHighTicks then wake s 1 0 0 else s)

/-- Row TELL_MATCH: a frame matches an enabled tell in BATTERY_STANDBY (11 R310, 03 R68). -/
def execTellMatch (port : Nat) (frame : List Byte) (s : State) : Result :=
  .next (if s.sys.mode ≠ .standby then s
    else match matchingTell s frame with
      | none => s
      | some n => wake s 2 n port)

/-- Row RTC_ALARM_MATCH: an armed alarm has matched (12 R336, 03 R68). -/
def execRtcAlarmMatch (s : State) : Result :=
  .next (if s.sys.mode = .standby ∧ s.rtc.hits.any id then wake s 3 0 0 else s)

end Sys2Proof.Machine
end

