-- ==== Sys2Proof/Machine/System.lean ====
section
/-!
DEFINITION. The module as a whole: commissioning, loss and return of supply and mains, the hold-up stack, faults of
engines and memories, tamper, and the sensors of lid and radio ports (01 R13, R16, R25, 02 R42 to R44, R54, R58,
03 R66 to R74, 16 R447, R448).
-/

namespace Sys2Proof.Machine

open Sys2Proof

/-! Commissioning (01 Table 1.8, 06 Table 6.5) -/

/-- Command 0x0104, commissioning complete: arbitration decides the state (01 R28, Table 1.8, 14
R369, log 167). A second one is BUSY while the first waits. -/
def execCommissioningComplete (r : Req) (s : State) : Result :=
  .next (gmp s r { cmd := 0x0104, len := 0 } fun t s =>
    match s.sys.arbTok with
    | some h => (s, busyBy h)
    | none => (s.mapSys fun y => { y with
        arbDue := true
        arbSince := s.now
        arbTok := some t }, { status := stAccepted }))

/-- Command 0x0105, recommission (01 Table 1.8). -/
def execRecommission (r : Req) (s : State) : Result :=
  .next (gmp s r { cmd := 0x0105, len := 0 } fun _ s => (goMode s .commissioning, {}))

/-! Mains (03 R67, R68) -/

/-- Row MAINS_LOSS: MAINS_OK low for 5 s without a break while VIN is present. -/
def execMainsLoss (s : State) : Result :=
  .next (if 40000 < s.pow.mainsLowTicks ∧ s.pow.vinGood ∧ watched s.sys.mode then goMode s .standby else s)

/-- Row MAINS_BREAK: a break restarts the count; one longer than 1 s is recorded by a module in service. In
BATTERY_STANDBY it restarts the count of the return. -/
def execMainsBreak (ms : Nat) (s : State) : Result :=
  .next (
    if s.sys.mode = .standby then s.mapPow fun w => { w with mainsHighTicks := 0 }
    else if !watched s.sys.mode then s
    else
      let s := s.mapPow fun w => { w with mainsLowTicks := 0 }
      if 1000 < ms ∧ ms < 5000 then s.event 0x0103 (le 4 ms ++ le 4 0 ++ le 8 s.clk.tick) else s)

/-! The hold-up stack (02 R44, 03 R69) -/

/-- DATA of HOLDUP (15 Table 15.13). -/
def holdup (s : State) (cause : Nat) : State :=
  s.event 0x0104 (le 1 cause ++ le 1 0 ++ le 2 s.pow.stackMv ++ le 2 (s.pow.stackCmF / 10) ++ le 2 s.pow.stackEsr)

/-- Row STACK_CHARGE_TIMEOUT: VHU below 1.0 V after 10 s of charging (02 R44). -/
def execStackChargeTimeout (vhuMv : Nat) (s : State) : Result :=
  .next (
    if s.pow.charging && decide (s.pow.chargeSince + secs 10 ≤ s.now) && decide (vhuMv < 1000) then
      holdup (s.mapPow fun w => { w with
        stackMv := vhuMv
        charging := false
        chargeFault := true
        chargeFaultAt := s.now }) 1
    else s)

/-- Row STACK_CHARGE_RETRY: once a minute (02 R44); not in BATTERY_STANDBY (03 R67). -/
def execStackChargeRetry (vhuMv : Nat) (s : State) : Result :=
  .next (
    if s.pow.chargeFault && s.pow.vinGood && s.sys.mode != .standby && decide (s.pow.chargeFaultAt + secs 60 ≤ s.now) then
      s.mapPow fun w => { w with
        stackMv := vhuMv
        charging := true
        chargeSince := s.now
        chargeFault := false }
    else s)

/-- A new capacitance, with its event when it has fallen below 0.47 F (03 R69). -/
def newC (s : State) (mF : Nat) : State :=
  let was := s.pow.stackCmF
  let s := s.mapPow fun w => { w with stackCmF := mF }
  if mF < 470 ∧ 470 ≤ was then holdup s 2 else s

/-- Row STACK_CHARGE_MEASURE: a charge from 10.0 V to 12.0 V took `ticks`; C is 0.2 A x t / 2.0 V (03 R69). -/
def execStackChargeMeasure (ticks : Nat) (s : State) : Result :=
  .next (if !s.pow.charging then s
    else
      let up := decide (ticks % 80 ≠ 0) && Config.roundUp s.fresh
      newC (s.bump.mapPow fun w => { w with seen12V := true }) (ticks / 80 + bit up))

/-- Row STACK_TEST: 0.5 A for 1 s, once per TAI day at a round boundary at which the module is in service (03 R69). -/
def execStackTest (m : StackMeas) (s : State) : Result :=
  .next (
    if curRound s % 86400 ≠ 0 ∨ tickInRound s ≠ 0 ∨ !(s.sys.mode == .declarer || s.sys.mode == .dummy) ∨ m.dropMv = 0 then s
    else
      let up := decide (500000 % m.dropMv ≠ 0) && Config.roundUp s.fresh
      let was := s.pow.stackEsr
      let s := newC s.bump (500000 / m.dropMv + bit up)
      let s := s.mapPow fun w => { w with stackEsr := 2 * m.stepMv }
      if 300 < 2 * m.stepMv ∧ was ≤ 300 then holdup s 3 else s)

/-! Loss of supply (02 R42, 03 R73, R74) -/

/-- Duration of the ride-through so far, ms. -/
def rideMs (s : State) : Nat := (s.now - s.pow.warnSince) / 8

/-- The scorecard entry of a power failure (15 Table 15.11). -/
def powerFailScore (s : State) (halted : Bool) : State := s.score 0x02 (le 2 s.pow.stackMv ++ le 4 (rideMs s) ++ le 1 (bit halted))

/-- Row POWER_FAIL_WARNING: VIN below 18.0 V, the nominal threshold of 18.0 V ±0.2 V (02 R42, log 176); the module runs on
the stack (03 Table 3.5). -/
def execPowerFailWarning (vinMv : Nat) (s : State) : Result :=
  .next (if !s.pow.drawing || s.pow.warning || decide (18000 ≤ vinMv) then s
    else s.mapPow fun w => { w with
      vinGood := false
      warning := true
      warnSince := s.now
      finalDone := false
      rideFlush := false
      minMv := w.stackMv
      charging := false })

/-- A flush that was deferred when the warning came takes its ante again, unless an earlier store of its kind is deferred
(03 R72, Table 3.5). -/
def deferredFlush (s : State) : State :=
  match s.pow.stores.find? fun x => x.kind == .nand && !x.running with
  | none => s
  | some x =>
    if x.purpose = .flush ∧ antePasses s x.mj then
      flushBegin (s.mapPow fun w => { w with stores := w.stores.map fun y => if y == x then { y with running := true } else y })
    else s

/-- The ring flush of a warning: it starts although the warning stands; behind a flush under way it starts when that ends
(03 Table 3.5). -/
def rideFlush (s : State) : State :=
  let s := deferredFlush (startFlush (s.mapPow fun w => { w with warning := false }))
  s.mapPow fun w => { w with
    warning := true
    rideFlush := s.rcd.flushAgain }

/-- The final checkpoint, its scorecard entry, and the flush that follows it although a warning stands: at the tick
boundary after the warning (03 Table 3.5). In BATTERY_STANDBY metering has stopped and records not yet flushed are lost
(03 R67). -/
def finalCheckpoint (s : State) : State :=
  if !s.pow.warning || s.pow.finalDone then s
  else
    let s := if s.met.running then writeCkpt s (snapshot s false 0) else s
    let s := powerFailScore (s.mapPow fun w => { w with finalDone := true }) false
    if s.sys.mode = .standby then s else rideFlush s

/-- Row WARNING_CLEAR: VIN above 18.5 V before the stack reaches V_stop (03 R74). -/
def execWarningClear (vinMv : Nat) (s : State) : Result :=
  .next (if !s.pow.drawing || !s.pow.warning || decide (vinMv ≤ 18500) then s
    else
      let s := s.event 0x0106 (le 4 (rideMs s) ++ le 2 s.pow.minMv ++ le 2 0)
      s.mapPow fun w => { w with
        vinGood := true
        warning := false
        rideFlush := false
        charging := s.sys.mode != .standby
        chargeSince := s.now })

/-- The stack is at or below V_stop: 7.0 V, or the lowest voltage at which the ante of the closing set passes (03 R74). -/
def atStop (s : State) (vhuMv : Nat) : Bool :=
  decide (vhuMv ≤ 7000) || !antePasses (s.mapPow fun w => { w with stackMv := vhuMv - 1 }) (anteMj .closing)

/-- The whole ring goes to NAND in the closing set (03 R74, 15 R413). -/
def flushAll (s : State) : State :=
  flushDone (s.mapRcd fun x => { x with
    flushing := some x.nextSeq
    flushAgain := false
    flushToks := [] })

/-- The closing set: checkpoint, scorecard entry, event flush and the exact next number (03 Table 3.4, 15 R411). In
BATTERY_STANDBY records not yet flushed are lost (03 R67). -/
def closingSet (s : State) : State :=
  let s := completeRunning (contactorsOff s)
  let s := if s.met.running then writeCkpt s (snapshot s true 0) else s
  let s := powerFailScore s true
  if s.sys.mode = .standby then s else (flushAll (flushAll s)).mapRcd fun x => { x with seqExact := true }

/-- A checkpoint write that the loss of supply cuts short, within the 400,000 TCLK that it may take, leaves a copy whose CRC
fails: whether it was still under way is free (01 R15, 04 Table 4.5, log 175). -/
def cutCkpt (s : State) : State :=
  match s.met.ckptAt with
  | none => s
  | some (i, t) =>
    if t + 16 < s.now || !Config.freeBool s.fresh then s.bump
    else s.bump.mapMet fun m => { m with ckpts := updAt m.ckpts i fun c => { c with crcOk := false } }

/-- A key commit cut by the loss of supply leaves no record yet, or one whose COMMIT is written or not: which is free
(16 R446). -/
def cutKeys (s : State) : State :=
  (s.pow.stores.filter (·.running)).foldl (fun s x =>
    let one (hand : Nat) (k : Hand) : State :=
      let r : CommitRec := { kind := 1, opSeq := s.sec.opSeq, target := mkRef 0x09 hand, bit := 0xFFFF, commit := Config.freeBool s.fresh, change := .key hand k }
      if Config.freeBool (s.fresh + 1) then { s with fresh := s.fresh + 2 }
      else { s with fresh := s.fresh + 2 }.mapSec fun c => { c with opSeq := c.opSeq + 1, commits := c.commits ++ [r] }
    match x.purpose with
    | .key hand k => one hand k
    | .stagedKey _ hand k => one hand k
    | _ => s) s

/-- A scorecard write that the loss of supply cuts short, before the end of the tick after its cause, leaves a slot that is
ignored; whether it was still under way is free (15 R417, R418, log 175). -/
def cutScore (s : State) : State :=
  if s.rcd.scoreAt.any (fun t => decide (s.now ≤ t + 1)) && Config.freeBool s.fresh then
    s.bump.mapRcd fun x => { x with score := x.score.tail, scoreNext := x.scoreNext - 1 }
  else s.bump

/-- The module no longer draws: OFF (01 R28, 03 R74). -/
def halt (s : State) : State :=
  let s := inResetState s 0x01
  let s := s.mapPow fun w => { w with
    drawing := false
    vinGood := false
    warning := false
    charging := false }
  s.mapSys fun y => { y with mode := .off }

/-- Row STOP_THRESHOLD: the stack reaches V_stop: the closing set is written and the module halts (03 R74). A stack found
below 6.0 V, from which nothing is drawn, leaves no closing set and cuts short what was being written. -/
def execStopThreshold (vhuMv : Nat) (s : State) : Result :=
  .next (if !s.pow.drawing || !s.pow.warning || !atStop s vhuMv then s
    else
      let s := s.mapPow fun w => { w with
        stackMv := vhuMv
        minMv := min w.minMv vhuMv }
      if vhuMv < 6000 then halt (cutScore (cutCkpt (cutFuse (cutKeys s)))) else halt (closingSet s))

/-! Faults of engines and memories (01 R13, R16, R25) -/

/-- The present instant lies after cycle 24,000 of the last tick of a round (04 R93). -/
def lateReport (s : State) : Bool := decide (tickInRound s = 7999) && decide (24000 ≤ pollCycle s)

/-- A failed element of a kind with spares is retired; its substitution comes at the round boundary that 04 R93 names. -/
def failElement (s : State) (k i : Nat) : State :=
  (retire s k i).mapCtl fun c => { c with lateFail := if lateReport s then (k, i) :: c.lateFail else c.lateFail }

/-- The loops seated on a pair are held until they are seated again (01 R13, Table 1.2). -/
def holdLoops (s : State) (cp : Nat) : State :=
  let on (r : LoopRt) : Bool := s.cfg.loops.any fun l => l.idx == r.idx && seatAt s l.output == some cp
  s.mapCtl fun c => { c with loops := c.loops.map fun r => if on r then { r with held := true } else r }

/-- A miscompare in a slice pair of a lone module: scorecard entry, the loops held and their event (01 R13, 15 Table 15.13). -/
def sliceMiscompare (s : State) (cp : Nat) : State :=
  (holdLoops (s.score 0x05 (le 1 (16 + cp) ++ le 1 1)) cp).event 0x0306 (le 1 cp ++ le 7 0 ++ le 8 s.clk.tick)

/-- Row LOCKSTEP_MISCOMPARE: in SUP or in a slice pair in service (01 R13, Table 1.2). -/
def execLockstepMiscompare (engine : Nat) (s : State) : Result :=
  .next (
    if s.sys.inReset || !s.pow.drawing then s
    else if engine = 0 then fatalFault s 0 1 0x05
    else if engine < 0x10 ∨ 0x13 < engine ∨ !(slicePairs s).contains (engine - 0x10) then s
    else if paired s then fatalFault (retire s 0 (engine - 0x10)) engine 1 0x09
    else failElement (sliceMiscompare s (engine - 0x10)) 0 (engine - 0x10))

/-- Row UNCORRECTABLE_ECC: running code is fatal; of any other word the object is recovered or lost and the location retired
(01 R16). The engine whose code it was is free. -/
def execUncorrectableEcc (e : EccErr) (s : State) : Result :=
  .next (
    if s.sys.inReset || !s.pow.drawing then s
    else if e.code then fatalFault s.bump (Config.freeNat s.fresh % 256) 3 0x06
    else
      let s := objectFault s e.mem e.obj (copyLeft s e.mem e.index e.copyOk)
      match e.mem with
      | 0 => retire s 3 e.index
      | 1 =>
        if s.rcd.dramExcluded.contains e.addr.toNat then s
        else (s.mapRcd fun x => { x with dramExcluded := e.addr.toNat :: x.dramExcluded }).event 0x0906 (le 8 e.addr.toNat)
      | 2 => (retire s 4 e.index).mapRcd fun x => { x with norRemap := if x.norRemap.contains e.index then x.norRemap else e.index :: x.norRemap }
      | 3 => retire s 5 e.index
      | _ => mramFault s e.index)

/-- Row ENGINE_LOST: an engine without a spare (01 R25, 04 R89). -/
def execEngineLost (engine : Nat) (s : State) : Result :=
  .next (
    let spare := match engineKind engine with
      | none => false
      | some (k, _) => decide (0 < spareOf s k)
    if s.sys.inReset || !s.pow.drawing || !engineCodes.contains engine || spare then s else fatalFault s engine 2 0x06)

/-! Tamper (16 R447, R448, 03 R80, R81) -/

/-- A store of gates K and F, or a queued fuse operation, under way or deferred. -/
def keyStore (x : Store) : Bool := x.kind == .key || x.kind == .fuse

/-- Ends one operation with TAMPER_LOCKED; of a loader replacement the install ends too (16 Table 16.9). -/
def tamperEnds (s : State) (t : Option OpTok) : State :=
  let p : Reply := { status := stTamper, info := s.sec.tamper.latched.toNat }
  if t.isSome && s.upd.tok == t then endInstall s 0x0003 p else finishOpt s t p

/-- Key operations under way are aborted, stages discarded, deferred K and F stores abandoned. Whether the record of a
running key commit is complete, so that it rolls forward, is free (16 Table 16.9, R446). -/
def abortKeys (s : State) : State :=
  let run := s.pow.stores.filter fun x => keyStore x && x.running
  let done := run.zipIdx.filterMap fun x => if Config.freeBool (s.fresh + x.2) then some x.1 else none
  let gone := s.pow.stores.filter fun x => keyStore x && !done.contains x
  let toks := gone.map (·.tok) ++ s.sec.fuseQueue.map (·.tok)
  let s := { s with fresh := s.fresh + run.length }
  let s := s.mapPow fun w => { w with stores := w.stores.filter fun x => !gone.contains x }
  let s := s.mapSec fun c => { c with
    stages := []
    fuseQueue := []
    compatNext := c.compatNext.filter (·.fused) }
  toks.foldl tamperEnds s

/-- What a breach of the mesh adds (16 Table 16.9). -/
def meshBreach (s : State) : State :=
  match s.sys.mode with
  | .commissioning | .declarer | .dummy | .failLit => goMode (zeroise s) .quarantine
  | .quarantine | .update => zeroise s
  | _ => s

/-- A source becomes active: latched with the RTC time, scorecard entry, event, and the response of 16 Table 16.9. -/
def tampered (s : State) (source : Nat) : State :=
  let b : BitVec 5 := BitVec.ofNat 5 (2 ^ source)
  let u := rtcUtc s
  let s := s.mapSec fun c => { c with tamper := { c.tamper with
    latched := c.tamper.latched ||| b
    active := c.tamper.active ||| b
    times := c.tamper.times.set source u } }
  let s := (s.score 0x04 (le 2 (2 ^ source) ++ le 8 u)).event 0x0A01 (le 2 (2 ^ source) ++ le 2 0 ++ le 8 u)
  let s := abortKeys s
  let s := if source = 1 then meshBreach s else s
  match s.sys.mode with
  | .boot => if s.sys.booted then zeroise s else s
  | .standby => wake s 4 0 0
  | _ => s

/-- Row TAMPER: a source becomes active or inactive; in OFF none is detected (16 R447, R448). -/
def execTamper (source : Nat) (active : Bool) (s : State) : Result :=
  .next (
    if !s.pow.drawing || decide (5 ≤ source) then s
    else if !active then s.mapSec fun c => { c with tamper := { c.tamper with active := c.tamper.active &&& ~~~(BitVec.ofNat 5 (2 ^ source)) } }
    else if s.sec.tamper.active.getLsbD source then s
    else tampered s source)

/-! Sensors of the lid and of the radio ports (02 R54, R58) -/

/-- Row LID_TEMPERATURE, in 0.1 C (02 R58). -/
def execLidTemperature (dc : Int) (s : State) : Result :=
  .next (
    let ev (s : State) : State := s.event 0x0107 (leInt 2 dc ++ le 2 0)
    if !s.pow.drawing then s
    else if 950 ≤ dc ∧ !s.sys.lidHot then ev (s.mapSys fun y => { y with lidHot := true })
    else if dc < 900 ∧ s.sys.lidHot then ev (s.mapSys fun y => { y with lidHot := false })
    else s)

/-- Row RF_MISMATCH: reflected power above 3:1 on a port that transmits lowers its output by 6 dB (02 Table 2.13, `outDbm`). When the
reduction ends is not given: it stays until a reset (log 133). -/
def execRfMismatch (port : Nat) (s : State) : Result :=
  .next (
    let ev (s : State) : State := s.event 0x0504 (le 1 port ++ le 3 0)
    if !radioSends s then s
    else if port = 1 then (if s.sys.rfReducedA then s else ev (s.mapSys fun y => { y with rfReducedA := true }))
    else if port = 2 then (if s.sys.rfReducedB then s else ev (s.mapSys fun y => { y with rfReducedB := true }))
    else s)

end Sys2Proof.Machine
end

