-- ==== Sys2Proof/Machine/Rounds.lean ====
section
/-!
DEFINITION. Tick and round boundaries, the stretch tick and stopped items (04 R82 to R93, 01 R20 to R24, 15 R394, R401,
R412, R415) with everything that the other chapters put at a boundary.
-/

namespace Sys2Proof.Machine

open Sys2Proof

/-! Stopped items (04 R89) -/

/-- An engine that is treated as failed: its spare comes in at the round boundary, and without one its loss is fatal
(04 R89, 01 R25). -/
def engineFailed (s : State) (e : Nat) : State :=
  match engineKind e with
  | none => fatalFault s e 2 0x06
  | some (k, i) =>
    if spareOf s k = 0 then fatalFault s e 2 0x06
    else failElement (if k = 0 then holdLoops s i else s) k i

/-- The entry of an item stopped now. -/
def itemStop (s : State) (e i : Nat) : ItemStop :=
  match s.ctl.stops.find? fun x => x.engine == e && x.item == i with
  | some x => { x with
    last := s.now
    count := if x.last = s.now then x.count else x.count + 1 }
  | none => { engine := e, item := i, last := s.now, count := 1, first := s.clk.tick }

/-- A metering DSP whose item is stopped no longer processes samples (04 R89, 15 R401). -/
def dspStops (s : State) (e : Nat) (tick : Nat) : State :=
  match engineKind e with
  | some (1, i) =>
    if s.met.mdStops.any fun x => x.1 == i then s
    else s.mapMet fun m => { m with mdStops := m.mdStops ++ [(i, tick, (m.capture.head?.map (·.at_)).getD 0)] }
  | _ => s

/-- Row ITEM_STOPPED: the event, and after 8 ticks in a row the engine counts as failed (04 R89). -/
def execItemStopped (engine item : Nat) (s : State) : Result :=
  .next (if !s.clk.running || !engineCodes.contains engine || engineState s engine ≠ 0 then s
    else
      let old := s.ctl.stops.find? fun x => x.engine == engine && x.item == item
      let n := itemStop s engine item
      let s := s.event 0x0108 (le 1 engine ++ le 1 0 ++ le 2 item ++ le 8 s.clk.tick)
      let s := s.mapUpd fun u => { u with bad := true }
      let s := s.mapCtl fun c => { c with stops := n :: c.stops.filter fun x => !(x.engine == engine && x.item == item) }
      let s := dspStops s engine n.first
      if n.count = 8 ∧ old.any (fun x => x.count = 7) then engineFailed s engine else s)

/-- At a tick boundary: items not stopped in the tick that ends have completed, and a DSP none of whose items was stopped
goes on with the samples of that tick (04 R89). -/
def resumeItems (s : State) : State :=
  let s := s.mapCtl fun c => { c with stops := c.stops.filter fun x => x.last == s.now }
  let back := s.met.mdStops.filter fun x => !(kindOf s 1).retired.contains x.1 && !s.ctl.stops.any fun y => y.engine == 0x20 + x.1
  back.foldl (fun s x =>
    let sups := suppliesOf s x.1
    catchUp (s.mapMet fun m => { m with mdStops := m.mdStops.filter fun y => y.1 != x.1 }) x.2.2 sups fun r => r.tick == s.clk.tick) s

/-! Commissioning (01 Table 1.8, 07 R161, 10 R264, 14 R369) -/

/-- The nominal frequency nearer the one measured on supply A, or B while A is NO_ZC; halfway it is free (07 R161). -/
def measuredNominal (s : State) : Nat :=
  let f := freqOf s (if noZc s 0 then 1 else 0)
  if f < 55000 then 50 else if 55000 < f then 60 else if Config.freeBool s.fresh then 60 else 50

/-- The segment number: kept once it is stored; else the low 32 bits of the lower SERIAL of the modules present, a partner's
being outside the module and free (10 R264). -/
def segmentOf (s : State) : U32 :=
  match s.cfg.comm with
  | some c => c.segment
  | none =>
    let other := Config.freeNat s.fresh
    let low := if paired s && !s.pair.wordsLost && decide (other < s.sys.serial.toNat) then other else s.sys.serial.toNat
    BitVec.ofNat 32 low

/-- The commissioned settings at 0x0104; a module restored with a partner's keeps them (18 R480). -/
def commRecord (s : State) : CommRec :=
  match s.sys.arbTok, s.cfg.comm with
  | none, some c => if c.nominal = 0 then { c with nominal := measuredNominal s } else c
  | _, _ => { segment := segmentOf s, nominal := measuredNominal s, uDinA := 0, uDinB := 0 }

/-- The present round began at least 200 ms after `t` (14 R369). -/
def settledSince (s : State) (t : Nat) : Bool := decide (t + 1600 + tickInRound s ≤ s.now)

/-- The partner's bid words show ROLE 1 (14 R369). -/
def winnerShown (s : State) : Bool := paired s && !s.pair.wordsLost && s.pair.partnerRole == 1

/-- A lone module has nothing to wait for; in a pair arbitration is as from BOOT: at a round boundary after 200 ms, or,
once that has passed, when the winner's ROLE 1 is seen (01 Table 1.8, 14 R369, logs 167, 171). -/
def arbMay (s : State) : Bool := !paired s || (settledSince s s.sys.arbSince && (tickInRound s == 0 || winnerShown s))

/-- Commissioning completes once arbitration has decided the state (01 Table 1.8, 02 R47, 14 R369). -/
def commission (s : State) : State :=
  if !s.sys.arbDue || s.sys.mode ≠ .commissioning || !arbMay s then s
  else match arbitrate s with
    | (s, none) => s
    | (s, some m) =>
      let c := commRecord s
      let tok := s.sys.arbTok
      let s := s.bump.mapCfg fun x => { x with comm := some c }
      let s := s.mapSys fun y => { y with
        arbDue := false
        arbTok := none
        storedSlot := some y.straps }
      let s := s.mapMet fun x => { x with
        uDinSum := [(0, 0), (0, 0)]
        uDinRounds := 0 }
      requestStore (enterMode s m) .nand (anteMj .nand) (.comm c (modeCode m)) tok

/-! The tick boundary (04 R82, Table 4.2) -/

/-- A new tick begins. -/
def beginTick (s : State) : State :=
  { s with now := s.now + 1 }.mapClk fun c => { c with
    prevStart := c.tclk
    tclk := c.tclk + c.stretchTcl
    stretchTcl := 25000
    stretch := false
    stepDue := false
    tick := c.tick + 1
    poll := 0
    ticksInRound := c.ticksInRound + 1
    releaseMet := true }

/-- A transition decided in the last tick takes effect (01 R28). In UPDATE the firmware does not run, and no tick with it
(01 Table 1.7). -/
def takeMode (s : State) : State :=
  match s.sys.nextMode with
  | none => s
  | some m =>
    let s := updateMatch (enterMode (s.mapSys fun y => { y with nextMode := none }) m)
    if m = .update then s.mapClk fun c => { c with running := false } else s

/-- Resistance of a PT1000 element at a temperature in m°C, in ohm, by the curve of IEC 60751 with its coefficients for
α = 0.003 85 (09 R232, log 181). -/
def pt1000 (t : Int) : Rat :=
  let c : Rat := (t : Rat) / 1000
  1000 * (1 + 39083 / 10000000 * c - 5775 / 10000000000 * c * c -
    (if t < 0 then 4183 / 1000000000000000 * (c - 100) * c * c * c else 0))

/-- The highest m°C from `lo`, within 2^`n` steps of it, whose resistance is at most `r`. -/
def pt1000Search (r : Rat) : Nat → Int → Int
  | 0, lo => lo
  | n + 1, lo => if pt1000 (lo + 2 ^ n) ≤ r then pt1000Search r n (lo + 2 ^ n) else pt1000Search r n lo

/-- A sampled voltage in µV as the mode reports it: mode 0 in µV; mode 1 the current through the 100 Ω burden, in nA; mode 2
the temperature of the element that 0.5 mA excites, in m°C (09 R232, 02 Table 2.10). -/
def aiReading (mode : Nat) (uv : Int) : Int :=
  match mode with
  | 0 => uv
  | 1 => 10 * uv
  | _ => pt1000Search ((uv : Rat) / 500) 20 (-200000)

/-- What is sampled at cycle 0 (04 Table 4.2, 09 R231, R232, 03 R67, R69). -/
def sampleInputs (s : State) (e : TickEnv) : State :=
  let s := if s.sys.mode = .standby then s
    else s.mapOuts fun o => { o with
      di := e.di
      ai := (List.range 8).map fun n => aiReading (s.cfg.aiModes.getD n 0) (e.ai.getD n 0)
      aiBad := List.replicate 8 false
      vled := Int.ofNat e.vledMv }
  let v := e.vhuMv
  s.mapPow fun w => { w with
    stackMv := v
    minMv := if w.warning then min w.minMv v else w.minMv
    seen12V := w.seen12V || decide (12000 ≤ v)
    vctMv := e.vctMv
    mainsOk := e.mainsOk
    mainsHist := w.mainsHist <<< 1 ||| (if e.mainsOk then 1 else 0)
    mainsLowTicks := if e.mainsOk then 0 else w.mainsLowTicks + 1
    mainsHighTicks := if e.mainsOk then w.mainsHighTicks + 1 else 0 }

/-- A mode change of 0x0206 takes effect and is committed (07 R169). -/
def takeMode0206 (s : State) (c : Change) : State :=
  match c.what with
  | .accumulationMode _ p =>
    let s := modeForce (s.mapCfg (cfgMode p)) p
    requestStore s .nand (anteMj .nand) (.cfg c.what) (some c.tok)
  | _ => s

/-- An accepted change of an accumulation mode. -/
def isMode0206 (c : Change) : Bool :=
  match c.what with
  | .accumulationMode _ _ => true
  | _ => false

/-- The mode changes read in the last tick (07 R169). -/
def takeModes (s : State) : State :=
  (s.changes.filter isMode0206).foldl takeMode0206 { s with changes := s.changes.filter fun c => !isMode0206 c }

/-- Ticks in a row in which a declarer finds every configured stage SILENT (14 R384). -/
def countSilent (s : State) : State :=
  let all := s.sys.mode == .declarer && !s.outs.stages.isEmpty && s.outs.stages.all (·.silent)
  s.mapPair fun p => { p with autoTicks := if all then p.autoTicks + 1 else 0 }

/-- The first record of every sixtieth round is a TIME_MARKER (15 R412). -/
def firstRecord (s : State) : State := if tickInRound s = 0 ∧ curRound s % 60 = 0 ∧ s.sys.mode ≠ .standby then timeMarker s else s

/-- What a tick boundary does once its tick has begun. -/
def tickWork (s : State) (e : TickEnv) : State :=
  let s := calibrate (firstRecord s)
  let s := takeSetPoints (commission (takeMode s))
  let s := s.mapOuts fun o => { o with strings := o.strings.map fadeStep }
  let s := openLoads (sampleInputs s e) e.ctOpen
  finalCheckpoint (debugOpens (reloadSlots (countSilent (takeModes s))))

/-- A tick of the model's clock while the tick generator does not run (log 6). -/
def idleTick (s : State) : State :=
  { s with now := s.now + 1 }.mapClk fun c => { c with
    prevStart := c.tclk
    tclk := c.tclk + c.stretchTcl
    stretchTcl := 25000 }

/-- The module draws from its supply and its tick generator runs. -/
def ticking (s : State) : Bool := s.pow.drawing && s.clk.running

/-- Row TICK_BOUNDARY: a tick begins (04 R82); a reset or a transition decided in the last one takes effect (01 R28, 03 R66).
Where the tick generator does not run, only the model's clock advances (log 6); in UPDATE the inputs go on being sampled
(09 R231). -/
def execTickBoundary (e : TickEnv) (s : State) : Result :=
  .next (
    let s' := if ticking s then beginTick (resumeItems s) else idleTick s
    match s.sys.nextReset with
    | some cause => if s.pow.drawing then warmReset s' cause else s'
    | none => if ticking s then tickWork s' e else if s.sys.mode = .update then sampleInputs s' e else s')

/-! Round boundary: records and energy of the round that ends -/

/-- Flags that a lantern's interval gathers from a round (15 Table 15.6). -/
def lanternFlags (s : State) (n : NodeRec) : U16 :=
  let f := sflagsOf s n
  let lost := (assocOf s n.node).any fun a => a.nstate == 4
  BitVec.ofNat 16 (8 * bit (f.testBit 0 || f.testBit 5) + 16 * bit (f.testBit 1) + 32 * bit lost)

/-- The open intervals take in a round of `ticks` ticks (15 Tables 15.5, 15.6). -/
def profileRound (s : State) (ticks : Nat) : State :=
  let l := lanternNodes s
  let one (p : Profile) : Profile := match l.find? fun n => lanternProfile n.node == p.obj with
    | none => p
    | some n => { p with
      levelSum := p.levelSum + ticks * commandedLevel s n.node
      flags := p.flags ||| lanternFlags s n }
  let f : U16 := BitVec.ofNat 16 (4 * bit (s.eth.servo.lock == 1) + 8 * bit (s.eth.servo.lock == 0) + 32 * bit s.met.calHeld)
  s.mapRcd fun x => { x with
    profiles := x.profiles.map one
    flags15 := x.flags15 ||| f }

/-- The declared voltages of the supplies, V (07, after Table 7.6). -/
def declaredVolts : List Nat := [100, 110, 120, 127, 220, 230, 240, 277]

/-- The declared voltage nearest a mean RMS in mV; of two equally near the choice is free. -/
def nearestVolt (free : Nat) (mv : Rat) : Nat :=
  let off (v : Nat) : Rat := let d := (1000 * v : Nat) - mv; if d < 0 then -d else d
  declaredVolts.foldl (fun b v => if off v < off b ∨ (off v = off b ∧ Config.freeBool free = true) then v else b) 100

/-- U_din after the first 600 s in DECLARER, kept with the commissioned settings (07, after Table 7.6). -/
def declareVolts (s : State) : State :=
  if s.sys.mode ≠ .declarer ∨ !commissioned s.cfg ∨ 600 ≤ s.met.uDinRounds then s
  else
    let s := s.mapMet fun m => { m with uDinRounds := m.uDinRounds + 1 }
    match s.cfg.comm with
    | none => s
    | some c =>
      if s.met.uDinRounds < 600 ∨ c.uDinA ≠ 0 then s
      else
        let of (i : Nat) : Nat := let x := s.met.uDinSum.getD i (0, 0); if x.2 = 0 then 0 else nearestVolt (s.fresh + i) (x.1 / x.2)
        let c' : CommRec := { c with uDinA := of 0, uDinB := of 1 }
        let s := { s with fresh := s.fresh + 2 }.mapCfg fun x => { x with comm := some c' }
        requestStore s .nand (anteMj .nand) (.comm c' (modeCode s.sys.mode)) none

/-! Round boundary: substitution, changes and seating (04 R92, R93, 01 R23, R24) -/

/-- The failure of an element was reported too late for this boundary (04 R93). -/
def failedLate (s : State) (k i : Nat) : Bool := s.ctl.lateFail.contains (k, i)

/-- The spares of failed metering DSPs come in (15 R401), but for those of failures reported too late (04 R93). -/
def substituteDsps (s : State) : State :=
  (s.met.mdStops.filter fun x => (kindOf s 1).retired.contains x.1 && !failedLate s 1 x.1).foldl replayDsp s

/-- A slice pair has failed and no spare of the kitty replaces it (01 Table 1.2): of the retired pairs the first is the
one that the kitty pair replaced. -/
def unreplaced (s : State) (cp : Nat) : Bool :=
  let r := (kindOf s 0).retired
  r.contains cp && r.getLast? != some cp

/-- The seats that a configuration gets from the elements in service, its outputs `gone` apart (15 R394). It is the spare
deal of 04 R93 when an element has failed: a function of configuration and hardware (01 R22), so State holds no copy. -/
def seatsWithout (s : State) (c : Cfg) (gone : Nat → Bool) : List (Nat × Nat) :=
  if lifecycle s = 3 then [] else (seatsOf s { c with loops := c.loops.filter fun l => !gone l.output }).2

/-- Seats the configuration anew. The outputs of a failed pair without a replacement lose their seats, those on other
pairs keep running (01 Table 1.2; log 184); those of a pair whose failure was reported too late keep theirs and stay held
(04 R93). Others resume. -/
def reseat (s : State) : State :=
  let old := s.ctl.seats
  let seatOn (p : Nat → Bool) (o : Nat) : Bool := (old.find? fun x => x.1 == o).any fun x => p x.2
  let late := seatOn (failedLate s 0)
  let lost := seatOn fun cp => unreplaced s cp && !failedLate s 0 cp
  let seats := (seatsWithout s s.cfg lost).filter (fun x => !late x.1) ++ old.filter (fun x => late x.1)
  let on (r : LoopRt) : Bool := s.cfg.loops.any fun l => l.idx == r.idx && late l.output
  s.mapCtl fun c => { c with
    seats := seats
    loops := c.loops.map fun r => if on r then r else { r with held := false } }

/-- A pair in whose seats an output stands has failed, and not too late for this boundary (04 R93). -/
def pairFailed (s : State) : Bool :=
  s.ctl.seats.any fun x => (kindOf s 0).retired.contains x.2 && !failedLate s 0 x.2

/-- Nodes whose suit code differs between two configurations. -/
def suitChanged (old new : Cfg) : List U32 :=
  ((old.suit.filter fun x => !new.suit.contains x) ++ (new.suit.filter fun x => !old.suit.any fun y => y.1 == x.1)).map (·.1)

/-- What takes force beside the configuration itself, by command. -/
def forceOf (s : State) (c : Change) (old : Cfg) : State :=
  match c.what with
  | .correctionSegments _ _ => refreshCorr s
  | .assignSuitCodes _ _ => if radioSends s then forceSuit c.tok (suitChanged old s.cfg) s else s
  | .configureLoop _ p => syncLoops s [refIndex p.loop]
  | .removeLoop _ _ => syncLoops s []
  | .configureOutputStage _ p => forceStage p s
  | .configureString _ p => forceString p s
  | .configureChainPort _ p => forceChain c.tok p s
  | .safeLevel _ p => forceSafeLantern c.tok p (forceSafe c.tok p s)
  | .addNode _ p => forceNode p s
  | .removeNode _ p => forceRemoveNode c.tok p s
  | .confirmRegionalProfile _ _ => forceProfile c.tok s
  | .peerSeats _ _ => forcePeers s
  | .adopt _ p => forceAdopt c.tok p.seg p.action s
  | .releaseAdopted _ p => forceAdopt c.tok p.seg p.action s
  | .configurePort _ p => forcePort p s
  | .configureIeee1588 _ _ => reselect s
  | .groupMembers _ _ => s.mapSch fun x => { x with evalAll := true }
  | .deleteGroup _ _ => s.mapSch fun x => { x with evalAll := true }
  | .defineSchedule _ _ => s.mapSch fun x => { x with evalAll := true }
  | .deleteSchedule _ _ => s.mapSch fun x => { x with evalAll := true }
  | .zoneRules _ _ => s.mapSch fun x => { x with evalAll := true }
  | .eraseSettings _ _ =>
    let s := profileAlarm (syncStages (syncLoops (refreshCorr s) []))
    s.mapSys fun y => { y with storedSlot := none }
  | _ => s

/-- An adoption or a release of a declarer in a pair is replayed in the tick in which it takes effect (14 R371). -/
def replayChange (s : State) (c : Change) : State :=
  let pass := match c.what with
    | .adopt _ _ => true
    | .releaseAdopted _ _ => true
    | _ => false
  if pass && paired s && s.sys.mode == .declarer then
    s.mapPair fun p => { p with replays := p.replays ++ [(s.clk.tick, requestBytes c.what)] }
  else s

/-- An admitted change takes force and its NAND commit is asked for, or the hardware that results refuses it (04 R92, R93,
01 R24, 06 R136). -/
def takeChange (s : State) (c : Change) : State :=
  match admission s (cfgOf c.what s.cfg) with
  | some p => finishOp s c.tok p
  | none =>
    let old := s.cfg
    let s := s.mapCfg (cfgOf c.what)
    let s := (suitChanged old s.cfg).foldl suitForce s
    let s := replayChange (forceOf s c old) c
    requestStore s .nand (anteMj .nand) (.cfg c.what) (some c.tok)

/-- The changes of the round `ended` and before, in the order their commands arrived (04 R92). -/
def takeChanges (s : State) (ended : Nat) : State :=
  let due (c : Change) : Bool := decide (c.round ≤ ended) && !isMode0206 c
  (s.changes.filter due).foldl takeChange { s with changes := s.changes.filter fun c => !due c }

/-- The bank swaps that took force in the round are committed, with the coefficients in force (08 Table 8.7, R190). -/
def commitSwaps (s : State) : State :=
  (s.ctl.swaps.filter (·.taken)).foldl (fun s x => requestStore s .nand (anteMj .nand) (.swapBank x.group x.tick) (some x.tok))
    (s.mapCtl fun c => { c with swaps := c.swaps.filter fun x => !x.taken })

/-- The deal of a round that SUP has committed: substitutions, changes, seating (04 R92, R93). -/
def newDeal (s : State) (ended : Nat) : State :=
  let n := s.changes.length
  let s := commitSwaps (takeChanges (substituteDsps s) ended)
  dropTraces (if n ≠ s.changes.length ∨ pairFailed s then reseat s else s)

/-! Round boundary: stores (03 R72) -/

/-- A store whose fresh ante passes runs. -/
def runStore (s : State) (x : Store) : State :=
  match x.purpose with
  | .fuse c => fiveSteps (dropStore s x) x.tok c
  | _ => s.mapPow fun w => { w with stores := w.stores.map fun y => if y == x then { y with running := true } else y }

/-- Deferred stores take a fresh ante in the order first requested; behind one that fails the later ones of its kind wait
(03 R72). The image write takes its own (17 R459). -/
def retryStores : State → List StoreKind → List Store → State
  | s, _, [] => s
  | s, failed, x :: r =>
    if failed.contains x.kind || x.kind == .image then retryStores s failed r
    else if antePasses s x.mj && !s.pow.warning then retryStores (runStore s x) failed r
    else retryStores s (x.kind :: failed) r

/-- ANTE_DEFERRED of a gate clears when none of its stores is deferred too long. What REQUIRED then says is free. -/
def anteClear (s : State) : State :=
  [1, 2, 3, 4].foldl (fun s g =>
    if s.pow.stores.any (fun x => gateCode x.kind == g && overdue s x) then s
    else s.bump.clearAlarm 0x0105 (le 1 g ++ le 3 0 ++ le 4 (availUnits s) ++ le 4 (Config.freeNat s.fresh)) g) s

/-- The deferred stores at a round boundary (03 R72). -/
def deferredStores (s : State) : State :=
  anteClear (flushBegin (retryStores s [] (s.pow.stores.filter fun x => !x.running)))

/-! Round boundary: the event recorder (15 R412, R413, R415) -/

/-- A bucket gains a token at rounds that are multiples of 6; a suppressed count is entered and cleared (15 R415). -/
def refill (s : State) (b : Bucket) : State :=
  let one (y : Bucket) : Bucket := if y.code == b.code then { y with tokens := min 20 (y.tokens + 1), count := 0 } else y
  let s := s.mapRcd fun x => { x with buckets := (x.buckets.map one).filter fun y => decide (y.tokens < 20) }
  if b.count = 0 then s else enterOrDrop s 0x0002 0 (le 2 b.code.toNat ++ le 2 0 ++ le 4 b.count ++ le 8 b.first ++ le 8 b.last)

/-- The tokens of a round (15 R415). -/
def refillRound (s : State) : State := if curRound s % 6 = 0 then s.rcd.buckets.foldl refill s else s

/-- The flush of every sixtieth round (15 Table 15.9). -/
def markRound (s : State) : State := if curRound s % 60 = 0 then startFlush s else s

/-! Round boundary: lights -/

/-- The applied caps of the node feeders for the round that begins (08 R202). -/
def updateCaps (s : State) : State :=
  let coded (f : Nat) : Bool := (codedLanterns s f).any fun e => (codeIn e (curRound s)).isSome
  let cap (f : Nat) : Nat :=
    let a := s.ctl.caps.getD f 10000
    let c := s.ctl.capsC.getD f 10000
    if regulated s f then 10000 else if !coded f || curRound s % 64 == 0 || decide (c + 500 < a) then c else a
  if s.sys.mode ≠ .declarer then s else s.mapCtl fun c => { c with caps := (List.range 8).map cap }

/-- A dummy follows the levels that its declarer commands, so that it goes on from them (14 R377). -/
def dummyLevels (s : State) : State :=
  let n := curRound s
  let one (x : NodeRec) : Fade :=
    let r := lanternRes s x n
    match fadeRec s x.node with
    | some f => if f.level = r.level then { f with outstanding := none, next := none } else { node := x.node, level := r.level, fade := fadeOf .dflt r.src, since := n, outstanding := none, next := none }
    | none => { node := x.node, level := r.level, fade := 0, since := n, outstanding := none, next := none }
  if s.sys.mode ≠ .dummy then s else s.mapSch fun y => { y with lanterns := (lanternNodes s).map one }

/-- Lights, levels and contactors at a round boundary (08 R202, 09 R230, R243, 13 R344 to R346, R362). -/
def lightRound (s : State) : State :=
  let s := contactorRetry (updateCaps s)
  let s := s.mapOuts fun o => { o with adjRound := o.adjRound + 1 }
  dropTerms (countOverrides (dummyLevels (levelsBegin s)))

/-! Round boundary: time (04 R86, 11 R320, 12 R332, R333) -/

/-- 0x0606 at its boundary B: the clock is written, and outside DUMMY a step of network time to its time is asked for at
the same B; without network time LOCK becomes 1 (12 R332). -/
def takeClock (s : State) : State :=
  match s.rtc.setPending with
  | none => s
  | some (utc, round, step) =>
    if curRound s < round then s
    else
      let s := rtcWriteFull (s.mapRtc fun r => { r with setPending := none }) utc
      if !step then s
      else
        let d := (Int.ofNat utc + 946684800 + s.eth.taiUtc) * 1000000000 - netNs s
        let s := latchRef (s.mapClk fun c => { c with stepPending := c.stepPending + d })
        timeMoved (if s.eth.servo.lock = 0 then setLock s 1 else s)

/-- Without a step at this boundary, steps decided late move up (04 R86); the rounds since a stretch tick are counted
(07 R179). -/
def stepRoll (s : State) : State :=
  s.mapClk fun c => { c with
    roundsSinceStep := if c.roundHeldStep then 1 else min 5 (c.roundsSinceStep + 1)
    roundHeldStep := false
    stepDue := c.stepPending != 0
    stepPending := if c.stepPending = 0 then c.stepLate else c.stepPending
    stepLate := if c.stepPending = 0 then 0 else c.stepLate }

/-- Time at a round boundary. -/
def timeRound (s : State) : State := stepRoll (takeClock (rtcStrobe (taiApply s)))

/-! Round boundary: pair, update and security -/

/-- A raise of the compatibility level whose fuse is programmed takes force (18 R476). -/
def takeRaise (s : State) (x : CompatRaise) : State :=
  let s := forceCompat s x.level
  let s := s.mapSec fun c => { c with
    compatNext := c.compatNext.erase x
    commits := c.commits.filter fun r => r.change != .compat x.level }
  finishOp s x.tok {}

/-- The raises of the round `ended` (18 R476). -/
def takeRaises (s : State) (ended : Nat) : State :=
  (s.sec.compatNext.filter fun x => x.fused && decide (x.round ≤ ended)).foldl takeRaise s

/-- The conditions of confirmation held in the round that ended (17 R467). -/
def qualifies (s : State) (dealOk : Bool) : Bool :=
  dealOk && !s.upd.bad && (match s.sys.mode with
    | .declarer => (silentStages s).all fun x => s.upd.silentAt.contains x
    | .dummy => s.pair.cfgMatch
    | .commissioning => true
    | _ => false)

/-- The update window counts a round (17 R467). -/
def windowRound (s : State) (dealOk : Bool) : State :=
  let s' := if s.upd.rec_.state ≠ 4 ∨ s.sys.mode = .standby ∨ s.sys.mode = .off then s
    else (s.mapUpd fun u => { u with good := if qualifies s dealOk then u.good + 1 else 0 }).writeRec fun r => { r with windowLeft := r.windowLeft - 1 }
  s'.mapUpd fun u => { u with bad := false }

/-- The updated dummy names both digests at the first boundary after its confirmation at which CFG_MATCH is 0 (14 R386). -/
def digestMismatch (s : State) : State :=
  if s.upd.digestDue && s.sys.mode == .dummy && !s.pair.cfgMatch then
    (s.mapUpd fun u => { u with digestDue := false }).event 0x0808 (le 8 0 ++ le 8 s.pair.digest.toNat ++ le 8 s.pair.partnerDigest.toNat)
  else s

/-- The pair at a round boundary: digest, CFG_MATCH, round data, a stale claim's raise (14 R371, R372, R382, R389). -/
def pairRound (s : State) (old : Cfg) (ended : Nat) : State :=
  let s := s.mapPair fun p => { p with digest := cfgDigest s.cfg }
  let s := roundMissed (updateMatch (staleRound s)) ended
  digestMismatch (roundDataSend s old)

/-- The mesh at a round boundary: airtime accounts, a key change, the replica's version (10 R257, R263, R289). -/
def meshRound (s : State) (old : Cfg) : State :=
  let s := radioRound s
  if replicaItems old = replicaItems s.cfg then s else recordsChanged s

/-- The foreground counts measured in the round: figures of the implementation, free within what is admitted (04 R90). -/
def measureRound (s : State) : State :=
  let one (i e : Nat) : Nat × Nat := (e, Config.freeNat (s.fresh + i) % (fgAdmitted s e + 1))
  { s with fresh := s.fresh + 32 }.mapCtl fun c => { c with fgMax := engineCodes.mapIdx one }

/-- The energy, records and estimates of the round `ended`, before anything of the new one (07 R179, 15 R406). -/
def closeRound (s : State) (ended : Nat) : State :=
  let n := s.clk.ticksInRound
  let s := if s.met.running then suitRoundEnd s ended n else s
  declareVolts (profileRound s n).bump

/-- The deal of the new round, or the one in force once more (04 R92, R93). A failure put off at this boundary is answered
at the next one. -/
def dealRound (s : State) (ok : Bool) (ended : Nat) : State :=
  let s := s.mapClk fun c => { c with
    dealConfirmed := ok
    missedDeals := if ok then 0 else c.missedDeals + 1 }
  let s := if ok then takeRaises (newDeal s ended) ended else s
  s.mapCtl fun c => { c with lateFail := [] }

/-- The work of a round boundary in its order (04 R92). -/
def roundWork (s : State) (ok : Bool) : State :=
  let ended := curRound s - 1
  let old := s.cfg
  let s := closeRound (refillRound (markRound s)) ended
  let s := dealRound s ok ended
  let s := deferredStores s
  let s := lightRound (timeRound (storeRate s))
  let s := meshRound (keyExpiry s) old
  let s := windowRound (pairRound s old ended) ok
  let s := if curRound s % 86400 = 0 then adviseRepeat s else s
  let s := measureRound s
  s.mapClk fun c => { c with ticksInRound := 0 }

/-- 0x0103 at its round boundary: the closing checkpoint, then the reset (06 R143, 07 R172). -/
def commandedReset (s : State) : State :=
  if s.sys.warmResetRound.any (fun r => decide (r ≤ curRound s)) then warmReset (closingStop s 4) 0x04 else s

/-- A round boundary of BATTERY_STANDBY: the module sleeps with its recorder in self-refresh, and only its airtime account goes on
(03 R67, R68, 10 R257). -/
def standbyRound (s : State) : State := (dutyRound s).mapClk fun c => { c with ticksInRound := 0 }

/-- Row ROUND_BOUNDARY: cycle 0 of the first tick of a round, once (04 R92). -/
def execRoundBoundary (e : TickEnv) (s : State) : Result :=
  .next (if !ticking s || tickInRound s ≠ 0 || s.clk.ticksInRound = 0 then s
    else if s.sys.mode = .standby then standbyRound s
    else commandedReset (roundWork s e.dealOk))

/-! The stretch tick (04 R84 to R86) -/

/-- Round numbers of what waits for a boundary follow the new numbering: they count rounds, not TAI seconds. -/
def shiftRounds (s : State) (d : Int) : State :=
  let f (r : Nat) : Nat := (Int.ofNat r + d).toNat
  let s := { s with changes := s.changes.map fun (c : Change) => { c with round := f c.round } }
  let s := s.mapSys fun y => { y with warmResetRound := y.warmResetRound.map f }
  let s := s.mapSec fun c => { c with compatNext := c.compatNext.map fun (x : CompatRaise) => { x with round := f x.round } }
  let s := s.mapRtc fun r => { r with setPending := r.setPending.map fun (x : Nat × Nat × Bool) => (x.1, f x.2.1, x.2.2) }
  s.mapPair fun p => { p with
    swapRound := p.swapRound.map f
    swapDummy := p.swapDummy.map f
    roundSeen := f p.roundSeen }

/-- The stretch tick that starts now: it ends on the TCLK edge nearest the first multiple of 125 us of the stepped network
time at least 125 us away (04 R84). -/
def stretchNow (s : State) : State :=
  let d := s.clk.stepPending
  let tb : Int := 125000 * Int.ofNat s.clk.tick + d
  let k := (tb + 249999) / 125000
  let len := max 25000 (((125000 * k - tb) + 2) / 5).toNat
  let new := (k - 1).toNat
  let was := curRound s
  let s := s.mapClk fun c => { c with
    tick := new
    epoch := c.epoch + 1
    stretch := true
    stretchTcl := len
    roundHeldStep := true
    roundsSinceStep := 0
    stepPending := c.stepLate
    stepLate := 0
    stepDue := false }
  let s := shiftRounds s (Int.ofNat (new / 8000) - Int.ofNat was)
  let s := timeMarker s
  let s := s.event 0x0607 (leInt 8 d ++ le 4 s.clk.epoch.toNat ++ le 4 0 ++ le 8 new)
  let s := s.mapMet fun m => { m with winStep := true }
  latchRef (timeMoved s)

/-- Row STRETCH_TICK: a step falls due at the round boundary whose work is done (04 R84, R85). Steps that sum to zero are
none (04 R86). -/
def execStretchTick (_e : TickEnv) (s : State) : Result :=
  .next (if !ticking s || !s.clk.stepDue || s.clk.stepPending = 0 then s
    else stretchNow s)

end Sys2Proof.Machine
end

