-- ==== Sys2Proof/Machine/BootEnd.lean ====
section
/-!
DEFINITION. The end of BOOT (01 R28, Table 1.8, 02 R47, 03 R62, R63, R65, R68, R80, R81, 14 R369, 17 R472).
-/

namespace Sys2Proof.Machine

open Sys2Proof

/-- A boot check, a tamper or the lifecycle ends BOOT in QUARANTINE (01 Tables 1.8 and 1.9, 03 R65, R80). -/
def bootBarred (s : State) : Bool :=
  s.sys.bootCheckFailed != 0 || s.sec.tamper.latched != 0 || lifecycle s == 0 || lifecycle s == 3

/-- The settings are not valid commissioned settings of this module: lifecycle PROVISIONING, none commissioned, or those
of another slot position (01 Table 1.8, 02 R47). -/
def bootUncommissioned (s : State) : Bool :=
  lifecycle s == 1 || !commissioned s.cfg || s.sys.storedSlot.any fun p => p != s.sys.straps

/-- The state in which BOOT ends; none while arbitration waits (01 Table 1.8, 03 R68, R81, 14 R369). Mains absent comes
before QUARANTINE, as R81 has it. -/
def bootOutcome (s : State) : State × Option Mode :=
  if !s.pow.mainsOk then (s, some .standby)
  else if bootBarred s then (s, some .quarantine)
  else if bootUncommissioned s then (s, some .commissioning)
  else arbitrate s

/-- A tamper that woke the module is on the scorecard before it returns to BATTERY_STANDBY (03 R81). -/
def standbyTamper (s : State) : State :=
  if s.sec.tamper.latched = 0 then s
  else s.score 0x04 (le 2 s.sec.tamper.latched.toNat ++ le 8 (s.sec.tamper.times.foldl max 0))

/-- At the end of the first BOOT under a new loader the firmware writes the other copy (17 R472). A copy that still has
the lower version is the old loader's. -/
def otherCopy (s : State) : State :=
  let new := s.upd.copies.getD s.upd.booted LoaderCopy.reset
  let old := s.upd.copies.getD (1 - s.upd.booted) LoaderCopy.reset
  if s.upd.otherDue ∧ old.version.toNat < new.version.toNat then
    s.mapUpd fun u => { u with
      copies := u.copies.set (1 - u.booted) new
      otherDue := false }
  else s

/-- The module is in BOOT with its ticks running. -/
def inBoot (s : State) : Bool := s.sys.mode == .boot && s.sys.booted && ticking s

/-- BOOT may end: the first tick of a round at least 200 ms after the AFE started (03 R62). -/
def bootMayEnd (s : State) : Bool := inBoot s && tickInRound s == 0 && decide (s.clk.afeStart + 1600 ≤ s.now)

/-- The settle is over, the round boundary of R62 having passed, and the module that waited for the winner now reads
ROLE 1 in the partner's words (14 R369). -/
def winnerSeen (s : State) : Bool :=
  inBoot s && tickInRound s != 0 && settledSince s s.clk.afeStart && winnerShown s

/-- Row BOOT_END (03 R62) falls at a tick boundary, a round boundary among them, so the transition takes effect at it.
DEDUCED: a module that waits for the winner's ROLE 1 ends BOOT at a tick boundary, as 01 R28 has it (log 171). -/
def execBootEnd (s : State) : Result :=
  .next (if winnerSeen s then
      match bootOutcome s with
      | (s, some .dummy) => updateMatch (enterMode (otherCopy s) .dummy)
      | _ => s
    else if !bootMayEnd s then s
    else match bootOutcome s with
      | (s, none) => s
      | (s, some m) =>
        let s := otherCopy (if m = .standby then standbyTamper s else s)
        updateMatch (enterMode s m))

end Sys2Proof.Machine
end

