-- ==== Sys2Proof/Machine/Payload.lean ====
section
/-!
DEFINITION. The payloads of the GMP commands read from bytes, field by field in the order of the group tables (R130).
-/

namespace Sys2Proof

open Sys2Proof.Machine

/-- Reads the payload of command 0x0103 (R130). -/
def WarmResetCommandP.read (b : List Byte) : WarmResetCommandP where
  delay := fld b 0 32

/-- Reads the payload of command 0x0106 (R130). -/
def LifecycleAdvanceP.read (b : List Byte) : LifecycleAdvanceP where
  target := fld b 0 8
  rsv := fld b 1 8
  tlen := fld b 2 16
  token := cut b 4 (num b 2 2)

/-- Reads the payload of command 0x0107 (R130). -/
def RaiseCompatibilityLevelP.read (b : List Byte) : RaiseCompatibilityLevelP where
  level := fld b 0 16
  rsv := fld b 2 16

/-- Reads the payload of command 0x0110 (R130). -/
def SessionChallengeP.read (b : List Byte) : SessionChallengeP where
  priv := fld b 0 8
  rsv := fld b 1 24

/-- Reads the payload of command 0x0111 (R130). -/
def SessionProveP.read (b : List Byte) : SessionProveP where
  clen := fld b 0 16
  rsv := fld b 2 16
  chain := cut b 4 (num b 0 2)
  sig := cut b (4 + num b 0 2) 96

/-- Reads the payload of command 0x0112 (R130). -/
def SessionLowerP.read (b : List Byte) : SessionLowerP where
  priv := fld b 0 8
  rsv := fld b 1 24

/-- Reads the payload of command 0x0201 (R130). -/
def FeederQuantitiesP.read (b : List Byte) : FeederQuantitiesP where
  feeder := fld b 0 8
  rsv := fld b 1 24

/-- Reads the payload of command 0x0202 (R130). -/
def EnergyRegistersP.read (b : List Byte) : EnergyRegistersP where
  set := fld b 0 8
  rsv := fld b 1 24

/-- Reads the payload of command 0x0203 (R130). -/
def HarmonicsP.read (b : List Byte) : HarmonicsP where
  channel := fld b 0 8
  first := fld b 1 8
  count := fld b 2 8
  rsv := fld b 3 8

/-- Reads one entry of command 0x0204 at byte `o`. -/
def CorrectionSegmentsE.read (b : List Byte) (o : Nat) : CorrectionSegmentsE where
  brk := fld b (o + 0) 32
  gain := fld b (o + 4) 32
  phase := fld b (o + 8) 32

/-- Reads the payload of command 0x0204 (R130). -/
def CorrectionSegmentsP.read (b : List Byte) : CorrectionSegmentsP where
  channel := fld b 0 8
  rsv := fld b 1 24
  points := (List.range 8).map fun k => CorrectionSegmentsE.read b (4 + 12 * k)

/-- Reads the payload of command 0x0206 (R130). -/
def AccumulationModeP.read (b : List Byte) : AccumulationModeP where
  reg := fld b 0 16
  mode := fld b 2 8
  rsv := fld b 3 8

/-- Reads the payload of command 0x0208 (R130). -/
def PhasorStreamP.read (b : List Byte) : PhasorStreamP where
  enable := fld b 0 8
  ipv := fld b 1 8
  port := fld b 2 16
  addr := cut b 4 16

/-- Reads one entry of command 0x0209 at byte `o`. -/
def AssignSuitCodesE.read (b : List Byte) (o : Nat) : AssignSuitCodesE where
  node := fld b (o + 0) 32
  code := fld b (o + 4) 16
  rsv := fld b (o + 6) 16

/-- Reads the payload of command 0x0209 (R130). -/
def AssignSuitCodesP.read (b : List Byte) : AssignSuitCodesP where
  feeder := fld b 0 8
  rsv := fld b 1 8
  n := fld b 2 16
  items := (List.range (num b 2 2)).map fun k => AssignSuitCodesE.read b (4 + 8 * k)

/-- Reads the payload of command 0x020A (R130). -/
def SuitEstimatesP.read (b : List Byte) : SuitEstimatesP where
  cursor := fld b 0 64
  max := fld b 8 16
  prsv := fld b 10 16
  feeder := fld b 12 8
  rsv := fld b 13 24

/-- Reads the payload of command 0x020B (R130). -/
def GapRecordsP.read (b : List Byte) : GapRecordsP where
  cursor := fld b 0 64
  max := fld b 8 16
  prsv := fld b 10 16

/-- Reads the payload of command 0x0301 (R130). -/
def ConfigureLoopP.read (b : List Byte) : ConfigureLoopP where
  loop := fld b 0 32
  kind := fld b 4 8
  output := fld b 5 8
  opts := fld b 6 16
  pvSrc := fld b 8 16
  ffSrc := fld b 10 16
  rampUp := fld b 12 32
  rampDn := fld b 16 32
  satMs := fld b 20 32
  group := fld b 24 16
  rsv := fld b 26 16

/-- Reads the payload of command 0x0302 (R130). -/
def RemoveLoopP.read (b : List Byte) : RemoveLoopP where
  loop := fld b 0 32

/-- Reads the payload of command 0x0303 (R130). -/
def ShadowCoefficientsP.read (b : List Byte) : ShadowCoefficientsP where
  loop := fld b 0 32
  kp := fld b 4 32
  ki := fld b 8 32
  kd := fld b 12 32
  n1f := fld b 16 16
  n1q := fld b 18 16
  n2f := fld b 20 16
  n2q := fld b 22 16
  kff := fld b 24 32
  outMin := fld b 28 32
  outMax := fld b 32 32

/-- Reads the payload of command 0x0304 (R130). -/
def BankSwapP.read (b : List Byte) : BankSwapP where
  group := fld b 0 16
  rsv := fld b 2 16

/-- Reads the payload of command 0x0305 (R130). -/
def SetPointP.read (b : List Byte) : SetPointP where
  loop := fld b 0 32
  sp := fld b 4 32

/-- Reads the payload of command 0x0306 (R130). -/
def LoopStateP.read (b : List Byte) : LoopStateP where
  loop := fld b 0 32

/-- Reads the payload of command 0x0307 (R130). -/
def ConfigureTalonTraceP.read (b : List Byte) : ConfigureTalonTraceP where
  cp := fld b 0 8
  trace := fld b 1 8
  src := fld b 2 16
  loop := fld b 4 32
  decim := fld b 8 16
  trig := fld b 10 8
  pre := fld b 11 8
  level := fld b 12 32

/-- Reads the payload of command 0x0308 (R130). -/
def ArmTalonP.read (b : List Byte) : ArmTalonP where
  cp := fld b 0 8
  mask := fld b 1 8
  rsv := fld b 2 16

/-- Reads the payload of command 0x0309 (R130). -/
def ReadTalonP.read (b : List Byte) : ReadTalonP where
  cursor := fld b 0 64
  max := fld b 8 16
  prsv := fld b 10 16
  cp := fld b 12 8
  trace := fld b 13 8
  rsv := fld b 14 16

/-- Reads the payload of command 0x0401 (R130). -/
def ConfigureOutputStageP.read (b : List Byte) : ConfigureOutputStageP where
  link := fld b 0 8
  addr := fld b 1 8
  feeder := fld b 2 8
  mode := fld b 3 8

/-- Reads the payload of command 0x0402 (R130). -/
def StageStatusP.read (b : List Byte) : StageStatusP where
  link := fld b 0 8
  addr := fld b 1 8
  rsv := fld b 2 16

/-- Reads the payload of command 0x0403 (R130). -/
def ContactorP.read (b : List Byte) : ContactorP where
  ct := fld b 0 8
  on := fld b 1 8
  rsv := fld b 2 16

/-- Reads the payload of command 0x0404 (R130). -/
def ConfigureStringP.read (b : List Byte) : ConfigureStringP where
  ch := fld b 0 8
  rsv := fld b 1 8
  maxMa := fld b 2 16
  vfMax := fld b 4 16
  probe := fld b 6 16

/-- Reads the payload of command 0x0405 (R130). -/
def StringLevelP.read (b : List Byte) : StringLevelP where
  ch := fld b 0 8
  rsv := fld b 1 8
  level := fld b 2 16
  fade := fld b 4 16
  rsv2 := fld b 6 16

/-- Reads the payload of command 0x0406 (R130). -/
def ConfigureChainPortP.read (b : List Byte) : ConfigureChainPortP where
  port := fld b 0 8
  enum := fld b 1 8
  expect := fld b 2 16

/-- Reads one entry of command 0x0407 at byte `o`. -/
def ChainOutputsE.read (b : List Byte) (o : Nat) : ChainOutputsE where
  l0 := fld b (o + 0) 16
  l1 := fld b (o + 2) 16
  l2 := fld b (o + 4) 16
  l3 := fld b (o + 6) 16

/-- Reads the payload of command 0x0407 (R130). -/
def ChainOutputsP.read (b : List Byte) : ChainOutputsP where
  port := fld b 0 8
  rsv := fld b 1 8
  first := fld b 2 16
  n := fld b 4 16
  rsv2 := fld b 6 16
  items := (List.range (num b 4 2)).map fun k => ChainOutputsE.read b (8 + 8 * k)

/-- Reads the payload of command 0x0409 (R130). -/
def TestOutputP.read (b : List Byte) : TestOutputP where
  target := fld b 0 8
  rsv := fld b 1 8
  index := fld b 2 16
  value := fld b 4 16
  hold := fld b 6 16

/-- Reads the payload of command 0x040A (R130). -/
def SafeLevelP.read (b : List Byte) : SafeLevelP where
  target := fld b 0 8
  rsv := fld b 1 8
  safe := fld b 2 16
  index := fld b 4 32

/-- Reads the payload of command 0x0501 (R130). -/
def AddNodeP.read (b : List Byte) : AddNodeP where
  node := fld b 0 32
  eui := cut b 4 8
  typ := fld b 12 16
  feeder := fld b 14 8
  port := fld b 15 8
  cls := fld b 16 8
  sleepy := fld b 17 8
  rsv := fld b 18 16

/-- Reads the payload of command 0x0502 (R130). -/
def RemoveNodeP.read (b : List Byte) : RemoveNodeP where
  node := fld b 0 32

/-- Reads the payload of command 0x0503 (R130). -/
def NodeStatusP.read (b : List Byte) : NodeStatusP where
  node := fld b 0 32

/-- Reads the payload of command 0x0504 (R130). -/
def AssociationsP.read (b : List Byte) : AssociationsP where
  cursor := fld b 0 64
  max := fld b 8 16
  prsv := fld b 10 16

/-- Reads the payload of command 0x0505 (R130). -/
def ConfirmRegionalProfileP.read (b : List Byte) : ConfirmRegionalProfileP where
  profile := fld b 0 16
  maxA := fld b 2 8
  maxB := fld b 3 8

/-- Reads the payload of command 0x0506 (R130). -/
def DutyCycleAccountsP.read (b : List Byte) : DutyCycleAccountsP where
  port := fld b 0 8
  rsv := fld b 1 24

/-- Reads the payload of command 0x0507 (R130). -/
def NodeLevelP.read (b : List Byte) : NodeLevelP where
  node := fld b 0 32
  level := fld b 4 16
  fade := fld b 6 16
  atTick := fld b 8 64

/-- Reads the payload of command 0x0508 (R130). -/
def PeerSeatsP.read (b : List Byte) : PeerSeatsP where
  seg1 := fld b 0 32
  seg2 := fld b 4 32
  addr1 := cut b 8 16
  addr2 := cut b 24 16

/-- Reads the payload of command 0x0509 (R130). -/
def AdoptP.read (b : List Byte) : AdoptP where
  seg := fld b 0 32
  action := fld b 4 8
  rsv := fld b 5 24

/-- Reads the payload of command 0x0509 (R130). -/
def ReleaseAdoptedP.read (b : List Byte) : ReleaseAdoptedP where
  seg := fld b 0 32
  action := fld b 4 8
  rsv := fld b 5 24

/-- Reads the payload of command 0x0602 (R130). -/
def ConfigurePortP.read (b : List Byte) : ConfigurePortP where
  port := fld b 0 8
  speed := fld b 1 8
  maxf := fld b 2 16
  pflags := fld b 4 32

/-- Reads the payload of command 0x0603 (R130). -/
def ConfigureIeee1588P.read (b : List Byte) : ConfigureIeee1588P where
  clock := fld b 0 8
  steps := fld b 1 8
  domain := fld b 2 8
  ports := fld b 3 8
  rsv := fld b 4 32

/-- Reads the payload of command 0x0604 (R130). -/
def ConfigureTellP.read (b : List Byte) : ConfigureTellP where
  tell := fld b 0 8
  enable := fld b 1 8
  check := fld b 2 16
  mask := cut b 4 16

/-- Reads the payload of command 0x0605 (R130). -/
def TaiUtcOffsetP.read (b : List Byte) : TaiUtcOffsetP where
  offset := fld b 0 16
  rsv := fld b 2 16
  since := fld b 4 64

/-- Reads the payload of command 0x0606 (R130). -/
def SetRealTimeClockP.read (b : List Byte) : SetRealTimeClockP where
  utc := fld b 0 64

/-- Reads the payload of command 0x0607 (R130). -/
def RealTimeClockAlarmP.read (b : List Byte) : RealTimeClockAlarmP where
  alarm := fld b 0 8
  enable := fld b 1 8
  rsv := fld b 2 16
  utc := fld b 4 64

/-- Reads the payload of command 0x0608 (R130). -/
def PortCountersP.read (b : List Byte) : PortCountersP where
  port := fld b 0 8
  clear := fld b 1 8
  rsv := fld b 2 16

/-- Reads one entry of command 0x0701 at byte `o`. -/
def GroupMembersE.read (b : List Byte) (o : Nat) : GroupMembersE where
  node := fld b (o + 0) 32

/-- Reads the payload of command 0x0701 (R130). -/
def GroupMembersP.read (b : List Byte) : GroupMembersP where
  group := fld b 0 32
  mode := fld b 4 8
  rsv := fld b 5 8
  n := fld b 6 16
  nodes := (List.range (num b 6 2)).map fun k => GroupMembersE.read b (8 + 4 * k)

/-- Reads the payload of command 0x0702 (R130). -/
def DeleteGroupP.read (b : List Byte) : DeleteGroupP where
  group := fld b 0 32

/-- Reads the payload of command 0x0703 (R130). -/
def DefineScheduleP.read (b : List Byte) : DefineScheduleP where
  sched := fld b 0 32
  rlen := fld b 4 16
  rsv := fld b 6 16
  rule := cut b 8 (num b 4 2)

/-- Reads the payload of command 0x0704 (R130). -/
def DeleteScheduleP.read (b : List Byte) : DeleteScheduleP where
  sched := fld b 0 32

/-- Reads the payload of command 0x0705 (R130). -/
def ZoneRulesP.read (b : List Byte) : ZoneRulesP where
  zlen := fld b 0 8
  rsv := fld b 1 24
  tz := cut b 4 (num b 0 1)

/-- Reads the payload of command 0x0706 (R130). -/
def ConfigureLightWaveP.read (b : List Byte) : ConfigureLightWaveP where
  wave := fld b 0 16
  rsv := fld b 2 16
  wlen := fld b 4 16
  rsv2 := fld b 6 16
  rcd := cut b 8 (num b 4 2)

/-- Reads the payload of command 0x0707 (R130). -/
def TrafficEventP.read (b : List Byte) : TrafficEventP where
  source := fld b 0 32
  kind := fld b 4 8
  rsv := fld b 5 8
  speed := fld b 6 16
  pos := fld b 8 32
  atTick := fld b 12 64

/-- Reads the payload of command 0x0720 (R130). -/
def ClearGroupOverrideP.read (b : List Byte) : ClearGroupOverrideP where
  group := fld b 0 16
  rsv := fld b 2 16

/-- Reads the payload of command 0x0721 (R130). -/
def GroupOverrideP.read (b : List Byte) : GroupOverrideP where
  group := fld b 0 16
  level := fld b 2 16
  duration := fld b 4 32
  fade := fld b 8 16
  rsv := fld b 10 16

/-- Reads the payload of command 0x0722 (R130). -/
def GroupStateP.read (b : List Byte) : GroupStateP where
  group := fld b 0 16
  rsv := fld b 2 16

/-- Reads the payload of command 0x0803 (R130). -/
def ConfigurePairP.read (b : List Byte) : ConfigurePairP where
  dealer := fld b 0 8
  rsv := fld b 1 24

/-- Reads the payload of command 0x0901 (R130). -/
def SeatingReportP.read (b : List Byte) : SeatingReportP where
  cursor := fld b 0 64
  max := fld b 8 16
  prsv := fld b 10 16

/-- Reads the payload of command 0x0903 (R130). -/
def EventsP.read (b : List Byte) : EventsP where
  cursor := fld b 0 64
  max := fld b 8 16
  prsv := fld b 10 16

/-- Reads the payload of command 0x0904 (R130). -/
def ScorecardP.read (b : List Byte) : ScorecardP where
  cursor := fld b 0 64
  max := fld b 8 16
  prsv := fld b 10 16

/-- Reads the payload of command 0x0905 (R130). -/
def IntervalProfileP.read (b : List Byte) : IntervalProfileP where
  cursor := fld b 0 64
  max := fld b 8 16
  prsv := fld b 10 16
  obj := fld b 12 32

/-- Reads the payload of command 0x0906 (R130). -/
def ObjectSeatP.read (b : List Byte) : ObjectSeatP where
  obj := fld b 0 32

/-- Reads the payload of command 0x0908 (R130). -/
def EraseSettingsP.read (b : List Byte) : EraseSettingsP where
  confirm := fld b 0 32

/-- Reads the payload of command 0x0A02 (R130). -/
def LoadKeyPlaintextP.read (b : List Byte) : LoadKeyPlaintextP where
  slot := fld b 0 8
  typ := fld b 1 8
  mask := fld b 2 8
  usage := fld b 3 8
  expiry := fld b 4 64
  klen := fld b 12 16
  rsv := fld b 14 16
  key := cut b 16 (num b 12 2)

/-- Reads the payload of command 0x0A03 (R130). -/
def StageKeyP.read (b : List Byte) : StageKeyP where
  hand := fld b 0 32
  wrapBy := fld b 4 32
  wlen := fld b 8 16
  rsv := fld b 10 16
  wrapped := cut b 12 (num b 8 2)

/-- Reads the payload of command 0x0A04 (R130). -/
def ConfirmKeyP.read (b : List Byte) : ConfirmKeyP where
  stage := fld b 0 16
  rsv := fld b 2 16
  proof := cut b 4 48

/-- Reads the payload of command 0x0A05 (R130). -/
def CommitKeyP.read (b : List Byte) : CommitKeyP where
  stage := fld b 0 16
  rsv := fld b 2 16

/-- Reads the payload of command 0x0A06 (R130). -/
def DiscardStagedKeyP.read (b : List Byte) : DiscardStagedKeyP where
  stage := fld b 0 16
  rsv := fld b 2 16

/-- Reads the payload of command 0x0A07 (R130). -/
def RevokeRootSlotP.read (b : List Byte) : RevokeRootSlotP where
  slot := fld b 0 8
  rsv := fld b 1 8
  tlen := fld b 2 16
  token := cut b 4 (num b 2 2)

/-- Reads the payload of command 0x0A08 (R130). -/
def OwnershipTransferP.read (b : List Byte) : OwnershipTransferP where
  tlen := fld b 0 16
  rsv := fld b 2 16
  token := cut b 4 (num b 0 2)

/-- Reads the payload of command 0x0A09 (R130). -/
def ClearTamperLatchP.read (b : List Byte) : ClearTamperLatchP where
  sources := fld b 0 16
  rsv := fld b 2 16

/-- Reads the payload of command 0x0A0B (R130). -/
def DebugUnlockP.read (b : List Byte) : DebugUnlockP where
  scope := fld b 0 32
  sig := cut b 4 96

/-- Reads the payload of command 0x0A0C (R130). -/
def ProveIdentityP.read (b : List Byte) : ProveIdentityP where
  nonce := cut b 0 32

/-- Reads the payload of command 0x0B01 (R130). -/
def OpenUpdateSessionP.read (b : List Byte) : OpenUpdateSessionP where
  hash := cut b 0 48
  size := fld b 48 32
  rsv := fld b 52 32

/-- Reads the payload of command 0x0B02 (R130). -/
def ImageBlockP.read (b : List Byte) : ImageBlockP where
  session := fld b 0 32
  offset := fld b 4 32
  data := b.drop 8

/-- Reads the payload of command 0x0B03 (R130). -/
def InstallP.read (b : List Byte) : InstallP where
  session := fld b 0 32
  window := fld b 4 16
  rsv := fld b 6 16

/-- Reads the payload of command 0x0B04 (R130). -/
def AbortP.read (b : List Byte) : AbortP where
  session := fld b 0 32

/-- Reads the payload of command 0x0B06 (R130). -/
def ReplaceLoaderP.read (b : List Byte) : ReplaceLoaderP where
  session := fld b 0 32

/-- Reads the payload of command 0x0B07 (R130). -/
def RelayToPeerP.read (b : List Byte) : RelayToPeerP where
  session := fld b 0 32
  addr := cut b 4 16

end Sys2Proof
end

