-- ==== Sys2Proof/Machine/Poll.lean ====
section
/-!
DEFINITION. The doorbell poll, which reads requests from the rings (05 R103, R106, R109 to R113), and the dummy's replay of
the declarer's requests (14 R371). Each request read is served by the meaning of its command.
-/

namespace Sys2Proof.Machine

open Sys2Proof

/-- The header of a message read on channel `n` (05 Table 5.4). -/
def reqOf (n : Nat) (b : List Byte) : Req where
  ch := BitVec.ofNat 3 n
  txn := fld b 0 32
  len := fld b 6 16
  chan := fld b 8 8
  flags := fld b 9 8
  compat := fld b 0x0A 16
  rsv := fld b 0x0C 32

/-- The request of a command code with its payload; 0x0509 adopts with ACTION 1 and else releases (06 Table 6.11). None for
a code that no command has. -/
def requestOf (cmd : Nat) (r : Req) (b : List Byte) : Option Instr :=
  match cmd with
  | 0x0101 => some (.getIdentity r)
  | 0x0102 => some (.getStatus r)
  | 0x0103 => some (.warmResetCommand r (.read b))
  | 0x0104 => some (.commissioningComplete r)
  | 0x0105 => some (.recommission r)
  | 0x0106 => some (.lifecycleAdvance r (.read b))
  | 0x0107 => some (.raiseCompatibilityLevel r (.read b))
  | 0x0110 => some (.sessionChallenge r (.read b))
  | 0x0111 => some (.sessionProve r (.read b))
  | 0x0112 => some (.sessionLower r (.read b))
  | 0x0113 => some (.channelClose r)
  | 0x0201 => some (.feederQuantities r (.read b))
  | 0x0202 => some (.energyRegisters r (.read b))
  | 0x0203 => some (.harmonics r (.read b))
  | 0x0204 => some (.correctionSegments r (.read b))
  | 0x0205 => some (.metrologyUnseal r)
  | 0x0206 => some (.accumulationMode r (.read b))
  | 0x0207 => some (.metrologyReseal r)
  | 0x0208 => some (.phasorStream r (.read b))
  | 0x0209 => some (.assignSuitCodes r (.read b))
  | 0x020A => some (.suitEstimates r (.read b))
  | 0x020B => some (.gapRecords r (.read b))
  | 0x0301 => some (.configureLoop r (.read b))
  | 0x0302 => some (.removeLoop r (.read b))
  | 0x0303 => some (.shadowCoefficients r (.read b))
  | 0x0304 => some (.bankSwap r (.read b))
  | 0x0305 => some (.setPoint r (.read b))
  | 0x0306 => some (.loopState r (.read b))
  | 0x0307 => some (.configureTalonTrace r (.read b))
  | 0x0308 => some (.armTalon r (.read b))
  | 0x0309 => some (.readTalon r (.read b))
  | 0x0401 => some (.configureOutputStage r (.read b))
  | 0x0402 => some (.stageStatus r (.read b))
  | 0x0403 => some (.contactor r (.read b))
  | 0x0404 => some (.configureString r (.read b))
  | 0x0405 => some (.stringLevel r (.read b))
  | 0x0406 => some (.configureChainPort r (.read b))
  | 0x0407 => some (.chainOutputs r (.read b))
  | 0x0408 => some (.inputs r)
  | 0x0409 => some (.testOutput r (.read b))
  | 0x040A => some (.safeLevel r (.read b))
  | 0x0501 => some (.addNode r (.read b))
  | 0x0502 => some (.removeNode r (.read b))
  | 0x0503 => some (.nodeStatus r (.read b))
  | 0x0504 => some (.associations r (.read b))
  | 0x0505 => some (.confirmRegionalProfile r (.read b))
  | 0x0506 => some (.dutyCycleAccounts r (.read b))
  | 0x0507 => some (.nodeLevel r (.read b))
  | 0x0508 => some (.peerSeats r (.read b))
  | 0x0509 => if num b 4 1 = 1 then some (.adopt r (.read b)) else some (.releaseAdopted r (.read b))
  | 0x0601 => some (.timeStatus r)
  | 0x0602 => some (.configurePort r (.read b))
  | 0x0603 => some (.configureIeee1588 r (.read b))
  | 0x0604 => some (.configureTell r (.read b))
  | 0x0605 => some (.taiUtcOffset r (.read b))
  | 0x0606 => some (.setRealTimeClock r (.read b))
  | 0x0607 => some (.realTimeClockAlarm r (.read b))
  | 0x0608 => some (.portCounters r (.read b))
  | 0x0701 => some (.groupMembers r (.read b))
  | 0x0702 => some (.deleteGroup r (.read b))
  | 0x0703 => some (.defineSchedule r (.read b))
  | 0x0704 => some (.deleteSchedule r (.read b))
  | 0x0705 => some (.zoneRules r (.read b))
  | 0x0706 => some (.configureLightWave r (.read b))
  | 0x0707 => some (.trafficEvent r (.read b))
  | 0x0720 => some (.clearGroupOverride r (.read b))
  | 0x0721 => some (.groupOverride r (.read b))
  | 0x0722 => some (.groupState r (.read b))
  | 0x0801 => some (.pairStatus r)
  | 0x0802 => some (.plannedRoleSwap r)
  | 0x0803 => some (.configurePair r (.read b))
  | 0x0901 => some (.seatingReport r (.read b))
  | 0x0902 => some (.kittyTelemetry r)
  | 0x0903 => some (.events r (.read b))
  | 0x0904 => some (.scorecard r (.read b))
  | 0x0905 => some (.intervalProfile r (.read b))
  | 0x0906 => some (.objectSeat r (.read b))
  | 0x0907 => some (.flushEventRing r)
  | 0x0908 => some (.eraseSettings r (.read b))
  | 0x0A01 => some (.securityStatus r)
  | 0x0A02 => some (.loadKeyPlaintext r (.read b))
  | 0x0A03 => some (.stageKey r (.read b))
  | 0x0A04 => some (.confirmKey r (.read b))
  | 0x0A05 => some (.commitKey r (.read b))
  | 0x0A06 => some (.discardStagedKey r (.read b))
  | 0x0A07 => some (.revokeRootSlot r (.read b))
  | 0x0A08 => some (.ownershipTransfer r (.read b))
  | 0x0A09 => some (.clearTamperLatch r (.read b))
  | 0x0A0A => some (.debugChallenge r)
  | 0x0A0B => some (.debugUnlock r (.read b))
  | 0x0A0C => some (.proveIdentity r (.read b))
  | 0x0B01 => some (.openUpdateSession r (.read b))
  | 0x0B02 => some (.imageBlock r (.read b))
  | 0x0B03 => some (.install r (.read b))
  | 0x0B04 => some (.abort r (.read b))
  | 0x0B05 => some (.updateStatus r)
  | 0x0B06 => some (.replaceLoader r (.read b))
  | 0x0B07 => some (.relayToPeer r (.read b))
  | _ => none

/-- The meaning of a request read. -/
def serve (i : Instr) (s : State) : Result :=
  match i with
  | .getIdentity r => execGetIdentity r s
  | .getStatus r => execGetStatus r s
  | .warmResetCommand r p => execWarmResetCommand r p s
  | .commissioningComplete r => execCommissioningComplete r s
  | .recommission r => execRecommission r s
  | .lifecycleAdvance r p => execLifecycleAdvance r p s
  | .raiseCompatibilityLevel r p => execRaiseCompatibilityLevel r p s
  | .sessionChallenge r p => execSessionChallenge r p s
  | .sessionProve r p => execSessionProve r p s
  | .sessionLower r p => execSessionLower r p s
  | .channelClose r => execChannelClose r s
  | .feederQuantities r p => execFeederQuantities r p s
  | .energyRegisters r p => execEnergyRegisters r p s
  | .harmonics r p => execHarmonics r p s
  | .correctionSegments r p => execCorrectionSegments r p s
  | .metrologyUnseal r => execMetrologyUnseal r s
  | .accumulationMode r p => execAccumulationMode r p s
  | .metrologyReseal r => execMetrologyReseal r s
  | .phasorStream r p => execPhasorStream r p s
  | .assignSuitCodes r p => execAssignSuitCodes r p s
  | .suitEstimates r p => execSuitEstimates r p s
  | .gapRecords r p => execGapRecords r p s
  | .configureLoop r p => execConfigureLoop r p s
  | .removeLoop r p => execRemoveLoop r p s
  | .shadowCoefficients r p => execShadowCoefficients r p s
  | .bankSwap r p => execBankSwap r p s
  | .setPoint r p => execSetPoint r p s
  | .loopState r p => execLoopState r p s
  | .configureTalonTrace r p => execConfigureTalonTrace r p s
  | .armTalon r p => execArmTalon r p s
  | .readTalon r p => execReadTalon r p s
  | .configureOutputStage r p => execConfigureOutputStage r p s
  | .stageStatus r p => execStageStatus r p s
  | .contactor r p => execContactor r p s
  | .configureString r p => execConfigureString r p s
  | .stringLevel r p => execStringLevel r p s
  | .configureChainPort r p => execConfigureChainPort r p s
  | .chainOutputs r p => execChainOutputs r p s
  | .inputs r => execInputs r s
  | .testOutput r p => execTestOutput r p s
  | .safeLevel r p => execSafeLevel r p s
  | .addNode r p => execAddNode r p s
  | .removeNode r p => execRemoveNode r p s
  | .nodeStatus r p => execNodeStatus r p s
  | .associations r p => execAssociations r p s
  | .confirmRegionalProfile r p => execConfirmRegionalProfile r p s
  | .dutyCycleAccounts r p => execDutyCycleAccounts r p s
  | .nodeLevel r p => execNodeLevel r p s
  | .peerSeats r p => execPeerSeats r p s
  | .adopt r p => execAdopt r p s
  | .releaseAdopted r p => execReleaseAdopted r p s
  | .timeStatus r => execTimeStatus r s
  | .configurePort r p => execConfigurePort r p s
  | .configureIeee1588 r p => execConfigureIeee1588 r p s
  | .configureTell r p => execConfigureTell r p s
  | .taiUtcOffset r p => execTaiUtcOffset r p s
  | .setRealTimeClock r p => execSetRealTimeClock r p s
  | .realTimeClockAlarm r p => execRealTimeClockAlarm r p s
  | .portCounters r p => execPortCounters r p s
  | .groupMembers r p => execGroupMembers r p s
  | .deleteGroup r p => execDeleteGroup r p s
  | .defineSchedule r p => execDefineSchedule r p s
  | .deleteSchedule r p => execDeleteSchedule r p s
  | .zoneRules r p => execZoneRules r p s
  | .configureLightWave r p => execConfigureLightWave r p s
  | .trafficEvent r p => execTrafficEvent r p s
  | .clearGroupOverride r p => execClearGroupOverride r p s
  | .groupOverride r p => execGroupOverride r p s
  | .groupState r p => execGroupState r p s
  | .pairStatus r => execPairStatus r s
  | .plannedRoleSwap r => execPlannedRoleSwap r s
  | .configurePair r p => execConfigurePair r p s
  | .seatingReport r p => execSeatingReport r p s
  | .kittyTelemetry r => execKittyTelemetry r s
  | .events r p => execEvents r p s
  | .scorecard r p => execScorecard r p s
  | .intervalProfile r p => execIntervalProfile r p s
  | .objectSeat r p => execObjectSeat r p s
  | .flushEventRing r => execFlushEventRing r s
  | .eraseSettings r p => execEraseSettings r p s
  | .securityStatus r => execSecurityStatus r s
  | .loadKeyPlaintext r p => execLoadKeyPlaintext r p s
  | .stageKey r p => execStageKey r p s
  | .confirmKey r p => execConfirmKey r p s
  | .commitKey r p => execCommitKey r p s
  | .discardStagedKey r p => execDiscardStagedKey r p s
  | .revokeRootSlot r p => execRevokeRootSlot r p s
  | .ownershipTransfer r p => execOwnershipTransfer r p s
  | .clearTamperLatch r p => execClearTamperLatch r p s
  | .debugChallenge r => execDebugChallenge r s
  | .debugUnlock r p => execDebugUnlock r p s
  | .proveIdentity r p => execProveIdentity r p s
  | .openUpdateSession r p => execOpenUpdateSession r p s
  | .imageBlock r p => execImageBlock r p s
  | .install r p => execInstall r p s
  | .abort r p => execAbort r p s
  | .updateStatus r => execUpdateStatus r s
  | .replaceLoader r p => execReplaceLoader r p s
  | .relayToPeer r p => execRelayToPeer r p s
  | _ => .next s

/-- The state that a request leaves. -/
def served (i : Instr) (s : State) : State :=
  match serve i s with
  | .next t => t
  | _ => s

/-- Reads at most one message of channel `n` and serves it (05 R106, R111, R113). -/
def pollChan (s : State) (n : Nat) : State :=
  let c := chan s n
  let have_ := (c.reqPi - c.reqCi).toNat
  if !readable s n || have_ = 0 then s
  else
    let head := ringRead s.hif.window (reqBase n) c.reqCi.toNat 16
    let r := reqOf n head
    let cmd := num head 4 2
    let size := 20 + r.len.toNat
    if 4076 < r.len.toNat ∨ have_ < slotsOf size then
      place (s.onChan n fun c => { c with
        reqCi := c.reqPi
        resync := true }) n (rspMsg s r cmd { status := stBadLength, info := 1, detail := size })
    else
      let all := ringRead s.hif.window (reqBase n) c.reqCi.toNat size
      let s := s.onChan n fun c => { c with reqCi := c.reqCi + BitVec.ofNat 16 (slotsOf size) }
      let crc := crc32 (all.take (size - 4))
      if num all (size - 4) 4 ≠ crc.toNat then place s n (rspMsg s r cmd { status := stBadCrc, detail := crc.toNat })
      else match requestOf cmd r (cut all 16 r.len.toNat) with
        | some i => served i s
        | none => gmp s r { cmd := cmd, len := r.len.toNat } fun _ s => (s, {})

/-- Row DOORBELL_POLL: one of the 16 polls of a tick, channels ascending (05 R106); the sessions of a replaced owner end
first (16 R431). -/
def execDoorbellPoll (s : State) : Result :=
  .next (if !s.clk.running || s.sys.inReset || 16 ≤ s.clk.poll then s
    else
      let s := endOldOwner (s.mapClk fun c => { c with poll := c.poll + 1 })
      if workLost s 0 then s else (List.range 8).foldl pollChan s)

/-! Replay in a dummy (14 R371, 06 R140) -/

/-- The effect of a replayed request; no check of the state and no response (14 R371). -/
def replayed (i : Instr) (s : State) : State :=
  match i with
  | .setPoint _ p => (effSetPoint p s).1
  | .contactor _ p => (effContactor p s).1
  | .stringLevel _ p => (effStringLevel p s).1
  | .chainOutputs _ p => (effChainOutputs p s).1
  | .nodeLevel _ p => (effNodeLevel p s).1
  | .trafficEvent _ p => (effTrafficEvent p s).1
  | .clearGroupOverride _ p => (effClearGroupOverride p s).1
  | .groupOverride _ p => (effGroupOverride p s).1
  | _ => s

/-- The request of a message, header to CRC. -/
def messageOf (b : List Byte) : Option Instr := requestOf (num b 4 2) (reqOf (num b 8 1) b) (cut b 16 (num b 6 2))

/-- A request that the declarer read in the tick before `tick` has its effect here as of that tick. -/
def replayAt (i : Instr) (tick : Nat) (s : State) : State :=
  let back := s.clk.tick - (tick - 1)
  let t := replayed i ({ s with now := s.now - back }.mapClk fun c => { c with tick := c.tick - back })
  { t with now := s.now }.mapClk fun c => { c with tick := s.clk.tick }

/-- An adoption or release of the declarer takes force in the dummy and is committed (14 R371, 06 R136). -/
def replayAdopt (i : Instr) (seg : U32) (action : U8) (s : State) : State :=
  let s := forceAdopt OpTok.none seg action (s.mapCfg (cfgOf i))
  let s := s.mapMesh fun m => { m with adoptTok := m.adoptTok.filter fun x => x.2.1 != OpTok.none }
  requestStore s .nand (anteMj .nand) (.cfg i) none

/-- Row COMMAND_REPLAY_FRAME: a dummy applies the request at the same tick (14 R371). -/
def execCommandReplayFrame (tick : U64) (msg : List Byte) (s : State) : Result :=
  .next (if s.sys.mode ≠ .dummy || !paired s then s
    else match messageOf msg with
      | none => s
      | some (.adopt r p) => replayAdopt (.adopt r p) p.seg p.action s
      | some (.releaseAdopted r p) => replayAdopt (.releaseAdopted r p) p.seg p.action s
      | some i => replayAt i tick.toNat s)

end Sys2Proof.Machine
end

