-- ==== Sys2Proof/Machine/Dispatch.lean ====
section
/-!
DEFINITION. One arm per command: a direct call of its meaning.
-/

namespace Sys2Proof.Machine

open Sys2Proof

def exec (i : Instr) (s : State) : Host.Outcome State Fault Refusal :=
  match i with
  | .getIdentity r => Sys2Proof.Machine.execGetIdentity r s
  | .getStatus r => Sys2Proof.Machine.execGetStatus r s
  | .warmResetCommand r p => Sys2Proof.Machine.execWarmResetCommand r p s
  | .commissioningComplete r => Sys2Proof.Machine.execCommissioningComplete r s
  | .recommission r => Sys2Proof.Machine.execRecommission r s
  | .lifecycleAdvance r p => Sys2Proof.Machine.execLifecycleAdvance r p s
  | .raiseCompatibilityLevel r p => Sys2Proof.Machine.execRaiseCompatibilityLevel r p s
  | .sessionChallenge r p => Sys2Proof.Machine.execSessionChallenge r p s
  | .sessionProve r p => Sys2Proof.Machine.execSessionProve r p s
  | .sessionLower r p => Sys2Proof.Machine.execSessionLower r p s
  | .channelClose r => Sys2Proof.Machine.execChannelClose r s
  | .challengeExpiry ch => Sys2Proof.Machine.execChallengeExpiry ch s
  | .feederQuantities r p => Sys2Proof.Machine.execFeederQuantities r p s
  | .energyRegisters r p => Sys2Proof.Machine.execEnergyRegisters r p s
  | .harmonics r p => Sys2Proof.Machine.execHarmonics r p s
  | .correctionSegments r p => Sys2Proof.Machine.execCorrectionSegments r p s
  | .metrologyUnseal r => Sys2Proof.Machine.execMetrologyUnseal r s
  | .accumulationMode r p => Sys2Proof.Machine.execAccumulationMode r p s
  | .metrologyReseal r => Sys2Proof.Machine.execMetrologyReseal r s
  | .sealTimeout => Sys2Proof.Machine.execSealTimeout s
  | .phasorStream r p => Sys2Proof.Machine.execPhasorStream r p s
  | .assignSuitCodes r p => Sys2Proof.Machine.execAssignSuitCodes r p s
  | .suitEstimates r p => Sys2Proof.Machine.execSuitEstimates r p s
  | .gapRecords r p => Sys2Proof.Machine.execGapRecords r p s
  | .configureLoop r p => Sys2Proof.Machine.execConfigureLoop r p s
  | .removeLoop r p => Sys2Proof.Machine.execRemoveLoop r p s
  | .shadowCoefficients r p => Sys2Proof.Machine.execShadowCoefficients r p s
  | .bankSwap r p => Sys2Proof.Machine.execBankSwap r p s
  | .bankSwapTakeForce => Sys2Proof.Machine.execBankSwapTakeForce s
  | .setPoint r p => Sys2Proof.Machine.execSetPoint r p s
  | .loopState r p => Sys2Proof.Machine.execLoopState r p s
  | .configureTalonTrace r p => Sys2Proof.Machine.execConfigureTalonTrace r p s
  | .armTalon r p => Sys2Proof.Machine.execArmTalon r p s
  | .readTalon r p => Sys2Proof.Machine.execReadTalon r p s
  | .configureOutputStage r p => Sys2Proof.Machine.execConfigureOutputStage r p s
  | .stageStatus r p => Sys2Proof.Machine.execStageStatus r p s
  | .contactor r p => Sys2Proof.Machine.execContactor r p s
  | .configureString r p => Sys2Proof.Machine.execConfigureString r p s
  | .stringLevel r p => Sys2Proof.Machine.execStringLevel r p s
  | .configureChainPort r p => Sys2Proof.Machine.execConfigureChainPort r p s
  | .chainOutputs r p => Sys2Proof.Machine.execChainOutputs r p s
  | .inputs r => Sys2Proof.Machine.execInputs r s
  | .testOutput r p => Sys2Proof.Machine.execTestOutput r p s
  | .testHoldExpiry target index => Sys2Proof.Machine.execTestHoldExpiry target index s
  | .safeLevel r p => Sys2Proof.Machine.execSafeLevel r p s
  | .stageStoreTimeout link addr => Sys2Proof.Machine.execStageStoreTimeout link addr s
  | .addNode r p => Sys2Proof.Machine.execAddNode r p s
  | .removeNode r p => Sys2Proof.Machine.execRemoveNode r p s
  | .nodeStatus r p => Sys2Proof.Machine.execNodeStatus r p s
  | .associations r p => Sys2Proof.Machine.execAssociations r p s
  | .confirmRegionalProfile r p => Sys2Proof.Machine.execConfirmRegionalProfile r p s
  | .dutyCycleAccounts r p => Sys2Proof.Machine.execDutyCycleAccounts r p s
  | .nodeLevel r p => Sys2Proof.Machine.execNodeLevel r p s
  | .peerSeats r p => Sys2Proof.Machine.execPeerSeats r p s
  | .adopt r p => Sys2Proof.Machine.execAdopt r p s
  | .releaseAdopted r p => Sys2Proof.Machine.execReleaseAdopted r p s
  | .timeStatus r => Sys2Proof.Machine.execTimeStatus r s
  | .configurePort r p => Sys2Proof.Machine.execConfigurePort r p s
  | .configureIeee1588 r p => Sys2Proof.Machine.execConfigureIeee1588 r p s
  | .configureTell r p => Sys2Proof.Machine.execConfigureTell r p s
  | .taiUtcOffset r p => Sys2Proof.Machine.execTaiUtcOffset r p s
  | .setRealTimeClock r p => Sys2Proof.Machine.execSetRealTimeClock r p s
  | .realTimeClockAlarm r p => Sys2Proof.Machine.execRealTimeClockAlarm r p s
  | .portCounters r p => Sys2Proof.Machine.execPortCounters r p s
  | .groupMembers r p => Sys2Proof.Machine.execGroupMembers r p s
  | .deleteGroup r p => Sys2Proof.Machine.execDeleteGroup r p s
  | .defineSchedule r p => Sys2Proof.Machine.execDefineSchedule r p s
  | .deleteSchedule r p => Sys2Proof.Machine.execDeleteSchedule r p s
  | .zoneRules r p => Sys2Proof.Machine.execZoneRules r p s
  | .configureLightWave r p => Sys2Proof.Machine.execConfigureLightWave r p s
  | .trafficEvent r p => Sys2Proof.Machine.execTrafficEvent r p s
  | .clearGroupOverride r p => Sys2Proof.Machine.execClearGroupOverride r p s
  | .groupOverride r p => Sys2Proof.Machine.execGroupOverride r p s
  | .groupState r p => Sys2Proof.Machine.execGroupState r p s
  | .overrideExpiry group => Sys2Proof.Machine.execOverrideExpiry group s
  | .pairStatus r => Sys2Proof.Machine.execPairStatus r s
  | .plannedRoleSwap r => Sys2Proof.Machine.execPlannedRoleSwap r s
  | .configurePair r p => Sys2Proof.Machine.execConfigurePair r p s
  | .seatingReport r p => Sys2Proof.Machine.execSeatingReport r p s
  | .kittyTelemetry r => Sys2Proof.Machine.execKittyTelemetry r s
  | .events r p => Sys2Proof.Machine.execEvents r p s
  | .scorecard r p => Sys2Proof.Machine.execScorecard r p s
  | .intervalProfile r p => Sys2Proof.Machine.execIntervalProfile r p s
  | .objectSeat r p => Sys2Proof.Machine.execObjectSeat r p s
  | .flushEventRing r => Sys2Proof.Machine.execFlushEventRing r s
  | .eraseSettings r p => Sys2Proof.Machine.execEraseSettings r p s
  | .securityStatus r => Sys2Proof.Machine.execSecurityStatus r s
  | .loadKeyPlaintext r p => Sys2Proof.Machine.execLoadKeyPlaintext r p s
  | .stageKey r p => Sys2Proof.Machine.execStageKey r p s
  | .confirmKey r p => Sys2Proof.Machine.execConfirmKey r p s
  | .commitKey r p => Sys2Proof.Machine.execCommitKey r p s
  | .discardStagedKey r p => Sys2Proof.Machine.execDiscardStagedKey r p s
  | .keyStageExpiry stage => Sys2Proof.Machine.execKeyStageExpiry stage s
  | .revokeRootSlot r p => Sys2Proof.Machine.execRevokeRootSlot r p s
  | .ownershipTransfer r p => Sys2Proof.Machine.execOwnershipTransfer r p s
  | .clearTamperLatch r p => Sys2Proof.Machine.execClearTamperLatch r p s
  | .debugChallenge r => Sys2Proof.Machine.execDebugChallenge r s
  | .debugUnlock r p => Sys2Proof.Machine.execDebugUnlock r p s
  | .proveIdentity r p => Sys2Proof.Machine.execProveIdentity r p s
  | .openUpdateSession r p => Sys2Proof.Machine.execOpenUpdateSession r p s
  | .imageBlock r p => Sys2Proof.Machine.execImageBlock r p s
  | .install r p => Sys2Proof.Machine.execInstall r p s
  | .abort r p => Sys2Proof.Machine.execAbort r p s
  | .updateStatus r => Sys2Proof.Machine.execUpdateStatus r s
  | .replaceLoader r p => Sys2Proof.Machine.execReplaceLoader r p s
  | .relayToPeer r p => Sys2Proof.Machine.execRelayToPeer r p s
  | .updateSessionDrop => Sys2Proof.Machine.execUpdateSessionDrop s
  | .updatePhaseComplete readOk => Sys2Proof.Machine.execUpdatePhaseComplete readOk s
  | .leaveService vhuMv => Sys2Proof.Machine.execLeaveService vhuMv s
  | .updateConfirm => Sys2Proof.Machine.execUpdateConfirm s
  | .windowExpiry => Sys2Proof.Machine.execWindowExpiry s
  | .channelClaim bus ch => Sys2Proof.Machine.execChannelClaim bus ch s
  | .channelRelease bus ch => Sys2Proof.Machine.execChannelRelease bus ch s
  | .doorbell bus ch v => Sys2Proof.Machine.execDoorbell bus ch v s
  | .responseConsumed bus ch v => Sys2Proof.Machine.execResponseConsumed bus ch v s
  | .irqStatusClear v => Sys2Proof.Machine.execIrqStatusClear v s
  | .channelStatusClear bus ch v => Sys2Proof.Machine.execChannelStatusClear bus ch v s
  | .tickLoRead => Sys2Proof.Machine.execTickLoRead s
  | .registerWrite a => Sys2Proof.Machine.execRegisterWrite a s
  | .qspiTransaction q => Sys2Proof.Machine.execQspiTransaction q s
  | .perstN => Sys2Proof.Machine.execPerstN s
  | .doorbellPoll => Sys2Proof.Machine.execDoorbellPoll s
  | .completionNotice ch session txn => Sys2Proof.Machine.execCompletionNotice ch session txn s
  | .noticeWaitRelease ch => Sys2Proof.Machine.execNoticeWaitRelease ch s
  | .cacheEntryExpiry ch txn => Sys2Proof.Machine.execCacheEntryExpiry ch txn s
  | .remoteHandshakeRequest h => Sys2Proof.Machine.execRemoteHandshakeRequest h s
  | .remoteHandshakeProof h => Sys2Proof.Machine.execRemoteHandshakeProof h s
  | .handshakeTimeout sid => Sys2Proof.Machine.execHandshakeTimeout sid s
  | .remoteDatagram d => Sys2Proof.Machine.execRemoteDatagram d s
  | .remoteSessionTimeout sid => Sys2Proof.Machine.execRemoteSessionTimeout sid s
  | .credentialExpiry sid => Sys2Proof.Machine.execCredentialExpiry sid s
  | .ipFragment f => Sys2Proof.Machine.execIpFragment f s
  | .reassemblyTimeout key => Sys2Proof.Machine.execReassemblyTimeout key s
  | .servicePortConnect => Sys2Proof.Machine.execServicePortConnect s
  | .servicePortDisconnect ch => Sys2Proof.Machine.execServicePortDisconnect ch s
  | .powerOn e => Sys2Proof.Machine.execPowerOn e s
  | .bootEnd => Sys2Proof.Machine.execBootEnd s
  | .resetN samples => Sys2Proof.Machine.execResetN samples s
  | .resetRelease e => Sys2Proof.Machine.execResetRelease e s
  | .powerFailWarning vinMv => Sys2Proof.Machine.execPowerFailWarning vinMv s
  | .warningClear vinMv => Sys2Proof.Machine.execWarningClear vinMv s
  | .stopThreshold vhuMv => Sys2Proof.Machine.execStopThreshold vhuMv s
  | .mainsLoss => Sys2Proof.Machine.execMainsLoss s
  | .mainsReturn ok => Sys2Proof.Machine.execMainsReturn ok s
  | .mainsBreak ms => Sys2Proof.Machine.execMainsBreak ms s
  | .automaticRestart => Sys2Proof.Machine.execAutomaticRestart s
  | .roundWatchdog => Sys2Proof.Machine.execRoundWatchdog s
  | .lockstepMiscompare engine => Sys2Proof.Machine.execLockstepMiscompare engine s
  | .uncorrectableEcc e => Sys2Proof.Machine.execUncorrectableEcc e s
  | .engineLost engine => Sys2Proof.Machine.execEngineLost engine s
  | .itemStopped engine item => Sys2Proof.Machine.execItemStopped engine item s
  | .stackChargeTimeout vhuMv => Sys2Proof.Machine.execStackChargeTimeout vhuMv s
  | .stackChargeRetry vhuMv => Sys2Proof.Machine.execStackChargeRetry vhuMv s
  | .stackChargeMeasure ticks => Sys2Proof.Machine.execStackChargeMeasure ticks s
  | .stackTest m => Sys2Proof.Machine.execStackTest m s
  | .anteAlarm => Sys2Proof.Machine.execAnteAlarm s
  | .storeComplete kind => Sys2Proof.Machine.execStoreComplete kind s
  | .fuseCountedChange vhuMv => Sys2Proof.Machine.execFuseCountedChange vhuMv s
  | .tickBoundary e => Sys2Proof.Machine.execTickBoundary e s
  | .sampleInstant x => Sys2Proof.Machine.execSampleInstant x s
  | .zcTimeout ch => Sys2Proof.Machine.execZcTimeout ch s
  | .controlInputPublish => Sys2Proof.Machine.execControlInputPublish s
  | .outputRelease => Sys2Proof.Machine.execOutputRelease s
  | .actuatorSlot link slot => Sys2Proof.Machine.execActuatorSlot link slot s
  | .statusReply link slot f => Sys2Proof.Machine.execStatusReply link slot f s
  | .safeReleaseTimer output => Sys2Proof.Machine.execSafeReleaseTimer output s
  | .satExpiry loop => Sys2Proof.Machine.execSatExpiry loop s
  | .contactorDwellEnd ct => Sys2Proof.Machine.execContactorDwellEnd ct s
  | .contactorTrip ct => Sys2Proof.Machine.execContactorTrip ct s
  | .pwmPeriod e => Sys2Proof.Machine.execPwmPeriod e s
  | .probePulse ch ma sinkMv => Sys2Proof.Machine.execProbePulse ch ma sinkMv s
  | .adjShortTest shorts => Sys2Proof.Machine.execAdjShortTest shorts s
  | .supplyFault low => Sys2Proof.Machine.execSupplyFault low s
  | .sifichainFrame => Sys2Proof.Machine.execSifichainFrame s
  | .chainReturnCheck port r => Sys2Proof.Machine.execChainReturnCheck port r s
  | .lightSensorRead => Sys2Proof.Machine.execLightSensorRead s
  | .lightSensorResult sensor vals => Sys2Proof.Machine.execLightSensorResult sensor vals s
  | .aggregationWindow => Sys2Proof.Machine.execAggregationWindow s
  | .calibrationSlot m => Sys2Proof.Machine.execCalibrationSlot m s
  | .phasorReport => Sys2Proof.Machine.execPhasorReport s
  | .suitPeriodEnd => Sys2Proof.Machine.execSuitPeriodEnd s
  | .aliveMark => Sys2Proof.Machine.execAliveMark s
  | .checkpoint => Sys2Proof.Machine.execCheckpoint s
  | .roundBoundary e => Sys2Proof.Machine.execRoundBoundary e s
  | .stretchTick e => Sys2Proof.Machine.execStretchTick e s
  | .lanternCommandHandover => Sys2Proof.Machine.execLanternCommandHandover s
  | .scheduleStep => Sys2Proof.Machine.execScheduleStep s
  | .intervalClose => Sys2Proof.Machine.execIntervalClose s
  | .connectionEvent node => Sys2Proof.Machine.execConnectionEvent node s
  | .ackTimeout node => Sys2Proof.Machine.execAckTimeout node s
  | .lernasFrameReceive f => Sys2Proof.Machine.execLernasFrameReceive f s
  | .supervisionTimeout node => Sys2Proof.Machine.execSupervisionTimeout node s
  | .beacon port => Sys2Proof.Machine.execBeacon port s
  | .standbyBeacon => Sys2Proof.Machine.execStandbyBeacon s
  | .fragmentTimeout src tag => Sys2Proof.Machine.execFragmentTimeout src tag s
  | .joinReq j => Sys2Proof.Machine.execJoinReq j s
  | .levelAck node level round => Sys2Proof.Machine.execLevelAck node level round s
  | .safeAck node safe => Sys2Proof.Machine.execSafeAck node safe s
  | .status m => Sys2Proof.Machine.execStatus m s
  | .presence m => Sys2Proof.Machine.execPresence m s
  | .associationCommit => Sys2Proof.Machine.execAssociationCommit s
  | .replicaSend seg => Sys2Proof.Machine.execReplicaSend seg s
  | .replica m => Sys2Proof.Machine.execReplica m s
  | .replicaAck seg version part => Sys2Proof.Machine.execReplicaAck seg version part s
  | .replicaRequest sess seg owner => Sys2Proof.Machine.execReplicaRequest sess seg owner s
  | .keepalive seg => Sys2Proof.Machine.execKeepalive seg s
  | .keepaliveSend seg => Sys2Proof.Machine.execKeepaliveSend seg s
  | .relay seg msg => Sys2Proof.Machine.execRelay seg msg s
  | .replicaPartResend seg => Sys2Proof.Machine.execReplicaPartResend seg s
  | .peerSilent seg => Sys2Proof.Machine.execPeerSilent seg s
  | .frameReceive f => Sys2Proof.Machine.execFrameReceive f s
  | .bridgeAgeing mac => Sys2Proof.Machine.execBridgeAgeing mac s
  | .pause f => Sys2Proof.Machine.execPause f s
  | .pauseExpiry port cyc => Sys2Proof.Machine.execPauseExpiry port cyc s
  | .pauseWatchdog port cyc => Sys2Proof.Machine.execPauseWatchdog port cyc s
  | .preemptVerify port answered => Sys2Proof.Machine.execPreemptVerify port answered s
  | .tsExpiry port => Sys2Proof.Machine.execTsExpiry port s
  | .sfpSignalChange modAbs los txFault => Sys2Proof.Machine.execSfpSignalChange modAbs los txFault s
  | .tellMatch port frame => Sys2Proof.Machine.execTellMatch port frame s
  | .ptpSync m => Sys2Proof.Machine.execPtpSync m s
  | .ptpFollowUp m => Sys2Proof.Machine.execPtpFollowUp m s
  | .ptpDelayReq m => Sys2Proof.Machine.execPtpDelayReq m s
  | .ptpDelayResp m => Sys2Proof.Machine.execPtpDelayResp m s
  | .ptpPdelayReq m => Sys2Proof.Machine.execPtpPdelayReq m s
  | .ptpPdelayResp m => Sys2Proof.Machine.execPtpPdelayResp m s
  | .ptpPdelayRespFollowUp m => Sys2Proof.Machine.execPtpPdelayRespFollowUp m s
  | .ptpAnnounce m => Sys2Proof.Machine.execPtpAnnounce m s
  | .announceTimeout port => Sys2Proof.Machine.execAnnounceTimeout port s
  | .ptpMasterSend port => Sys2Proof.Machine.execPtpMasterSend port s
  | .holdoverEntry => Sys2Proof.Machine.execHoldoverEntry s
  | .rtcSecond => Sys2Proof.Machine.execRtcSecond s
  | .rtcAlarmMatch => Sys2Proof.Machine.execRtcAlarmMatch s
  | .oscStop => Sys2Proof.Machine.execOscStop s
  | .rtcSupplyLow mv => Sys2Proof.Machine.execRtcSupplyLow mv s
  | .rtcShadowRead offset => Sys2Proof.Machine.execRtcShadowRead offset s
  | .rtcYearRead => Sys2Proof.Machine.execRtcYearRead s
  | .rtcSecWrite v => Sys2Proof.Machine.execRtcSecWrite v s
  | .rtcFieldWrite offset v => Sys2Proof.Machine.execRtcFieldWrite offset v s
  | .rtcStatusClear v => Sys2Proof.Machine.execRtcStatusClear v s
  | .rtcCompare => Sys2Proof.Machine.execRtcCompare s
  | .rtcRewrite => Sys2Proof.Machine.execRtcRewrite s
  | .leapSecond => Sys2Proof.Machine.execLeapSecond s
  | .vbakCheck mv => Sys2Proof.Machine.execVbakCheck mv s
  | .heartbeatToggle m => Sys2Proof.Machine.execHeartbeatToggle m s
  | .bidWord w => Sys2Proof.Machine.execBidWord w s
  | .heartbeatLoss cyc => Sys2Proof.Machine.execHeartbeatLoss cyc s
  | .bidWordsLoss cyc => Sys2Proof.Machine.execBidWordsLoss cyc s
  | .p3Silent cyc => Sys2Proof.Machine.execP3Silent cyc s
  | .takeover cyc => Sys2Proof.Machine.execTakeover cyc s
  | .takeoverRequest => Sys2Proof.Machine.execTakeoverRequest s
  | .dealerGrant cyc => Sys2Proof.Machine.execDealerGrant cyc s
  | .dealerRefuse => Sys2Proof.Machine.execDealerRefuse s
  | .dealerDemote => Sys2Proof.Machine.execDealerDemote s
  | .dealerWordSend m => Sys2Proof.Machine.execDealerWordSend m s
  | .dealerLost cyc => Sys2Proof.Machine.execDealerLost cyc s
  | .demotion => Sys2Proof.Machine.execDemotion s
  | .staleClaimRaise => Sys2Proof.Machine.execStaleClaimRaise s
  | .autoSwap => Sys2Proof.Machine.execAutoSwap s
  | .plannedSwapExecute => Sys2Proof.Machine.execPlannedSwapExecute s
  | .tickStateFrameSend => Sys2Proof.Machine.execTickStateFrameSend s
  | .tickStateFrame f => Sys2Proof.Machine.execTickStateFrame f s
  | .commandReplayFrame tick msg => Sys2Proof.Machine.execCommandReplayFrame tick msg s
  | .roundDataFrame f => Sys2Proof.Machine.execRoundDataFrame f s
  | .roundDataTimeout => Sys2Proof.Machine.execRoundDataTimeout s
  | .eventRingFlush => Sys2Proof.Machine.execEventRingFlush s
  | .flushComplete => Sys2Proof.Machine.execFlushComplete s
  | .sramScrub hits => Sys2Proof.Machine.execSramScrub hits s
  | .dramScrub hits => Sys2Proof.Machine.execDramScrub hits s
  | .mramScrub hits => Sys2Proof.Machine.execMramScrub hits s
  | .norScrub bad => Sys2Proof.Machine.execNorScrub bad s
  | .norRefresh sector => Sys2Proof.Machine.execNorRefresh sector s
  | .nandRetentionRead block bits r => Sys2Proof.Machine.execNandRetentionRead block bits r s
  | .tamper source active => Sys2Proof.Machine.execTamper source active s
  | .servicePortMessage ch msg => Sys2Proof.Machine.execServicePortMessage ch msg s
  | .partnerHeartbeatEdge high cyc => Sys2Proof.Machine.execPartnerHeartbeatEdge high cyc s
  | .p3SyncGained => Sys2Proof.Machine.execP3SyncGained s
  | .dealerAliveReturn => Sys2Proof.Machine.execDealerAliveReturn s
  | .moduleToDealerWord w => Sys2Proof.Machine.execModuleToDealerWord w s
  | .imageWriteComplete hashOk => Sys2Proof.Machine.execImageWriteComplete hashOk s
  | .imageWriteAnteRetry vhuMv => Sys2Proof.Machine.execImageWriteAnteRetry vhuMv s
  | .peerHandshakeResponse h => Sys2Proof.Machine.execPeerHandshakeResponse h s
  | .lidTemperature dc => Sys2Proof.Machine.execLidTemperature dc s
  | .rfMismatch port => Sys2Proof.Machine.execRfMismatch port s

end Sys2Proof.Machine
end

