-- ==== Sys2Proof/Machine/Pins.lean ====
section
/-!
DEFINITION. The module's output pins as its state drives them (02 R32, R43, R46, R48, R50 to R52, Table 2.10, 05 R107,
09 R228, R239).
-/

namespace Sys2Proof.Machine

open Sys2Proof

/-- What a pin is driven to; an open-drain output that is released is high-impedance. -/
inductive PinLevel where
  | low
  | high
  | hiZ
  deriving DecidableEq, Repr

/-- MOD_OK, open drain: released in COMMISSIONING, DECLARER and DUMMY, low otherwise (02 R32, R46). A module that draws
nothing drives nothing; its pull-up to 3V3_AUX then reads not OK. -/
def modOk (s : State) : PinLevel :=
  if !s.pow.drawing then .hiZ
  else if s.sys.inReset then .low
  else match s.sys.mode with
    | .commissioning | .declarer | .dummy => .hiZ
    | _ => .low

/-- 3V3_AUX supplies; it is off in OFF (02 R46). -/
def aux3v3On (s : State) : Bool := s.pow.drawing && s.sys.mode != .off

/-- The carrier reads MOD_OK, pulled up to 3V3_AUX, as OK (02 R46). -/
def modOkReads (s : State) : Bool := aux3v3On s && modOk s == .hiZ

/-- SCn_DO between frames: driven low; high-impedance in DUMMY, in reset, unpowered, and where 02 R52 keeps one of a pair
from driving it; a module in the dealer role never drives it (02 Table 2.9, Table 2.10, R51, R52). -/
def chainIdle (s : State) (port : Nat) : PinLevel :=
  if !s.pow.drawing || s.sys.inReset || isDealer s then .hiZ
  else match s.sys.mode with
    | .off => .hiZ
    | .dummy => .hiZ
    | .declarer => .low
    | _ => if paired s && !chainDrives s port then .hiZ else .low

/-- ASC_INH: high inhibits; high-impedance when not driven (02 Table 2.10, 09 R239). -/
def ascInhPin (s : State) : PinLevel :=
  match s.outs.ascInh with
  | none => .hiZ
  | some true => .high
  | some false => .low

/-- ASC_CTL in mV, 2.0 V for 10,000; none while it is high-impedance (02 Table 2.10, 09 R239). -/
def ascCtlMv (s : State) : Option Rat := s.outs.ascCtl.map fun y => (y : Rat) * 2000 / 10000

/-- CTn, a high-side switch from VCT: it sources while energised and leaks at most otherwise (02 R43, Table 2.10, 09 R228). -/
def contactorPin (s : State) (n : Nat) : PinLevel := if energised s n then .high else .hiZ

/-- Sink LSn conducts or may conduct; otherwise it is high-impedance (02 R51, R52, 09 R236, R238). -/
def sinkDriven (s : State) (n : Nat) : Bool := (stringDrive s n).isSome

/-- QS_IRQ_N, open drain, is held low while an enabled flag of HIF_IRQ_STATUS is set (05 R107). -/
def qsIrqN (s : State) : PinLevel := if s.hif.irqStatus &&& s.hif.irqEnable = 0 then .hiZ else .low

/-- BID_HBO (02 R50, 14 R366); an unpowered module drives nothing, and reads as low at its partner. -/
def bidHbo (s : State) : PinLevel := if !s.pow.drawing then .hiZ else if s.pair.hbo then .high else .low

/-- The termination of an actuator link is on: always in reset, then as configured (02 Table 2.10, 09 R225). -/
def terminated (s : State) (link : Nat) : Bool := s.outs.term.getD link true

end Sys2Proof.Machine
end

