-- ==== Sys2Proof/WellFormed.lean ====
section
/-!
DEFINITION. The shape a command has: a request whose LEN counts its payload and whose lists have the lengths its fields
give them (05 Table 5.4, 06 R130), and events whose numbers lie in the ranges the spec gives the ports, links, channels,
slots and cycles they name. `exec` gives every command a meaning, well-formed or not: a request of another length is
answered BAD_LENGTH, and an event of a thing that does not exist changes nothing.
-/

namespace Sys2Proof

open Sys2Proof.Machine

/-- LEN of a request counts the bytes of its payload (05 Table 5.4). -/
def lenOk (r : Req) (i : Instr) : Bool :=
  match requestParts i with
  | none => false
  | some (_, _, b) => r.len.toNat == b.length

/-- A time field of the clock: SEC to YEAR, CONTROL, CAL and the alarms are at offsets that are multiples of 4 (12 Table 12.1). -/
def rtcOffset (o : U8) : Bool := o.toNat % 4 == 0

/-- A command has the shape the spec gives it. -/
def Instr.wf (i : Instr) : Bool :=
  match i with
  | .getIdentity r => lenOk r (.getIdentity r)
  | .getStatus r => lenOk r (.getStatus r)
  | .warmResetCommand r p => lenOk r (.warmResetCommand r p)
  | .commissioningComplete r => lenOk r (.commissioningComplete r)
  | .recommission r => lenOk r (.recommission r)
  | .lifecycleAdvance r p => lenOk r (.lifecycleAdvance r p) && (p.token.length == p.tlen.toNat)
  | .raiseCompatibilityLevel r p => lenOk r (.raiseCompatibilityLevel r p)
  | .sessionChallenge r p => lenOk r (.sessionChallenge r p)
  | .sessionProve r p => lenOk r (.sessionProve r p) && (p.chain.length == p.clen.toNat) && (p.sig.length == 96)
  | .sessionLower r p => lenOk r (.sessionLower r p)
  | .channelClose r => lenOk r (.channelClose r)
  | .challengeExpiry _ => true
  | .feederQuantities r p => lenOk r (.feederQuantities r p)
  | .energyRegisters r p => lenOk r (.energyRegisters r p)
  | .harmonics r p => lenOk r (.harmonics r p)
  | .correctionSegments r p => lenOk r (.correctionSegments r p) && (p.points.length == 8)
  | .metrologyUnseal r => lenOk r (.metrologyUnseal r)
  | .accumulationMode r p => lenOk r (.accumulationMode r p)
  | .metrologyReseal r => lenOk r (.metrologyReseal r)
  | .sealTimeout => true
  | .phasorStream r p => lenOk r (.phasorStream r p) && (p.addr.length == 16)
  | .assignSuitCodes r p => lenOk r (.assignSuitCodes r p) && (p.items.length == p.n.toNat)
  | .suitEstimates r p => lenOk r (.suitEstimates r p)
  | .gapRecords r p => lenOk r (.gapRecords r p)
  | .configureLoop r p => lenOk r (.configureLoop r p)
  | .removeLoop r p => lenOk r (.removeLoop r p)
  | .shadowCoefficients r p => lenOk r (.shadowCoefficients r p)
  | .bankSwap r p => lenOk r (.bankSwap r p)
  | .bankSwapTakeForce => true
  | .setPoint r p => lenOk r (.setPoint r p)
  | .loopState r p => lenOk r (.loopState r p)
  | .configureTalonTrace r p => lenOk r (.configureTalonTrace r p)
  | .armTalon r p => lenOk r (.armTalon r p)
  | .readTalon r p => lenOk r (.readTalon r p)
  | .configureOutputStage r p => lenOk r (.configureOutputStage r p)
  | .stageStatus r p => lenOk r (.stageStatus r p)
  | .contactor r p => lenOk r (.contactor r p)
  | .configureString r p => lenOk r (.configureString r p)
  | .stringLevel r p => lenOk r (.stringLevel r p)
  | .configureChainPort r p => lenOk r (.configureChainPort r p)
  | .chainOutputs r p => lenOk r (.chainOutputs r p) && (p.items.length == p.n.toNat)
  | .inputs r => lenOk r (.inputs r)
  | .testOutput r p => lenOk r (.testOutput r p)
  | .testHoldExpiry target _ => decide (target ≤ 4)
  | .safeLevel r p => lenOk r (.safeLevel r p)
  | .stageStoreTimeout link addr => decide (link < 2) && decide (addr < 16)
  | .addNode r p => lenOk r (.addNode r p) && (p.eui.length == 8)
  | .removeNode r p => lenOk r (.removeNode r p)
  | .nodeStatus r p => lenOk r (.nodeStatus r p)
  | .associations r p => lenOk r (.associations r p)
  | .confirmRegionalProfile r p => lenOk r (.confirmRegionalProfile r p)
  | .dutyCycleAccounts r p => lenOk r (.dutyCycleAccounts r p)
  | .nodeLevel r p => lenOk r (.nodeLevel r p)
  | .peerSeats r p => lenOk r (.peerSeats r p) && (p.addr1.length == 16) && (p.addr2.length == 16)
  | .adopt r p => lenOk r (.adopt r p) && (p.action == 1)
  | .releaseAdopted r p => lenOk r (.releaseAdopted r p) && (p.action != 1)
  | .timeStatus r => lenOk r (.timeStatus r)
  | .configurePort r p => lenOk r (.configurePort r p)
  | .configureIeee1588 r p => lenOk r (.configureIeee1588 r p)
  | .configureTell r p => lenOk r (.configureTell r p) && (p.mask.length == 16)
  | .taiUtcOffset r p => lenOk r (.taiUtcOffset r p)
  | .setRealTimeClock r p => lenOk r (.setRealTimeClock r p)
  | .realTimeClockAlarm r p => lenOk r (.realTimeClockAlarm r p)
  | .portCounters r p => lenOk r (.portCounters r p)
  | .groupMembers r p => lenOk r (.groupMembers r p) && (p.nodes.length == p.n.toNat)
  | .deleteGroup r p => lenOk r (.deleteGroup r p)
  | .defineSchedule r p => lenOk r (.defineSchedule r p) && (p.rule.length == p.rlen.toNat)
  | .deleteSchedule r p => lenOk r (.deleteSchedule r p)
  | .zoneRules r p => lenOk r (.zoneRules r p) && (p.tz.length == p.zlen.toNat)
  | .configureLightWave r p => lenOk r (.configureLightWave r p) && (p.rcd.length == p.wlen.toNat)
  | .trafficEvent r p => lenOk r (.trafficEvent r p)
  | .clearGroupOverride r p => lenOk r (.clearGroupOverride r p)
  | .groupOverride r p => lenOk r (.groupOverride r p)
  | .groupState r p => lenOk r (.groupState r p)
  | .overrideExpiry group => decide (group < 0xF010)
  | .pairStatus r => lenOk r (.pairStatus r)
  | .plannedRoleSwap r => lenOk r (.plannedRoleSwap r)
  | .configurePair r p => lenOk r (.configurePair r p)
  | .seatingReport r p => lenOk r (.seatingReport r p)
  | .kittyTelemetry r => lenOk r (.kittyTelemetry r)
  | .events r p => lenOk r (.events r p)
  | .scorecard r p => lenOk r (.scorecard r p)
  | .intervalProfile r p => lenOk r (.intervalProfile r p)
  | .objectSeat r p => lenOk r (.objectSeat r p)
  | .flushEventRing r => lenOk r (.flushEventRing r)
  | .eraseSettings r p => lenOk r (.eraseSettings r p)
  | .securityStatus r => lenOk r (.securityStatus r)
  | .loadKeyPlaintext r p => lenOk r (.loadKeyPlaintext r p) && (p.key.length == p.klen.toNat)
  | .stageKey r p => lenOk r (.stageKey r p) && (p.wrapped.length == p.wlen.toNat)
  | .confirmKey r p => lenOk r (.confirmKey r p) && (p.proof.length == 48)
  | .commitKey r p => lenOk r (.commitKey r p)
  | .discardStagedKey r p => lenOk r (.discardStagedKey r p)
  | .keyStageExpiry _ => true
  | .revokeRootSlot r p => lenOk r (.revokeRootSlot r p) && (p.token.length == p.tlen.toNat)
  | .ownershipTransfer r p => lenOk r (.ownershipTransfer r p) && (p.token.length == p.tlen.toNat)
  | .clearTamperLatch r p => lenOk r (.clearTamperLatch r p)
  | .debugChallenge r => lenOk r (.debugChallenge r)
  | .debugUnlock r p => lenOk r (.debugUnlock r p) && (p.sig.length == 96)
  | .proveIdentity r p => lenOk r (.proveIdentity r p) && (p.nonce.length == 32)
  | .openUpdateSession r p => lenOk r (.openUpdateSession r p) && (p.hash.length == 48)
  | .imageBlock r p => lenOk r (.imageBlock r p)
  | .install r p => lenOk r (.install r p)
  | .abort r p => lenOk r (.abort r p)
  | .updateStatus r => lenOk r (.updateStatus r)
  | .replaceLoader r p => lenOk r (.replaceLoader r p)
  | .relayToPeer r p => lenOk r (.relayToPeer r p) && (p.addr.length == 16)
  | .updateSessionDrop => true
  | .updatePhaseComplete _ => true
  | .leaveService _ => true
  | .updateConfirm => true
  | .windowExpiry => true
  | .channelClaim _ _ => true
  | .channelRelease _ _ => true
  | .doorbell _ _ _ => true
  | .responseConsumed _ _ _ => true
  | .irqStatusClear _ => true
  | .channelStatusClear _ _ _ => true
  | .tickLoRead => true
  | .registerWrite a => (if a.write then a.len == 0 else a.data.isEmpty)
  | .qspiTransaction q => (q.data.isEmpty || q.len == 0)
  | .perstN => true
  | .doorbellPoll => true
  | .completionNotice _ _ _ => true
  | .noticeWaitRelease _ => true
  | .cacheEntryExpiry _ _ => true
  | .remoteHandshakeRequest h => (h.addr.length == 16) && decide (1 ≤ h.port) && decide (h.port ≤ 3) && decide (h.root < 4) && decide (h.priv ≤ 4)
  | .remoteHandshakeProof h => (h.addr.length == 16)
  | .handshakeTimeout _ => true
  | .remoteDatagram d => (d.addr.length == 16)
  | .remoteSessionTimeout _ => true
  | .credentialExpiry _ => true
  | .ipFragment f => decide ((f.off + f.data.length) ≤ 65535)
  | .reassemblyTimeout _ => true
  | .servicePortConnect => true
  | .servicePortDisconnect _ => true
  | .powerOn _ => true
  | .bootEnd => true
  | .resetN _ => true
  | .resetRelease _ => true
  | .powerFailWarning _ => true
  | .warningClear _ => true
  | .stopThreshold _ => true
  | .mainsLoss => true
  | .mainsReturn _ => true
  | .mainsBreak _ => true
  | .automaticRestart => true
  | .roundWatchdog => true
  | .lockstepMiscompare engine => decide (engine < 256)
  | .uncorrectableEcc e => decide (e.mem < 5)
  | .engineLost engine => decide (engine < 256)
  | .itemStopped engine _ => decide (engine < 256)
  | .stackChargeTimeout _ => true
  | .stackChargeRetry _ => true
  | .stackChargeMeasure _ => true
  | .stackTest _ => true
  | .anteAlarm => true
  | .storeComplete _ => true
  | .fuseCountedChange _ => true
  | .tickBoundary e => (e.ai.length == 8)
  | .sampleInstant x => decide (x.cycle < 25000) && (x.codes.length == 42)
  | .zcTimeout ch => decide (ch < 6)
  | .controlInputPublish => true
  | .outputRelease => true
  | .actuatorSlot link slot => decide (link < 2) && decide (slot < 16)
  | .statusReply link slot _ => decide (link < 2) && decide (slot < 16)
  | .safeReleaseTimer output => decide (output < 64)
  | .satExpiry loop => decide (loop < 64)
  | .contactorDwellEnd ct => decide (ct < 8)
  | .contactorTrip ct => decide (ct < 8)
  | .pwmPeriod e => (e.currents.length == 16) && (e.sinkMv.length == 16)
  | .probePulse ch _ _ => decide (ch < 16)
  | .adjShortTest shorts => (shorts.all fun c => decide (c < 16))
  | .supplyFault _ => true
  | .sifichainFrame => true
  | .chainReturnCheck port _ => decide (port < 2)
  | .lightSensorRead => true
  | .lightSensorResult sensor vals => decide (sensor < 8) && (match vals with | none => true | some v => v.length == 4)
  | .aggregationWindow => true
  | .calibrationSlot _ => true
  | .phasorReport => true
  | .suitPeriodEnd => true
  | .aliveMark => true
  | .checkpoint => true
  | .roundBoundary e => (e.ai.length == 8)
  | .stretchTick e => (e.ai.length == 8)
  | .lanternCommandHandover => true
  | .scheduleStep => true
  | .intervalClose => true
  | .connectionEvent _ => true
  | .ackTimeout _ => true
  | .lernasFrameReceive f => decide (1 ≤ f.port) && decide (f.port ≤ 2)
  | .supervisionTimeout _ => true
  | .beacon port => decide (1 ≤ port) && decide (port ≤ 2)
  | .standbyBeacon => true
  | .fragmentTimeout _ _ => true
  | .joinReq j => (j.eui.length == 8)
  | .levelAck _ level _ => decide (level ≤ 10000)
  | .safeAck _ safe => decide (safe ≤ 10000)
  | .status m => decide (m.level ≤ 10000)
  | .presence _ => true
  | .associationCommit => true
  | .replicaSend _ => true
  | .replica m => (m.owner.length == 16) && (m.addr.length == 16) && decide (m.part < m.count)
  | .replicaAck _ _ _ => true
  | .replicaRequest _ _ owner => (owner.length == 16)
  | .keepalive _ => true
  | .keepaliveSend _ => true
  | .relay _ _ => true
  | .replicaPartResend _ => true
  | .peerSilent _ => true
  | .frameReceive f => decide (1 ≤ f.port) && decide (f.port ≤ 3)
  | .bridgeAgeing mac => (mac.length == 6)
  | .pause f => decide (1 ≤ f.port) && decide (f.port ≤ 3)
  | .pauseExpiry port cyc => decide (1 ≤ port) && decide (port ≤ 3) && decide (cyc < 25000)
  | .pauseWatchdog port cyc => decide (1 ≤ port) && decide (port ≤ 3) && decide (cyc < 25000)
  | .preemptVerify port _ => decide (1 ≤ port) && decide (port ≤ 3)
  | .tsExpiry port => decide (1 ≤ port) && decide (port ≤ 3)
  | .sfpSignalChange _ _ _ => true
  | .tellMatch port _ => decide (1 ≤ port) && decide (port ≤ 2)
  | .ptpSync m => decide (1 ≤ m.port) && decide (m.port ≤ 3)
  | .ptpFollowUp m => decide (1 ≤ m.port) && decide (m.port ≤ 3)
  | .ptpDelayReq m => decide (1 ≤ m.port) && decide (m.port ≤ 3)
  | .ptpDelayResp m => decide (1 ≤ m.port) && decide (m.port ≤ 3)
  | .ptpPdelayReq m => decide (1 ≤ m.port) && decide (m.port ≤ 3)
  | .ptpPdelayResp m => decide (1 ≤ m.port) && decide (m.port ≤ 3)
  | .ptpPdelayRespFollowUp m => decide (1 ≤ m.port) && decide (m.port ≤ 3)
  | .ptpAnnounce m => decide (1 ≤ m.port) && decide (m.port ≤ 3)
  | .announceTimeout port => decide (1 ≤ port) && decide (port ≤ 3)
  | .ptpMasterSend port => decide (1 ≤ port) && decide (port ≤ 3)
  | .holdoverEntry => true
  | .rtcSecond => true
  | .rtcAlarmMatch => true
  | .oscStop => true
  | .rtcSupplyLow _ => true
  | .rtcShadowRead offset => (rtcOffset offset)
  | .rtcYearRead => true
  | .rtcSecWrite _ => true
  | .rtcFieldWrite offset _ => (rtcOffset offset)
  | .rtcStatusClear _ => true
  | .rtcCompare => true
  | .rtcRewrite => true
  | .leapSecond => true
  | .vbakCheck _ => true
  | .heartbeatToggle m => decide (m < 16)
  | .bidWord w => decide (w.role < 8) && decide (w.cyc < 25000)
  | .heartbeatLoss cyc => decide (cyc < 25000)
  | .bidWordsLoss cyc => decide (cyc < 25000)
  | .p3Silent cyc => decide (cyc < 25000)
  | .takeover cyc => decide (cyc < 25000)
  | .takeoverRequest => true
  | .dealerGrant cyc => decide (cyc < 25000)
  | .dealerRefuse => true
  | .dealerDemote => true
  | .dealerWordSend m => decide (m < 16)
  | .dealerLost cyc => decide (cyc < 25000)
  | .demotion => true
  | .staleClaimRaise => true
  | .autoSwap => true
  | .plannedSwapExecute => true
  | .tickStateFrameSend => true
  | .tickStateFrame f => decide (f.outs.length ≤ 41) && decide (f.loops.length ≤ 64)
  | .commandReplayFrame _ _ => true
  | .roundDataFrame f => decide (f.part < f.count)
  | .roundDataTimeout => true
  | .eventRingFlush => true
  | .flushComplete => true
  | .sramScrub _ => true
  | .dramScrub _ => true
  | .mramScrub _ => true
  | .norScrub _ => true
  | .norRefresh _ => true
  | .nandRetentionRead _ _ _ => true
  | .tamper source _ => decide (source < 5)
  | .servicePortMessage _ msg => decide (msg.length ≤ 4096)
  | .partnerHeartbeatEdge _ cyc => decide (cyc < 25000)
  | .p3SyncGained => true
  | .dealerAliveReturn => true
  | .moduleToDealerWord w => decide (w.role < 8) && decide (w.cyc < 25000)
  | .imageWriteComplete _ => true
  | .imageWriteAnteRetry _ => true
  | .peerHandshakeResponse _ => true
  | .lidTemperature _ => true
  | .rfMismatch port => decide (1 ≤ port) && decide (port ≤ 2)

end Sys2Proof
end

