-- ==== Sys2Proof/Safety.lean ====
section
/-!
DEFINITION. The terms in which claims about the module are stated: a request that passes every check of 05 R111, the
answer its channel gets, and the shapes that many commands share (a read, a change that waits for a round boundary).
-/

namespace Sys2Proof.Machine

open Sys2Proof

/-- A request that passes every general check of 05 R111 on the channel it came by, for a command checked by `k`. -/
structure Accepted (s : State) (r : Req) (k : Rule) : Prop where
  /-- SUP may read the channel (05 R106, R125). -/
  read : readable s r.ch.toNat = true
  /-- Check 1. -/
  framed : r.len.toNat ≤ 4076
  /-- Check 3 (05 R120). -/
  fresh : idCheck s (chan s r.ch.toNat) r.txn = .accept
  /-- Check 4. -/
  header : headerBad s r = none
  /-- Check 5. -/
  known : (cmdInfo k.cmd).isSome = true
  /-- Check 6. -/
  privileged : ∀ i, cmdInfo k.cmd = some i → k.priv.getD i.priv ≤ (chan s r.ch.toNat).priv
  /-- Check 7 (06 R133, R141). -/
  legal : ∀ i, cmdInfo k.cmd = some i → k.legal.getD (i.states.contains s.sys.mode && lifecycleAllows s k.cmd) = true
  /-- Check 8, payload length. -/
  length : r.len.toNat = k.len
  /-- Check 8, payload fields. -/
  fields : firstBad k.fields = none
  /-- The token the command carries is accepted (16 R428). -/
  token : k.refuse = none
  /-- Check 9, TAMPER_LOCKED (06 R136). -/
  unlocked : ∀ i, cmdInfo k.cmd = some i → ¬ (i.locked = true ∧ s.sec.tamper.latched ≠ 0)
  /-- Check 9, LIMIT_EXHAUSTED (06 R145, 16 R433). -/
  unspent : k.limit = none
  /-- Check 9, operations outstanding (05 R117). -/
  room : ∀ i, cmdInfo k.cmd = some i → ¬ (i.later = true ∧ 32 ≤ opsOn s r.ch.toNat)
  /-- The session is not about to end (06 R144). -/
  stays : (chan s r.ch.toNat).closing = false
  /-- A remote session on the channel can still send (05 R129). -/
  sends : ∀ x ∈ s.hif.remotes, x.ch = r.ch.toNat → x.txSeq < 2 ^ 32

/-- `Accepted` as a check that evaluates. -/
def accepts (s : State) (r : Req) (k : Rule) : Bool :=
  let c := chan s r.ch.toNat
  let whole := match cmdInfo k.cmd with
    | none => false
    | some i => decide (k.priv.getD i.priv ≤ c.priv) && k.legal.getD (i.states.contains s.sys.mode && lifecycleAllows s k.cmd) &&
        !(i.locked && s.sec.tamper.latched != 0) && !(i.later && decide (32 ≤ opsOn s r.ch.toNat))
  readable s r.ch.toNat && decide (r.len.toNat ≤ 4076) && idCheck s c r.txn == .accept && (headerBad s r).isNone && whole &&
    decide (r.len.toNat = k.len) && (firstBad k.fields).isNone && k.refuse.isNone && k.limit.isNone && !c.closing &&
    s.hif.remotes.all fun x => x.ch != r.ch.toNat || decide (x.txSeq < 2 ^ 32)

/-- The request's channel got the answer `p`: it is in the duplicate cache, its id is the last accepted, the response ring
moved by the slots it takes, an operation is outstanding exactly after ACCEPTED and ANTE_FAILED, and no other channel
changed (05 R107, R110, R112, R116, R121). -/
structure Answered (s t : State) (r : Req) (cmd : Nat) (p : Reply) : Prop where
  cached : (chan t r.ch.toNat).cache.head? = some { txn := r.txn, cmd := BitVec.ofNat 16 cmd, compat := levelOf s r, status := BitVec.ofNat 16 p.status, info := BitVec.ofNat 16 p.info, detail := BitVec.ofNat 32 p.detail, data := if p.status ≤ stDuplicate then p.data else [], placed := s.now, notice := none }
  lastId : (chan t r.ch.toNat).lastId = r.txn
  produced : (chan t r.ch.toNat).rspPi = (chan s r.ch.toNat).rspPi + BitVec.ofNat 16 (slotsOf (28 + (if p.status ≤ stDuplicate then p.data.length else 0)))
  opened : t.hif.ops = if p.status = stAccepted ∨ p.status = stAnte then s.hif.ops ++ [tokOf s r cmd] else s.hif.ops
  others : ∀ m, m ≠ r.ch.toNat → chan t m = chan s m

/-- What a request that reads leaves: the answer OK with its data, and only the mailbox, the record of what was sent and the
counter of free values differ. -/
def HasRead (s t : State) (r : Req) (k : Rule) (data : List Byte) : Prop :=
  Answered s t r k.cmd (okWith data) ∧ t = { s with hif := t.hif, out := t.out, fresh := t.fresh }

/-- What a request that changes the configuration leaves: the answer ACCEPTED, its change waiting for the round boundary of
04 R92, and nothing else different but the mailbox and the record of what was sent. -/
def Admitted (i : Instr) (s t : State) (r : Req) (k : Rule) (data : List Byte) : Prop :=
  Answered s t r k.cmd { status := stAccepted, data := data } ∧
    t.changes = s.changes ++ [{ tok := tokOf s r k.cmd, what := i, round := changeRound s }] ∧
    t = { s with hif := t.hif, out := t.out, changes := t.changes }

/-- What a request with an effect leaves: the answer `p`, and exactly the effect of `f` beside the mailbox, the record of
what was sent and the counter of free values. -/
def Completed (s t : State) (r : Req) (k : Rule) (p : Reply) (f : State → State) : Prop :=
  Answered s t r k.cmd p ∧ { t with hif := s.hif, out := s.out, fresh := s.fresh } = f s

/-- Two states agree in everything beside the mailbox and the record of what was sent. -/
def SameBesideMailbox (s t : State) : Prop := t = { s with hif := t.hif, out := t.out }

/-- A request is answered `p` and has no other effect (05 R111, R114). -/
def Refuses (s : State) (r : Req) (k : Rule) (body : OpTok → State → State × Reply) (p : Reply) : Prop :=
  SameBesideMailbox s (gmp s r k body) ∧ Answered s (gmp s r k body) r k.cmd p

/-- Eight channels, with at most 64 slots of unread requests on each (05 R104). -/
def RingsBounded (s : State) : Prop :=
  s.hif.chans.length = 8 ∧ ∀ n, n < 8 → ((chan s n).reqPi - (chan s n).reqCi).toNat ≤ 64

end Sys2Proof.Machine
end

