-- ==== Sys2Proof/Certificates/Slice0/Obligations.lean ====
section
/-!
DEFINITION. The statements about the module, for the provers: each is a proposition, its docstring says what it states and
which part of the spec it rests on.
-/

open Sys2Proof Sys2Proof.Machine

/-- For every command c, every list of further commands and every state s, a step of s with c in front of the queue is
exec of c on s with the queue holding only the rest. It ties every statement about exec to a step.
(95_what_each_step_holds.md) -/
def Obligations.StepRunsTheFrontCommand : Prop :=
  ∀ (c : Instr) (rest : List Instr) (s : State),
    step { s with pending := c :: rest } = exec c { s with pending := rest }

/-- A step of a state whose queue is empty answers that state. The spec gives commands their effects and says nothing of a
moment without one: this is the model's own choice, log entry 3. (95_what_each_step_holds.md) -/
def Obligations.EmptyQueueIdles : Prop :=
  ∀ s : State, s.pending = [] → step s = .next s

/-- For every command, that is for each of the 283 constructors of Instr with every value of its operands, and for every
state, exec answers a next state: no meaning ends in a fault or a refusal, and no state, mode or operand stops the
block. What that next state holds is stated command by command in the statements below; each names the commands it
says it of. (R111, R114, 95_what_each_step_holds.md) -/
def Obligations.EveryCommandAnswersANextState : Prop :=
  ∀ (i : Instr) (s : State), ∃ t : State, exec i s = .next t

/-- In the state after reset the aligned 32-bit registers of the host map read the values of Table 5.2: HIF_ID 0x5C080001,
IRQ_STATUS, IRQ_ENABLE, TICK_HI, SCRATCH and every field of the eight channel blocks 0, HIF_COMPAT both halves 1; and
every byte of the host window reads 0. (R102, R103, Table 5.2) -/
def Obligations.HostRegistersAfterReset : Prop :=
  regValue State.reset 0x000 = 0x5C080001 ∧
    (∀ o ∈ [0x008, 0x00C, 0x018, 0x020], regValue State.reset o = 0) ∧
    regValue State.reset 0x010 = 0x00010001 ∧
    (∀ n ∈ List.range 8, ∀ k ∈ [0x00, 0x04, 0x08, 0x0C, 0x10, 0x14, 0x18, 0x1C], regValue State.reset (0x100 + 0x20 * n + k) = 0) ∧
    ∀ a, winRead State.reset.hif.window a = 0

/-- The list that holds the host window (the one byte-addressed memory of the interface) is in its canonical form in
State.reset: addresses rising, no cell that an unlisted address would read the same as. (R102, R103) -/
def Obligations.WindowCanonicalAtReset : Prop :=
  Window.wf State.reset.hif.window = true

/-- For every state whose host window is in canonical form, whatever command is at the front of its queue, the state a
step answers has its window in canonical form too. So equal windows are equal data in every run. (R103, R107) -/
def Obligations.EveryStepKeepsTheWindowCanonical : Prop :=
  ∀ s t : State, Window.wf s.hif.window = true → step s = .next t → Window.wf t.hif.window = true

/-- The invariant: the module has eight channels, and the slots of unread requests of each, REQ_PI - REQ_CI modulo 2^16,
are at most 64. Every step keeps it, from every state that meets it and whatever command is in front. (R104, R106,
R113) -/
def Obligations.EveryStepKeepsTheRequestRings : Prop :=
  ∀ s t : State, RingsBounded s → step s = .next t → RingsBounded t

/-- State.reset has eight channels, none with an unread request. (R102, R104) -/
def Obligations.RingsBoundedAtReset : Prop :=
  RingsBounded State.reset

/-- For every well-formed request command i of the 98 command codes, the bytes that carry it to the dummy of a pair
(header, payload, CRC) give back, by the reading that SUP applies to a ring and to a replayed command, the same
command with every operand: its header fields and every payload field at every value its width admits. No field of a
payload is dropped or moved. (R109, R130, R371, Table 5.4) -/
def Obligations.RequestDecodesToItself : Prop :=
  ∀ (i : Instr) (r : Req) (cmd : Nat) (b : List Byte), i.wf = true → requestParts i = some (r, cmd, b) →
    requestOf cmd r b = some i ∧
    reqOf r.ch.toNat (requestBytes i) = r ∧ cut (requestBytes i) 0x10 r.len.toNat = b ∧ num (requestBytes i) 4 2 = cmd

/-- For a request that SUP reads with good framing: an id that is neither new nor cached answers STALE with LAST_ID;
otherwise, in this order, the first check that fails decides the answer, and no state beside the mailbox and what was
sent changes: a bad header field BAD_FIELD, an unknown code UNKNOWN_COMMAND, too low a privilege PRIVILEGE_REFUSED
with the privileges required and held, an illegal state STATE_REFUSED, a wrong payload length BAD_LENGTH with the
length found, a bad payload field BAD_FIELD with its offset. Stated of the shared service of every request, whatever
its own work. (R111, R112, R114, R115, Table 5.6) -/
def Obligations.CheckingOrder : Prop :=
  ∀ (s : State) (r : Req) (k : Rule) (body : OpTok → State → State × Reply),
    readable s r.ch.toNat = true → r.len.toNat ≤ 4076 → (chan s r.ch.toNat).closing = false →
    (∀ x ∈ s.hif.remotes, x.ch = r.ch.toNat → x.txSeq < 2 ^ 32) →
    (idCheck s (chan s r.ch.toNat) r.txn = .stale → ∃ t, gmp s r k body = t ∧ SameBesideMailbox s t ∧
      chan t r.ch.toNat = { chan s r.ch.toNat with
        rspPi := (chan s r.ch.toNat).rspPi + 1
        rspCi := (chan t r.ch.toNat).rspCi }) ∧
    (idCheck s (chan s r.ch.toNat) r.txn = .accept →
      (∀ o, headerBad s r = some o → Refuses s r k body (badField o)) ∧
      (headerBad s r = none →
        (cmdInfo k.cmd = none → Refuses s r k body { status := 0x0104, info := (levelOf s r).toNat }) ∧
        ∀ i, cmdInfo k.cmd = some i →
          let need := k.priv.getD i.priv
          let legal := k.legal.getD (i.states.contains s.sys.mode && lifecycleAllows s k.cmd)
          ((chan s r.ch.toNat).priv < need → Refuses s r k body { status := 0x0201, info := need, detail := (chan s r.ch.toNat).priv }) ∧
          (need ≤ (chan s r.ch.toNat).priv → legal = false → lifecycleAllows s k.cmd = true →
            Refuses s r k body { status := 0x0202, info := modeCode s.sys.mode }) ∧
          (need ≤ (chan s r.ch.toNat).priv → legal = true → r.len.toNat ≠ k.len →
            Refuses s r k body { status := 0x0101, detail := r.len.toNat }) ∧
          (∀ o, need ≤ (chan s r.ch.toNat).priv → legal = true → r.len.toNat = k.len → firstBad k.fields = some o →
            Refuses s r k body (badField o)) ∧
          (need ≤ (chan s r.ch.toNat).priv → legal = true → r.len.toNat = k.len → firstBad k.fields = none → k.refuse = none →
            i.locked = true → s.sec.tamper.latched ≠ 0 → Refuses s r k body { status := 0x0501, info := s.sec.tamper.latched.toNat })))

/-- Each channel keeps the last accepted id L and shows it at HIF_CHn_LAST_ID. A new session without inherited history
accepts any id; otherwise an id X is accepted when (X - L) modulo 2^32 is from 1 to 0x7FFFFFFF, so ids may skip
values; else it answers DUPLICATE when X is in the channel's cache (an entry of the last 60 s) and STALE when it is
not. An accepted id becomes L, whatever the checks after it answer; a duplicate or stale one leaves L. (R120) -/
def Obligations.TransactionIdRule : Prop :=
  ∀ (s : State) (n : Nat) (x : U32),
    let c := chan s n
    (n < 8 → regValue s (0x118 + 0x20 * n) = c.lastId.toNat) ∧
    (c.hasId = false → idCheck s c x = .accept) ∧
    (c.hasId = true → 1 ≤ (x - c.lastId).toNat → (x - c.lastId).toNat ≤ 0x7FFFFFFF → idCheck s c x = .accept) ∧
    (c.hasId = true → ((x - c.lastId).toNat = 0 ∨ 0x80000000 ≤ (x - c.lastId).toNat) →
      ((∃ e ∈ c.cache, e.txn = x ∧ s.now < e.placed + secs 60) → ∃ e, idCheck s c x = .dup e ∧ e ∈ c.cache ∧ e.txn = x) ∧
      ((∀ e ∈ c.cache, e.txn = x → e.placed + secs 60 ≤ s.now) → idCheck s c x = .stale)) ∧
    ∀ (r : Req) (k : Rule) (body : OpTok → State → State × Reply), r.ch.toNat = n → r.txn = x → (∀ t u, (body t u).1.hif = u.hif) →
      readable s n = true → r.len.toNat ≤ 4076 → c.closing = false → (∀ y ∈ s.hif.remotes, y.ch = n → y.txSeq + 1 < 2 ^ 32) →
      (chan (gmp s r k body) n).lastId = if idCheck s c x = .accept then x else c.lastId

/-- A request whose id is in its channel's cache is answered with STATUS DUPLICATE, the original status in INFO, the
original detail and the cached data, and nothing beside the mailbox and what was sent changes, nor does the cache, the
last id or any outstanding operation; the completion notice already issued, when there is one and four slots are free
after the answer, follows it in the ring, and otherwise waits. (R121, R111) -/
def Obligations.DuplicateAnswersTheCachedResponse : Prop :=
  ∀ (s : State) (r : Req) (k : Rule) (body : OpTok → State → State × Reply) (e : CacheEntry),
    readable s r.ch.toNat = true → r.len.toNat ≤ 4076 → idCheck s (chan s r.ch.toNat) r.txn = .dup e →
    (∀ x ∈ s.hif.remotes, x.ch = r.ch.toNat → x.txSeq + 1 < 2 ^ 32) →
    let t := gmp s r k body
    let first := place s r.ch.toNat { txn := r.txn, cmd := e.cmd, notice := false, quiet := r.flags.getLsbD 2, compat := e.compat, status := 2, info := e.status, detail := e.detail, data := e.data }
    SameBesideMailbox s t ∧ t.hif.ops = s.hif.ops ∧ (chan t r.ch.toNat).cache = (chan s r.ch.toNat).cache ∧
    (chan t r.ch.toNat).lastId = (chan s r.ch.toNat).lastId ∧
    (e.notice = none → t = first) ∧
    (∀ m, e.notice = some m → 4 ≤ rspFree (chan first r.ch.toNat) → t = place first r.ch.toNat m) ∧
    (∀ m, e.notice = some m → rspFree (chan first r.ch.toNat) < 4 →
      (chan t r.ch.toNat).waiting = (chan s r.ch.toNat).waiting ++ [m] ∧ t.hif.window = first.hif.window)

/-- A request for identity, status, pair-independent security status, update status, kitty telemetry or inputs that passes
the checks of R111 completes with OK; its data are the fields of Tables 6.6, 6.7, 6.16, 6.17 and 15 in the order
listed; nothing but the mailbox and the record of what was sent changes. exec answers a next state, the command having
its own effect, under conditions on the state and the operands alone, for getIdentity, getStatus, inputs,
kittyTelemetry, securityStatus, updateStatus. (R144, Table 6.6, Table 6.7, Table 6.10, Table 6.15) -/
def Obligations.StatusReadsAnswer : Prop :=
  ∀ (s : State) (r : Req),
    (let rule : Rule := { cmd := 0x0101, len := 0 }; Accepted s r rule → ∃ t, exec (.getIdentity r) s = .next t ∧ HasRead s t r rule (partNo s.sys.variant ++ le 8 s.sys.serial.toNat ++ le 2 s.sys.hwRev.toNat ++ le 1 s.sys.straps.toNat ++ le 1 (lifecycle s) ++
        le 4 s.sys.fwVersion.toNat ++ le 2 s.sys.schema.toNat ++ le 2 s.sys.compatRunning.toNat ++ le 2 (compatLowest s) ++ le 2 0 ++
        le 4 (loaderVersion s).toNat)) ∧
    (let rule : Rule := { cmd := 0x0102, len := 0 }; Accepted s r rule → ∃ t, exec (.getStatus r) s = .next t ∧ HasRead s t r rule (le 1 (modeCode s.sys.mode) ++ le 1 (lifecycle s) ++ le 1 s.sys.resetCause.toNat ++ le 1 (statusFlags s) ++
        le 4 s.sys.bootNumber.toNat ++ le 8 s.clk.tick ++ le 4 s.clk.epoch.toNat ++ le 2 s.pow.stackMv ++
        le 2 (s.pow.stackCmF / 10) ++ le 2 s.pow.stackEsr ++ le 1 (kittyLast s) ++ le 1 0)) ∧
    (let rule : Rule := { cmd := 0x0408, len := 0 }; Accepted s r rule → ∃ t, exec (.inputs r) s = .next t ∧ HasRead s t r rule (le 8 s.clk.tick ++ le 2 s.outs.di.toNat ++ le 2 0 ++ (s.outs.ai.map fun v => leInt 4 v).flatten)) ∧
    (let rule : Rule := { cmd := 0x0902, len := 0 }; Accepted s r rule → ∃ t, exec (.kittyTelemetry r) s = .next t ∧ HasRead s t r rule (((List.range 6).map fun k => adviceData s k).flatten)) ∧
    (let rule : Rule := { cmd := 0x0A01, len := 0 }; Accepted s r rule → ∃ t, exec (.securityStatus r) s = .next t ∧ HasRead s t r rule (securityData s)) ∧
    (let rule : Rule := { cmd := 0x0B05, len := 0 }; Accepted s r rule → ∃ t, exec (.updateStatus r) s = .next t ∧ HasRead s t r rule (updStatusData s))

/-- A session challenge that passes the checks answers 32 fresh bytes and keeps them with the privilege asked and the
time; a prove within 10 s of a challenge whose credential is accepted answers OK and gives the session the least of
the privilege asked, the one the credential names and the cap of Table 5.7; a prove without a challenge, after 10 s,
or with a refused credential is answered PRIVILEGE_REFUSED and uses the challenge up; a lower below the present
privilege takes effect; nothing beside the mailbox, what was sent and the free counter changes. The 32 bytes are free
values (log entry 2). exec answers a next state, the command having its own effect, under conditions on the state and
the operands alone, for sessionChallenge, sessionProve, sessionLower. (R123, R144, R426, Table 5.7) -/
def Obligations.SessionCommands : Prop :=
  ∀ (s : State) (r : Req),
    (∀ p : SessionChallengeP, Accepted s r { cmd := 0x0110, len := 4, fields := (0x10, decide (p.priv.toNat ≤ 4)) :: rsv3 0x11 p.rsv } →
      ∃ t b, exec (.sessionChallenge r p) s = .next t ∧ b.length = 32 ∧
        (chan t r.ch.toNat).challenge = some { priv := p.priv.toNat, bytes := b, at_ := s.now } ∧
        Answered s t r 0x0110 (okWith b) ∧ t = { s with hif := t.hif, out := t.out, fresh := s.fresh + 1 }) ∧
    (∀ p : SessionProveP, Accepted s r { cmd := 0x0111, len := 4 + p.clen.toNat + 96, fields := [(0x12, p.rsv == 0)] } →
      (∀ h, (chan s r.ch.toNat).challenge = some h →
        let v := Config.credential p.chain p.sig h.bytes (ownerBytes s)
        let g := min h.priv (min (credPriv s v.priv) (privCap s (chan s r.ch.toNat).owner))
        (s.now ≤ h.at_ + secs 10 → credAccepted s v = true →
          ∃ t, exec (.sessionProve r p) s = .next t ∧ (chan t r.ch.toNat).priv = g ∧ (chan t r.ch.toNat).challenge = none ∧
            Answered s t r 0x0111 (okWith (le 1 g ++ le 3 0 ++ le 8 v.expiry)) ∧ t = { s with hif := t.hif, out := t.out }) ∧
        ((h.at_ + secs 10 < s.now ∨ credAccepted s v = false) →
          ∃ t, exec (.sessionProve r p) s = .next t ∧ (chan t r.ch.toNat).priv = (chan s r.ch.toNat).priv ∧ (chan t r.ch.toNat).challenge = none ∧
            Answered s t r 0x0111 { status := 0x0201, detail := (chan s r.ch.toNat).priv } ∧ t = { s with hif := t.hif, out := t.out })) ∧
      ((chan s r.ch.toNat).challenge = none →
        ∃ t, exec (.sessionProve r p) s = .next t ∧ (chan t r.ch.toNat).priv = (chan s r.ch.toNat).priv ∧
          Answered s t r 0x0111 { status := 0x0201, detail := (chan s r.ch.toNat).priv } ∧ t = { s with hif := t.hif, out := t.out })) ∧
    (∀ p : SessionLowerP, Accepted s r { cmd := 0x0112, len := 4, fields := (0x10, decide (p.priv.toNat < (chan s r.ch.toNat).priv)) :: rsv3 0x11 p.rsv } →
      ∃ t, exec (.sessionLower r p) s = .next t ∧ (chan t r.ch.toNat).priv = p.priv.toNat ∧ Answered s t r 0x0112 {} ∧
        t = { s with hif := t.hif, out := t.out })

/-- A channel close that passes the checks places its OK answer (one slot of the response ring of the channel, or one
frame of its carrier) and then ends the session and frees the channel: owner 0, privilege 0, no cache, indices 0. The
other channels stay. exec answers a next state, the command having its own effect, under conditions on the state and
the operands alone, for channelClose. (R129, R144, R122) -/
def Obligations.ChannelCloseEndsTheSession : Prop :=
  ∀ (s : State) (r : Req), Accepted s r { cmd := 0x0113, len := 0 } →
    ∃ t, exec (.channelClose r) s = .next t ∧
      chan t r.ch.toNat = Chan.reset ∧
      (∀ m, m ≠ r.ch.toNat → chan t m = chan s m) ∧
      t.hif.window = ringWrite s.hif.window (rspBase r.ch.toNat) (chan s r.ch.toNat).rspPi.toNat (msgBytes r.ch.toNat (rspMsg s r 0x0113 {})) ∧
      t = { s with hif := t.hif, out := t.out, sec := { s.sec with slots := t.sec.slots } }

/-- While the mailbox is served, a claim of a free channel gives it to the claiming bus with a fresh session number,
Observer privilege and no id; a claim of a channel another transport holds changes only its FOREIGN flag; a release by
the holder frees the channel, all of its fields as after reset (log 168); a release by another bus sets FOREIGN only.
No other channel changes, and nothing beside the mailbox but key slots that the ended session held. exec answers a
next state, the command having its own effect, under conditions on the state and the operands alone, for channelClaim,
channelRelease. (R99, R100, R122, R123, Table 5.2) -/
def Obligations.ChannelOwnership : Prop :=
  ∀ (s : State) (b : Bus) (n : BitVec 3), ready s = true → s.hif.chans.length = 8 →
    (∀ m, m ≠ n.toNat → ∀ t, (exec (.channelClaim b n) s = .next t ∨ exec (.channelRelease b n) s = .next t) → chan t m = chan s m) ∧
    ((chan s n.toNat).owner = 0 →
      exec (.channelClaim b n) s = .next { s with hif := { s.hif with
        sessions := s.hif.sessions + 1
        chans := s.hif.chans.set n.toNat { chan s n.toNat with
          owner := busCode b
          session := s.hif.sessions + 1
          priv := 0
          hasId := false
          closing := false } } }) ∧
    ((chan s n.toNat).owner ≠ 0 → (chan s n.toNat).owner ≠ busCode b →
      exec (.channelClaim b n) s = .next { s with hif := { s.hif with chans := s.hif.chans.set n.toNat { chan s n.toNat with foreign := true } } } ∧
      exec (.channelRelease b n) s = .next { s with hif := { s.hif with chans := s.hif.chans.set n.toNat { chan s n.toNat with foreign := true } } }) ∧
    ((chan s n.toNat).owner = busCode b → ∃ t, exec (.channelRelease b n) s = .next t ∧
      chan t n.toNat = Chan.reset ∧
      t = { s with hif := t.hif, sec := { s.sec with slots := t.sec.slots } })

/-- A write of HIF_CHn_REQ_PI by the holder is taken when it leaves PI - CI at most 64 and does not move PI back, and one
of HIF_CHn_RSP_CI when it does not pass RSP_PI or move back, modulo 2^16; a refused write leaves the register and sets
OVERRUN; a write by another bus sets FOREIGN and nothing else. Only that channel changes. exec answers a next state,
the command having its own effect, under conditions on the state and the operands alone, for doorbell,
responseConsumed. (R104, R100) -/
def Obligations.IndexWrites : Prop :=
  ∀ (s : State) (b : Bus) (n : BitVec 3) (v : U32), ready s = true → s.hif.chans.length = 8 →
    let c := chan s n.toNat
    let x : U16 := v.setWidth 16
    let put (d : Chan) : State := { s with hif := { s.hif with chans := s.hif.chans.set n.toNat d } }
    (c.owner = busCode b →
      ((x - c.reqCi).toNat ≤ 64 → (c.reqPi - c.reqCi).toNat ≤ (x - c.reqCi).toNat → exec (.doorbell b n v) s = .next (put { c with reqPi := x })) ∧
      ((64 < (x - c.reqCi).toNat ∨ (x - c.reqCi).toNat < (c.reqPi - c.reqCi).toNat) → exec (.doorbell b n v) s = .next (put { c with overrun := true })) ∧
      ((x - c.rspCi).toNat ≤ (c.rspPi - c.rspCi).toNat → exec (.responseConsumed b n v) s = .next (put { c with rspCi := x })) ∧
      ((c.rspPi - c.rspCi).toNat < (x - c.rspCi).toNat → exec (.responseConsumed b n v) s = .next (put { c with overrun := true }))) ∧
    (c.owner ≠ busCode b →
      exec (.doorbell b n v) s = .next (put { c with foreign := true }) ∧
      exec (.responseConsumed b n v) s = .next (put { c with foreign := true }))

/-- While READY is 1: a write of ones clears those flags of HIF_IRQ_STATUS; the holder clears RESYNC, OVERRUN and FOREIGN
by writing ones; a read of HIF_TICK_LO returns the low word and latches the high. SCRATCH takes a write in any state;
while READY is 0 every other register ignores it; a write that is not one aligned word is ignored and such a read
returns zeros; an aligned word read returns the register. Nothing else changes. exec answers a next state, the command
having its own effect, under conditions on the state and the operands alone, for irqStatusClear, channelStatusClear,
tickLoRead, registerWrite. (R7, R101, R102, R107, Table 5.2) -/
def Obligations.HostRegisterAccess : Prop :=
  ∀ s : State,
    (∀ v : U32, ready s = true → exec (.irqStatusClear v) s = .next { s with hif := { s.hif with irqStatus := s.hif.irqStatus &&& ~~~(v.setWidth 9) } }) ∧
    (∀ (b : Bus) (n : BitVec 3) (v : U32), ready s = true → s.hif.chans.length = 8 → (chan s n.toNat).owner = busCode b →
      exec (.channelStatusClear b n v) s = .next { s with hif := { s.hif with chans := s.hif.chans.set n.toNat { chan s n.toNat with
        resync := (chan s n.toNat).resync && !v.getLsbD 6
        overrun := (chan s n.toNat).overrun && !v.getLsbD 7
        foreign := (chan s n.toNat).foreign && !v.getLsbD 8 } } }) ∧
    exec .tickLoRead s = .next { s with hif := { s.hif with
      tickHi := BitVec.ofNat 32 (s.clk.tick / 0x100000000)
      rdata := le 4 s.clk.tick } } ∧
    (∀ a : BusAccess, a.bar2 = false → a.write = true →
      (a.addr = 0x020 → ∀ w x y z, a.data = [w, x, y, z] → exec (.registerWrite a) s = .next { s with hif := { s.hif with scratch := fld [w, x, y, z] 0 32 } }) ∧
      (a.addr ≠ 0x020 → ready s = false → exec (.registerWrite a) s = .next s) ∧
      ((a.data.length ≠ 4 ∨ a.addr.toNat % 4 ≠ 0) → exec (.registerWrite a) s = .next s)) ∧
    (∀ a : BusAccess, a.bar2 = false → a.write = false →
      (a.len = 4 → a.addr.toNat % 4 = 0 → a.addr.toNat < 0x1000 → a.addr ≠ 0x014 →
        exec (.registerWrite a) s = .next { s with hif := { s.hif with rdata := le 4 (regValue s a.addr.toNat) } }) ∧
      ((a.len ≠ 4 ∨ a.addr.toNat % 4 ≠ 0) → exec (.registerWrite a) s = .next { s with hif := { s.hif with rdata := List.replicate a.len 0 } }))

/-- A write to the window by the holder of the channel whose 128 KiB it falls in stores its bytes there: each reads back,
and every byte outside reads as before, nothing else changing but FOREIGN flags. A write to another's area stores
nothing and sets that channel's FOREIGN. A read returns the bytes, zero where a remote session or the service port
holds the channel. exec answers a next state, the command having its own effect, under conditions on the state and the
operands alone, for registerWrite. (R100, R103) -/
def Obligations.WindowAccess : Prop :=
  ∀ (s : State) (a : BusAccess), a.bar2 = true → s.hif.chans.length = 8 →
    let n := a.addr.toNat / 0x20000
    (a.write = true → a.addr.toNat + a.data.length ≤ 0x20000 * (n + 1) → n < 8 → a.data ≠ [] → (chan s n).owner = busCode a.bus → Window.wf s.hif.window = true →
      ∃ t, exec (.registerWrite a) s = .next t ∧ t = { s with hif := { s.hif with window := t.hif.window } } ∧
        (∀ k, k < a.data.length → winRead t.hif.window (a.addr.toNat + k) = byteAt a.data k) ∧
        (∀ x, (x < a.addr.toNat ∨ a.addr.toNat + a.data.length ≤ x) → winRead t.hif.window x = winRead s.hif.window x)) ∧
    (a.write = true → a.addr.toNat + a.data.length ≤ 0x20000 * (n + 1) → n < 8 → a.data ≠ [] → (chan s n).owner ≠ busCode a.bus →
      exec (.registerWrite a) s = .next { s with hif := { s.hif with chans := s.hif.chans.set n { chan s n with foreign := true } } }) ∧
    (a.write = false →
      exec (.registerWrite a) s = .next { s with hif := { s.hif with rdata := (List.range a.len).map fun k =>
        let x := a.addr.toNat + k
        if 0x100000 ≤ x ∨ (chan s (x / 0x20000)).owner = 3 ∨ (chan s (x / 0x20000)).owner = 4 then 0 else winRead s.hif.window x } })

/-- A Quad-SPI write of one aligned word to a register below 0x1000 acts as that register write by Quad-SPI, one that lies
in the window as that window write, and one of any other instruction code changes nothing; a read of an aligned
register other than HIF_TICK_LO returns its four bytes, least significant first, a read of registers that covers no
aligned word whole reads zero, and so does reserved space between the map and the window. exec answers a next state,
the command having its own effect, under conditions on the state and the operands alone, for qspiTransaction. (R108,
R101, Table 5.3) -/
def Obligations.QuadSpiAccess : Prop :=
  ∀ (s : State) (q : QspiTx),
    (q.instr = 0x38 → q.data.length = 4 → q.addr.toNat % 4 = 0 → q.addr.toNat < 0x1000 →
      exec (.qspiTransaction q) s = exec (.registerWrite { bus := .qspi, bar2 := false, addr := BitVec.ofNat 20 q.addr.toNat, write := true, data := q.data, len := 0 }) s) ∧
    (q.instr = 0x38 → 0x100000 ≤ q.addr.toNat → q.addr.toNat + q.data.length ≤ 0x200000 → q.data ≠ [] →
      exec (.qspiTransaction q) s = exec (.registerWrite { bus := .qspi, bar2 := true, addr := BitVec.ofNat 20 (q.addr.toNat - 0x100000), write := true, data := q.data, len := 0 }) s) ∧
    (q.instr = 0x3B → q.len = 4 → q.addr.toNat % 4 = 0 → q.addr.toNat < 0x1000 → q.addr ≠ 0x14 →
      exec (.qspiTransaction q) s = .next { s with hif := { s.hif with rdata := le 4 (regValue s q.addr.toNat) } }) ∧
    (q.instr = 0x3B → q.addr.toNat + q.len ≤ 0x1000 → (q.len < 4 ∨ (q.len = 4 ∧ q.addr.toNat % 4 ≠ 0)) →
      exec (.qspiTransaction q) s = .next { s with hif := { s.hif with rdata := List.replicate q.len 0 } }) ∧
    (q.instr = 0x3B → 0x1000 ≤ q.addr.toNat → q.addr.toNat + q.len ≤ 0x100000 →
      exec (.qspiTransaction q) s = .next { s with hif := { s.hif with rdata := List.replicate q.len 0 } }) ∧
    (q.instr ≠ 0x38 → q.instr ≠ 0x3B → exec (.qspiTransaction q) s = .next s)

/-- PERST_N leaves every channel that PCI Express held at its reset fields, free, and every other channel as it was; the
number of MSI vectors enabled afterwards is 1, 2, 4 or 8, a free value (log entry 187); nothing else changes. exec
answers a next state, the command having its own effect, under conditions on the state and the operands alone, for
perstN. (R102, R107) -/
def Obligations.PerstReleasesPciChannels : Prop :=
  ∀ s : State, s.hif.chans.length = 8 → (∀ r ∈ s.hif.remotes, (chan s r.ch).owner = 3) →
    ∃ t, exec .perstN s = .next t ∧ t = { s with hif := { s.hif with chans := t.hif.chans, msiVectors := t.hif.msiVectors }, fresh := s.fresh + 1 } ∧
      t.hif.msiVectors ∈ [1, 2, 4, 8] ∧
      ∀ n, n < 8 → chan t n = if (chan s n).owner = 1 then Chan.reset else chan s n

/-- With the tick generator running and a poll of the tick left, a poll counts itself and then, where no item that polls
was stopped in this tick, treats channels 0 to 7 in ascending order; at each, a ring without an unread request, or a
channel that is not served or has fewer than four free response slots, is left alone; a whole request with a good CRC
is taken from the ring by its slots and has the effect of its command; a bad CRC is answered BAD_CRC with the CRC
computed, its id not accepted; a LEN above 4,076 or a message longer than the unread slots is answered BAD_LENGTH with
INFO 1, discards the unread requests and sets RESYNC. exec answers a next state, the command having its own effect,
under conditions on the state and the operands alone, for doorbellPoll. (R89, R106, R111, R112, R113) -/
def Obligations.PollServesTheHeadOfEachRing : Prop :=
  ∀ s : State, s.clk.running = true → s.sys.inReset = false → s.clk.poll < 16 → s.sec.endOwner = false →
    (workLost s 0 = true → exec .doorbellPoll s = .next { s with clk := { s.clk with poll := s.clk.poll + 1 } }) ∧
    (workLost s 0 = false → exec .doorbellPoll s = .next ((List.range 8).foldl pollChan { s with clk := { s.clk with poll := s.clk.poll + 1 } })) ∧
    ∀ (u : State) (n : Nat),
      let c := chan u n
      let head := ringRead u.hif.window (reqBase n) c.reqCi.toNat 16
      let r := reqOf n head
      let cmd := num head 4 2
      let size := 20 + r.len.toNat
      let all := ringRead u.hif.window (reqBase n) c.reqCi.toNat size
      let taken := u.onChan n fun c => { c with reqCi := c.reqCi + BitVec.ofNat 16 (slotsOf size) }
      let unread := (c.reqPi - c.reqCi).toNat
      ((readable u n = false ∨ unread = 0) → pollChan u n = u) ∧
      (readable u n = true → 0 < unread → r.len.toNat ≤ 4076 → slotsOf size ≤ unread →
        (num all (size - 4) 4 ≠ (crc32 (all.take (size - 4))).toNat →
          pollChan u n = place taken n (rspMsg taken r cmd { status := 0x0103, detail := (crc32 (all.take (size - 4))).toNat })) ∧
        (num all (size - 4) 4 = (crc32 (all.take (size - 4))).toNat → ∀ i t, requestOf cmd r (cut all 16 r.len.toNat) = some i →
          exec i taken = .next t → pollChan u n = t)) ∧
      (readable u n = true → 0 < unread → (4076 < r.len.toNat ∨ unread < slotsOf size) →
        pollChan u n = place (u.onChan n fun c => { c with
          reqCi := c.reqPi
          resync := true }) n (rspMsg u r cmd { status := 0x0101, info := 1, detail := size }))

/-- An outstanding operation with nothing left open is finished by one notice, OK: it is no longer outstanding, and where
its session holds and four response slots are free and none waits the notice is placed in its channel's ring, else it
waits. A waiting notice is placed when four slots are free, and is then the one that a duplicate's answer repeats. A
cache entry whose 60 s are over goes, the younger stay. A challenge older than 10 s goes. Nothing beside the mailbox
and what was sent changes. exec answers a next state, the command having its own effect, under conditions on the state
and the operands alone, for challengeExpiry, completionNotice, noticeWaitRelease, cacheEntryExpiry. (R116, R117, R121,
R144) -/
def Obligations.NoticesAndCache : Prop :=
  ∀ s : State,
    (∀ (n : BitVec 3) (q : U16) (x : U32) (t : OpTok), s.hif.ops.find? (fun t => t.ch == n.toNat && t.session == q && t.txn == x) = some t →
      opOpen s t = false → sessionHolds s t = true → (∀ y ∈ s.hif.remotes, y.ch = n.toNat → y.txSeq < 2 ^ 32) → ∃ u, exec (.completionNotice n q x) s = .next u ∧ u.hif.ops = s.hif.ops.erase t ∧
        u = { s with hif := u.hif, out := u.out } ∧
        ((chan s n.toNat).waiting = [] → 4 ≤ rspFree (chan s n.toNat) →
          (chan u n.toNat).rspPi = (chan s n.toNat).rspPi + 1 ∧ (chan u n.toNat).waiting = [] ∧
          u.hif.window = ringWrite s.hif.window (rspBase n.toNat) (chan s n.toNat).rspPi.toNat (msgBytes n.toNat (noticeMsg s t {}))) ∧
        (((chan s n.toNat).waiting ≠ [] ∨ rspFree (chan s n.toNat) < 4) →
          (chan u n.toNat).waiting = (chan s n.toNat).waiting ++ [noticeMsg s t {}] ∧ u.hif.window = s.hif.window)) ∧
    (∀ (n : BitVec 3) (m : Msg), (chan s n.toNat).waiting = [m] → 4 ≤ rspFree (chan s n.toNat) →
      exec (.noticeWaitRelease n) s = .next (place (s.onChan n.toNat fun c => { c with
        waiting := []
        cache := c.cache.map fun e => if e.txn = m.txn then { e with notice := some m } else e }) n.toNat m)) ∧
    (∀ (n : BitVec 3) (x : U32), s.hif.chans.length = 8 → exec (.cacheEntryExpiry n x) s = .next { s with hif := { s.hif with
      chans := s.hif.chans.set n.toNat { chan s n.toNat with
        cache := (chan s n.toNat).cache.filter fun e => !(e.txn == x && decide (e.placed + secs 60 ≤ s.now)) } } }) ∧
    (∀ (n : BitVec 3) (h : Challenge), s.hif.chans.length = 8 → (chan s n.toNat).challenge = some h → h.at_ + secs 10 ≤ s.now →
      exec (.challengeExpiry n) s = .next { s with hif := { s.hif with chans := s.hif.chans.set n.toNat { chan s n.toNat with challenge := none } } })

/-- A first datagram of a head-end whose chain is good under an unrevoked root, unexpired and in DEPLOYED of this owner,
with fewer than four handshakes under way, a channel and a key slot free, is answered with step 2: the next session
id, the module's fresh share and nonce and its signature. A good proof within 2 s opens a session of transport 3 on
the highest free channel from 2 to 7 with at most Owner privilege, or on the credential's former channel within 60 s
with its last id and cache. A handshake not completed within 2 s goes, and is recorded as an event. exec answers a
next state, the command having its own effect, under conditions on the state and the operands alone, for
remoteHandshakeRequest, remoteHandshakeProof, handshakeTimeout. (R99, R126, R127, R426, Table 5.7) -/
def Obligations.RemoteHandshake : Prop :=
  ∀ s : State,
    (∀ h : HsReq, remoteServed s = true → h.chainOk = true → rootGood s h.root = true → notExpired s h.expiry = true → h.peer = false →
      (lifecycle s = 2 → h.ownerOk = true) → s.hif.handshakes.length < 4 → (highestFree s).isSome = true → s.hif.handshakes.length < freeSlots s →
      exec (.remoteHandshakeRequest h) s = .next { s with
        out := .handshake 2 s.hif.sidNext h.addr (stepTwo s h) :: s.out
        fresh := s.fresh + 2
        hif := { s.hif with
          sidNext := s.hif.sidNext + 1
          handshakes := s.hif.handshakes ++ [{ addr := h.addr, udp := h.udp, port := h.port, peer := false, sid := s.hif.sidNext, cred := h.cred, credOwner := h.ownerOk, priv := h.priv, expiry := h.expiry, since := s.now, share := h.share, nonce := h.nonce, own := freshShare s, ownNonce := freshNonce s }] } }) ∧
    (∀ (p : HsProof) (h : Handshake) (slot : Nat), s.hif.chans.length = 8 → s.hif.handshakes.find? (fun h => h.sid == p.sid && h.addr == p.addr) = some h → p.sigOk = true →
      s.now ≤ h.since + secs 2 → h.peer = false → freeSlot s = some slot →
      ∀ n inh, remoteChannel s h.cred = some (n, inh) → n < 8 →
        ∃ t, exec (.remoteHandshakeProof p) s = .next t ∧ (chan t n).owner = 3 ∧ (chan t n).priv = min (credPriv s h.priv) 3 ∧
          (chan t n).session = s.hif.sessions + 1 ∧ (∀ e, inh = some e → (chan t n).lastId = e.lastId ∧ (chan t n).cache = e.cache) ∧
          (inh = none → (chan t n).hasId = false ∧ (chan t n).cache = []) ∧ (∀ m, m ≠ n → chan t m = chan s m) ∧
          (∃ x ∈ t.hif.remotes, x.ch = n ∧ x.sid = h.sid ∧ x.last = s.now ∧ x.rxHi = 0 ∧ x.txSeq = 0 ∧ x.keys = sessionKeys h.own h.share (h.nonce ++ h.ownNonce)) ∧
          t = { s with hif := t.hif, sec := { s.sec with slots := s.sec.slots.set slot { occupied := true, hand := none, mask := 2 } } }) ∧
    (∀ (sid : U32) (h : Handshake), s.hif.handshakes.find? (fun h => h.sid == sid && decide (h.since + secs 2 ≤ s.now)) = some h →
      ∃ t, exec (.handshakeTimeout sid) s = .next t ∧ t.hif = { s.hif with handshakes := s.hif.handshakes.filter fun y => y.sid != sid } ∧
        t = { s with hif := t.hif, rcd := t.rcd, fresh := t.fresh })

/-- A datagram of no open session, and one of an open session that fails authentication or whose body passes 4,096 bytes,
is dropped and counted, one whose SEQ is not above the highest accepted less 64 or repeats one is dropped and counted;
a fresh one of 20 to 4,096 bytes is put whole into its channel's request ring where its slots fit, and its SEQ is
remembered. A session ends, freeing its channel, after 900 s without an authenticated datagram and when its credential
has expired. exec answers a next state, the command having its own effect, under conditions on the state and the
operands alone, for remoteDatagram, remoteSessionTimeout, credentialExpiry. (R128, R129, R103) -/
def Obligations.RemoteDatagrams : Prop :=
  ∀ (s : State) (r : Remote), s.hif.chans.length = 8 → r.ch < 8 →
    (∀ d : Datagram, s.hif.remotes.find? (fun r => r.sid == d.sid) = some r →
      (4096 < d.body.length → exec (.remoteDatagram d) s = .next { s with hif := { s.hif with dropReasm := s.hif.dropReasm + 1 } }) ∧
      (d.authOk = false → d.body.length ≤ 4096 → exec (.remoteDatagram d) s = .next { s with hif := { s.hif with dropAuth := s.hif.dropAuth + 1 } }) ∧
      (d.authOk = true → d.body.length ≤ 4096 → (d.seq.toNat + 64 ≤ r.rxHi ∨ d.seq.toNat ∈ r.rxSeen) →
        exec (.remoteDatagram d) s = .next { s with hif := { s.hif with dropReplay := s.hif.dropReplay + 1 } }) ∧
      (d.authOk = true → r.rxHi < d.seq.toNat + 64 → d.seq.toNat ∉ r.rxSeen → d.seq.toNat ≤ 2 ^ 32 → 20 ≤ d.body.length → d.body.length ≤ 4096 →
        ((chan s r.ch).reqPi - (chan s r.ch).reqCi).toNat + slotsOf d.body.length ≤ 64 →
        ∃ t, exec (.remoteDatagram d) s = .next t ∧ t = { s with hif := t.hif } ∧
          (chan t r.ch) = { chan s r.ch with reqPi := (chan s r.ch).reqPi + BitVec.ofNat 16 (slotsOf d.body.length) } ∧
          t.hif.window = ringWrite s.hif.window (reqBase r.ch) (chan s r.ch).reqPi.toNat d.body ∧
          (∀ m, m ≠ r.ch → chan t m = chan s m) ∧ ∀ x ∈ t.hif.remotes, x.sid = d.sid → x.last = s.now ∧ d.seq.toNat ∈ x.rxSeen)) ∧
    (∀ d : Datagram, (∀ x ∈ s.hif.remotes, x.sid ≠ d.sid) →
      exec (.remoteDatagram d) s = .next { s with hif := { s.hif with dropAuth := s.hif.dropAuth + 1 } }) ∧
    (∀ sid : U32, s.hif.remotes.find? (fun r => r.sid == sid && decide (r.last + secs 900 ≤ s.now)) = some r →
      ∃ t, exec (.remoteSessionTimeout sid) s = .next t ∧ (chan t r.ch).owner = 0 ∧ (∀ m, m ≠ r.ch → chan t m = chan s m) ∧ (∀ x ∈ t.hif.remotes, x.ch ≠ r.ch)) ∧
    (∀ sid : U32, s.hif.remotes.find? (fun r => r.sid == sid && !notExpired s (chan s r.ch).credExpiry) = some r →
      ∃ t, exec (.credentialExpiry sid) s = .next t ∧ (chan t r.ch).owner = 0 ∧ (∀ m, m ≠ r.ch → chan t m = chan s m) ∧ (∀ x ∈ t.hif.remotes, x.ch ≠ r.ch))

/-- A fragment of a datagram that is not yet whole is kept, at most 16 reassemblies at once; the fragment that completes a
datagram hands it on as that datagram; one beyond 4,124 bytes drops its reassembly and is counted; a reassembly of 2 s
goes and is counted. A service-port connection takes the highest free channel from 2 to 7 as transport 4 and its end
frees it; a message goes into its channel's request ring; with no channel free it is answered BUSY, channel 0xFF. exec
answers a next state, the command having its own effect, under conditions on the state and the operands alone, for
ipFragment, reassemblyTimeout, servicePortConnect, servicePortDisconnect, servicePortMessage. (R99, R100, R122, R126) -/
def Obligations.ReassemblyAndServicePort : Prop :=
  ∀ s : State,
    (∀ f : IpFrag, 4124 < f.off + f.data.length → exec (.ipFragment f) s = .next { s with hif := { s.hif with
      dropReasm := s.hif.dropReasm + 1
      reasms := s.hif.reasms.filter fun x => x.key != f.key } }) ∧
    (∀ f : IpFrag, f.off = 0 → f.more = false → f.data.length ≤ 4124 → s.hif.reasms.all (fun x => x.key != f.key) = true → s.hif.reasms.length < 16 →
      exec (.ipFragment f) s = exec (.remoteDatagram f.body) s) ∧
    (∀ f : IpFrag, f.more = true → f.off + f.data.length ≤ 4124 → s.hif.reasms.all (fun x => x.key != f.key) = true → s.hif.reasms.length < 16 →
      exec (.ipFragment f) s = .next { s with hif := { s.hif with reasms := { key := f.key, frags := [(f.off, f.data)], since := s.now, total := none } :: s.hif.reasms } }) ∧
    (∀ (k : U32) x, s.hif.reasms.find? (fun x => x.key == k && decide (x.since + secs 2 ≤ s.now)) = some x →
      exec (.reassemblyTimeout k) s = .next { s with hif := { s.hif with
        dropReasm := s.hif.dropReasm + 1
        reasms := s.hif.reasms.filter fun x => x.key != k } }) ∧
    (∀ n, ready s = true → s.hif.chans.length = 8 → highestFree s = some n →
      ∃ t, exec .servicePortConnect s = .next t ∧ (chan t n).owner = 4 ∧ (chan t n).priv = 0 ∧ (chan t n).session = s.hif.sessions + 1 ∧
        (∀ m, m ≠ n → chan t m = chan s m) ∧ t = { s with hif := t.hif }) ∧
    (∀ n : BitVec 3, s.hif.chans.length = 8 → (chan s n.toNat).owner = 4 →
      ∃ t, exec (.servicePortDisconnect n) s = .next t ∧ (chan t n.toNat).owner = 0 ∧ t.hif.usbUp = false ∧ ∀ m, m ≠ n.toNat → chan t m = chan s m) ∧
    (∀ (n : BitVec 3) (msg : List Byte), ready s = true → s.hif.usbUp = true → s.hif.chans.length = 8 → (chan s n.toNat).owner = 4 →
      ((chan s n.toNat).reqPi - (chan s n.toNat).reqCi).toNat + slotsOf msg.length ≤ 64 →
      ∃ t, exec (.servicePortMessage n msg) s = .next t ∧ t = { s with hif := t.hif } ∧
        chan t n.toNat = { chan s n.toNat with reqPi := (chan s n.toNat).reqPi + BitVec.ofNat 16 (slotsOf msg.length) } ∧
        t.hif.window = ringWrite s.hif.window (reqBase n.toNat) (chan s n.toNat).reqPi.toNat msg) ∧
    (∀ (n : BitVec 3) (msg : List Byte), ready s = true → s.hif.usbUp = true → (∀ m, m < 8 → (chan s m).owner ≠ 4) → (chan s n.toNat).owner ≠ 4 →
      ∃ b, exec (.servicePortMessage n msg) s = .next { s with out := .service b :: s.out } ∧ num b 16 2 = 0x0302 ∧ num b 20 1 = 0xFF)

/-- Channel n has its request ring at window offset 0x20000 n and its response ring 0x10000 above, 64 slots of 1,024 bytes
each, slot s at 0x400 s. A message of 1 to 4,096 bytes written from slot index i takes ceil(length / 1,024) slots, 1
to 4; its byte k lies at ring offset 0x400 (i mod 64) + k, past slot 63 from ring offset 0 on; every other byte of the
window reads as before; reading back gives the message, and a reading depends on the message's own bytes alone. (R103) -/
def Obligations.RingLayout : Prop :=
  (∀ n, n < 8 → reqBase n = 0x20000 * n ∧ rspBase n = 0x20000 * n + 0x10000) ∧
    ∀ (w : List Host.Cell) (base i : Nat) (b : List Byte), 1 ≤ b.length → b.length ≤ 4096 →
      let place_ := fun k => base + (0x400 * (i % 64) + k) % 0x10000
      1024 * (slotsOf b.length - 1) < b.length ∧ b.length ≤ 1024 * slotsOf b.length ∧ 1 ≤ slotsOf b.length ∧ slotsOf b.length ≤ 4 ∧
      (∀ k, k < b.length → winRead (ringWrite w base i b) (place_ k) = byteAt b k) ∧
      (∀ x, (∀ k, k < b.length → x ≠ place_ k) → winRead (ringWrite w base i b) x = winRead w x) ∧
      ringRead (ringWrite w base i b) base i b.length = b ∧
      ∀ (v : List Host.Cell) (n : Nat), (∀ k, k < n → winRead v (place_ k) = winRead w (place_ k)) → ringRead v base i n = ringRead w base i n

/-- A feeder quantities, energy registers, harmonics or gap records request that passes the checks of R111 (feeder 0 to 7,
a set of R167, channel 0 to 39 and orders within 1 to 63, reserved bytes 0) completes with OK and the fields of its
table in order: the four phase entries, 20 registers with their mode, accumulator, display and wrap, harmonic
magnitudes and phases, and the gap records from CURSOR on. Nothing beside the mailbox and the record of what was sent
changes. exec answers a next state, the command having its own effect, under conditions on the state and the operands
alone, for feederQuantities, energyRegisters, harmonics, gapRecords. (R164, R167, R170, R162, R78, Table 6.8) -/
def Obligations.MeteringReads : Prop :=
  ∀ (s : State) (r : Req),
    (∀ p : FeederQuantitiesP, (let rule : Rule := { cmd := 0x0201, len := 4, fields := (0x10, decide (p.feeder.toNat ≤ 7)) :: rsv3 0x11 p.rsv }; Accepted s r rule → ∃ t, exec (.feederQuantities r p) s = .next t ∧ HasRead s t r rule (le 8 s.met.resTick ++ le 4 (freqOf s (p.feeder.toNat / 4)) ++ le 4 (feederFlags s p.feeder.toNat) ++ ((List.range 4).map fun k => phaseBytes s p.feeder.toNat k).flatten))) ∧
    (∀ (p : EnergyRegistersP) (i : Nat), setIndex p.set.toNat = some i →
      (let rule : Rule := { cmd := 0x0202, len := 4, fields := (0x10, (setIndex p.set.toNat).isSome) :: rsv3 0x11 p.rsv }; Accepted s r rule → ∃ t, exec (.energyRegisters r p) s = .next t ∧ HasRead s t r rule (le 2 20 ++ le 2 0 ++ ((List.range 20).map fun k =>
          let g := (s.met.sets.getD i []).getD k Reg.reset
          le 2 (16 * (k / 4 + 1) + k % 4) ++ le 1 (bit (s.met.absMode.getD k false)) ++ le 1 0 ++ leInt 8 g.acc ++ le 4 (displayOf g.acc).1 ++ le 2 (displayOf g.acc).2 ++ le 2 0).flatten))) ∧
    (∀ p : HarmonicsP, (let rule : Rule := { cmd := 0x0203, len := 4, fields :=
        [(0x10, decide (p.channel.toNat < 40)), (0x11, decide (1 ≤ p.first.toNat) && decide (p.first.toNat ≤ 63)), (0x12, decide (p.first.toNat + p.count.toNat ≤ 64)), (0x13, p.rsv == 0)] }; Accepted s r rule → ∃ t, exec (.harmonics r p) s = .next t ∧ HasRead s t r rule (le 8 s.met.resTick ++ ((List.range p.count.toNat).map fun k =>
        let x := (mchan s p.channel.toNat).harm.getD (p.first.toNat - 1 + k) (0, 0)
        le 4 x.1 ++ leInt 2 x.2 ++ le 2 0).flatten))) ∧
    (∀ p : GapRecordsP, (let rule : Rule := { cmd := 0x020B, len := 12, fields := [(0x1A, p.prsv == 0)] }; Accepted s r rule → ∃ t, exec (.gapRecords r p) s = .next t ∧ HasRead s t r rule (page p.cursor p.max [] ((gapsKept s).map fun g => (g.num, g.bytes)))))

/-- A register of mode 0 adds each increment and one of mode 1 the absolute value of it; accumulator plus remainder is
exactly the sum, the remainder staying from 0 up to 1. DISP is floor(ACC / 10,000) modulo 2^32 and WRAP floor(ACC /
(10,000 x 2^32)) modulo 2^16. That the remainder is kept in this interval, downward also for negative increments, is
the model's choice (log entry 24). (R168, R169, R170) -/
def Obligations.EnergyRegistersLoseNothing : Prop :=
  (∀ (g : Reg) (abs : Bool) (inc : Rat), 0 ≤ g.rem → g.rem < 1 →
      let h := g.add abs inc
      (h.acc : Rat) + h.rem = g.acc + g.rem + (if abs = true ∧ inc < 0 then -inc else inc) ∧ 0 ≤ h.rem ∧ h.rem < 1) ∧
    ∀ acc : Int, ((displayOf acc).1 : Int) = Int.fmod (Int.fdiv acc 10000) (2 ^ 32) ∧
      ((displayOf acc).2 : Int) = Int.fmod (Int.fdiv acc 42949672960000) (2 ^ 16) ∧ (displayOf acc).1 < 2 ^ 32 ∧ (displayOf acc).2 < 2 ^ 16

/-- Correction segments and accumulation mode pass only under the open seal (else LIMIT_EXHAUSTED), are answered ACCEPTED
and wait for their round boundary, the former after its METROLOGY event. Unseal under an open seal answers the count
left, unseals accepted and not yet burned taken off (log entry 108); else it queues one fuse change and answers the
count less one in DEPLOYED. Reseal closes the seal at once and asks for its NAND store. Enabling the phasor stream
restarts SEQ and takes destination and port. After 3,600 s the seal closes. Nothing else changes. exec answers a next
state, the command having its own effect, under conditions on the state and the operands alone, for
correctionSegments, metrologyUnseal, accumulationMode, metrologyReseal, sealTimeout, phasorStream. (R145, R169, R156,
R173, R433, Table 6.8) -/
def Obligations.MetrologyCommands : Prop :=
  ∀ (s : State) (r : Req),
    (∀ p : CorrectionSegmentsP, (let rule : Rule := { cmd := 0x0204, len := 100, limit := if s.met.sealOpen then none else some (1, 1), fields := (0x10, decide (p.channel.toNat < 40)) :: (rsv3 0x11 p.rsv ++ pointChecks p.channel.toNat p.points) }; Accepted s r rule → ∃ t', exec (.correctionSegments r p) s = .next t' ∧ Completed s t' r rule { status := stAccepted } (fun s =>
        let t := metrologyEvent s 0x0204 p.channel.toNat 0 0 0
        { s with
          rcd := t.rcd
          changes := s.changes ++ [{ tok := tokOf s r 0x0204, what := .correctionSegments r p, round := changeRound s }] }))) ∧
    (∀ p : AccumulationModeP, (let rule : Rule := { cmd := 0x0206, len := 4, limit := if s.met.sealOpen then none else some (1, 1), fields := [(0x10, (regIndex p.reg.toNat).isSome), (0x12, decide (p.mode.toNat ≤ 1)), (0x13, p.rsv == 0)] }; Accepted s r rule → ∃ t, exec (.accumulationMode r p) s = .next t ∧ Admitted (.accumulationMode r p) s t r rule [])) ∧
    (let k : Rule := { cmd := 0x0205, len := 0, limit := if !s.met.sealOpen && lifecycle s == 2 && sealLeft s == 0 then some (1, 0) else none }
     (s.met.sealOpen = true → (Accepted s r k → ∃ t, exec (.metrologyUnseal r) s = .next t ∧ Completed s t r k (okWith (le 1 (sealLeft s) ++ le 3 0)) id)) ∧
     (s.met.sealOpen = false → (Accepted s r k → ∃ t, exec (.metrologyUnseal r) s = .next t ∧ Completed s t r k { status := stAccepted, data := le 1 (if lifecycle s = 2 then sealLeft s - 1 else sealLeft s) ++ le 3 0 } (fun s => { s with sec := { s.sec with fuseQueue := s.sec.fuseQueue ++ [{ tok := some (tokOf s r 0x0205), change := .metroUnseal, since := s.now }] } })))) ∧
    (let go := antePasses s 1080 && !deferredKind s .nand && !s.pow.warning
     (let rule : Rule := { cmd := 0x0207, len := 0 }; Accepted s r rule → ∃ t', exec (.metrologyReseal r) s = .next t' ∧ Completed s t' r rule (if go then { status := stAccepted } else { status := stAnte, info := 1, detail := availUnits s + 65536 * 108 }) (fun s =>
        let t := if s.met.sealOpen = true then metrologyEvent s 0x0207 0 0 0 0 else s
        { t with
          met := { s.met with sealOpen := false }
          pow := { s.pow with stores := s.pow.stores ++ [{ kind := .nand, mj := 1080, purpose := .nothing, tok := some (tokOf s r 0x0207), since := s.now, running := go }] } }))) ∧
    (∀ p : PhasorStreamP, (let rule : Rule := { cmd := 0x0208, len := 20, fields := [(0x10, decide (p.enable.toNat ≤ 1)), (0x11, p.ipv == 4 || p.ipv == 6)] }; Accepted s r rule → ∃ t, exec (.phasorStream r p) s = .next t ∧ Completed s t r rule {} (fun s => { s with met := { s.met with
        phEnable := p.enable == 1
        phIpv := p.ipv.toNat
        phPort := p.port
        phAddr := p.addr
        phSeq := if p.enable = 1 then 0 else s.met.phSeq } }))) ∧
    (s.met.sealOpen = true → s.met.sealAt + 8000 * 3600 ≤ s.now → exec .sealTimeout s = .next { s with met := { s.met with sealOpen := false } }) ∧
    (s.now < s.met.sealAt + 8000 * 3600 → exec .sealTimeout s = .next s)

/-- While metering runs: a strobe at a multiple of 6,250 cycles inside the tick joins the capture ring with the cycles to
the next strobe or the tick's end as its weight, and is processed on the supplies whose DSP is at work. A detector
whose time-out ends in the tick goes to NO_ZC with its run at 0. A calibration slot starts with the next spare; at its
ticks (as the tick boundary works on it) the spare judged good at 4 s takes the channel at 6 s, the own converter is
judged at 14 s, takes the channel back at 16 s or is retired, the spare staying. A phasor report is sent from port
47321 to the stream's destination at a reference instant in DECLARER with the stream on, SEQ moving by 1. Beside the
metering, the record and its reports nothing changes. exec answers a next state, the command having its own effect,
under conditions on the state and the operands alone, for sampleInstant, zcTimeout, calibrationSlot, phasorReport.
(R154, R155, R158, R159, R173, R174, R401, Table 7.5) -/
def Obligations.SamplesAndCalibration : Prop :=
  ∀ s : State,
    (∀ x : Sample, s.met.running = true → x.cycle % 6250 = 0 → x.cycle < s.clk.stretchTcl →
      let rec_ : SampleRec := { tick := s.clk.tick, at_ := s.clk.tclk + x.cycle, weight := min (x.cycle + 6250) s.clk.stretchTcl - x.cycle, codes := s.met.chans.map fun c => x.codes.getD c.conv 0 }
      ∃ t, exec (.sampleInstant x) s = .next t ∧ t.met.capture = (rec_ :: s.met.capture).take 96024 ∧
        t = strobe { s with met := { s.met with capture := (rec_ :: s.met.capture).take 96024 } } (fun sup => !dspLost s sup) rec_ ∧
        t = { s with met := t.met, rcd := t.rcd, fresh := t.fresh }) ∧
    (∀ ch : Nat, ch < 6 → s.met.running = true → (s.met.zcs.getD ch Zc.reset).lastSeen + 200000 * zcTimeoutMs s ch ≤ s.clk.tclk + s.clk.stretchTcl →
      exec (.zcTimeout ch) s = .next { s with met := { s.met with zcs := s.met.zcs.modify ch fun z => { z with state := .noZc, runLen := 0 } } }) ∧
    (∀ (m : CalMeas) (sp : Nat), nextSpare s = some sp → s.met.running = true → s.met.calSlot = none → s.met.calSince + 180000 ≤ s.now →
      let ch := if s.met.calNext < 40 then s.met.calNext else s.met.calRedo.headD 0
      exec (.calibrationSlot m) s = .next { s with met := { s.met with
        calSpare := sp
        calSince := s.now
        calSlot := some { ch := ch, spare := sp, own := (mchan s ch).conv, at_ := s.now, step := 0, meas := m } } }) ∧
    (∀ c : CalSlot, s.met.calSlot = some c →
      let served := fun conv k => { s with met := { s.met with
        chans := s.met.chans.modify c.ch (fun x => { x with conv := conv })
        winSubst := c.ch :: s.met.winSubst
        calSlot := some { c with step := k } } }
      let measured := fun conv r k => { s with met := { s.met with
        calLast := s.met.calLast.modify conv (fun _ => r)
        calSlot := some { c with step := k } } }
      (c.step = 0 → c.at_ + 8000 * 4 ≤ s.now → calGood c.meas.spOffset c.meas.spGain = true → calibrate s = measured c.spare (c.meas.spOffset, c.meas.spGain) 1) ∧
      (c.step = 1 → c.at_ + 8000 * 6 ≤ s.now → c.meas.usable1 = true → c.meas.match1 = true → calibrate s = served c.spare 2) ∧
      (c.step = 2 → c.at_ + 8000 * 14 ≤ s.now → calGood c.meas.offset c.meas.gain = true → calibrate s = measured c.own (c.meas.offset, c.meas.gain) 3) ∧
      (c.step = 2 → c.at_ + 8000 * 14 ≤ s.now → calGood c.meas.offset c.meas.gain = false → 2 < s.rcd.kitty.length →
        (kindOf (calibrate s) 2).retired.contains c.own = true ∧ (calibrate s).met.chans = s.met.chans ∧ (calibrate s).met.calSlot = none) ∧
      (c.step = 3 → c.at_ + 8000 * 16 ≤ s.now → c.meas.match2 = true → (calibrate s).met.chans = s.met.chans.modify c.ch (fun x => { x with conv := c.own }) ∧ (calibrate s).met.calSlot = none) ∧
      (c.step = 0 → s.now < c.at_ + 8000 * 4 → calibrate s = s)) ∧
    (∀ m : Nat, phasorM s = some m → s.met.phEnable = true → s.met.running = true → s.sys.mode = .declarer →
      exec .phasorReport s = .next { s with
        fresh := s.fresh + 128
        met := { s.met with phSeq := s.met.phSeq + 1 }
        out := .phasor 1 47321 s.met.phAddr s.met.phPort (phasorDatagram s m) :: s.out })

/-- A full window closes: its samples and weights are cleared on the supplies metered, its results carry the tick of its
last strobe, and the lanterns' energies, configuration and outputs do not change. At ticks 500 modulo 1,000 the alive
mark takes the tick, the feeders' powers and the clock. At tick 7,999 a regular checkpoint with the present
accumulators replaces the older copy and the newer one stays. Intervals that end at a round boundary enter one record
each with the next SEQ, and one NAND store of them all is asked for. exec answers a next state, the command having its
own effect, under conditions on the state and the operands alone, for aggregationWindow, aliveMark, checkpoint,
intervalClose. (R162, R75, R76, R171, R406, R15) -/
def Obligations.WindowsMarksAndIntervals : Prop :=
  ∀ s : State, s.met.running = true →
    (windowFull s = true →
      let which := fun sup => !dspLost s sup && decide (0 < s.met.winWeight.getD sup 0)
      ∃ t, exec .aggregationWindow s = .next t ∧ t.met.resTick = s.met.winTick ∧ t.met.resStep = s.met.winStep ∧ t.met.winStep = false ∧ t.met.winSubst = [] ∧
        (∀ i, i < s.met.winWeight.length → t.met.winWeight.getD i 0 = if which i then 0 else s.met.winWeight.getD i 0) ∧
        (∀ ch, ch < s.met.chans.length → (mchan t ch).win = if which (supplyOf ch) then [] else (mchan s ch).win) ∧
        t.met.lanterns = s.met.lanterns ∧ t.met.ckpts = s.met.ckpts ∧ t.met.capture = s.met.capture ∧
        t = { s with met := t.met, rcd := t.rcd, sys := t.sys, fresh := t.fresh }) ∧
    (s.clk.tick % 1000 = 500 → workLost s 4 = false →
      exec .aliveMark s = .next { s with met := { s.met with alive := { valid := true, tick := s.clk.tick, powers := s.ctl.cib.feederP, utc := rtcUtc s } } }) ∧
    (s.clk.tick % 8000 = 7999 → s.met.ckpts.length = 2 →
      ∃ t, exec .checkpoint s = .next t ∧ t = { s with met := { s.met with ckpts := t.met.ckpts, ckptAt := t.met.ckptAt } } ∧
        snapshot s false 0 ∈ t.met.ckpts ∧ (∀ c, newestCkpt s = some c → c ∈ t.met.ckpts) ∧
        (snapshot s false 0).sets = s.met.sets ∧ (snapshot s false 0).round = s.clk.tick / 8000) ∧
    (s.clk.stretch = false → s.clk.tick % 8000 = 0 → utcNow s % 900 = 0 → (∀ n ∈ lanternNodes s, refIndex n.node < 0xFF0000) →
      ∃ t, exec .intervalClose s = .next t ∧
        (t.pow = s.pow ∨ ∃ x l, x.kind = StoreKind.nand ∧ x.mj = 1080 ∧ x.purpose = StorePurpose.records l ∧ t.pow = { s.pow with stores := s.pow.stores ++ [x] }) ∧
        (∀ i q, i < 10 → profOf s (setProfile i) = some q → (∀ y ∈ s.pow.stores, ∀ l, y.purpose = .records l → (setProfile i, q.next) ∉ l) →
          ∃ x ∈ t.pow.stores, ∃ l, x.purpose = StorePurpose.records l ∧ (setProfile i, q.next) ∈ l) ∧
        t.rcd.flags15 = 0 ∧
        (∀ i, i < 10 → ∃ p, profOf t (setProfile i) = some p ∧ p.start = s.clk.tick ∧
          (∀ q, profOf s (setProfile i) = some q → p.next = q.next + 1 ∧ (p.recs.map (·.seq)).head? = some q.next)) ∧
        t = { s with rcd := t.rcd, pow := t.pow })

/-- A seating report, events, scorecard, interval profile, object seat, suit estimates or talon read that passes the
checks of R111 completes with OK and its table's fields: each engine with state and counts, each event record of 64
bytes and scorecard entry of 256 bytes oldest first, each interval record of the profile named, the object's tier and
engine, the feeder's lanterns by reference, and a complete talon trace oldest sample first (an incomplete one:
TRIG_TICK 0 and no samples). Nothing beside the mailbox, the record of what was sent and the counter of free values
changes. exec answers a next state, the command having its own effect, under conditions on the state and the operands
alone, for suitEstimates, readTalon, seatingReport, events, scorecard, intervalProfile, objectSeat. (R90, R393, R407,
R416, R417, R181, R212, Table 6.15) -/
def Obligations.RecordsReads : Prop :=
  ∀ (s : State) (r : Req),
    (∀ p : SeatingReportP, (let rule : Rule := { cmd := 0x0901, len := 12, fields := [(0x1A, p.prsv == 0)] }; Accepted s r rule → ∃ t, exec (.seatingReport r p) s = .next t ∧ HasRead s t r rule (page p.cursor p.max [] (engineCodes.map fun e => (e, le 1 e ++ le 1 (engineState s e) ++ le 2 0 ++ le 4 (fgAdmitted s e) ++ le 4 (bgAdmitted s e) ++ le 4 (fgMeasured s e)))))) ∧
    (∀ p : EventsP, (let rule : Rule := { cmd := 0x0903, len := 12, fields := [(0x1A, p.prsv == 0)] }; Accepted s r rule → ∃ t, exec (.events r p) s = .next t ∧ HasRead s t r rule (page p.cursor p.max [] ((s.rcd.ring ++ s.rcd.nand).reverse.map fun e => (e.seq, eventBytes e))))) ∧
    (∀ p : ScorecardP, (let rule : Rule := { cmd := 0x0904, len := 12, fields := [(0x1A, p.prsv == 0)] }; Accepted s r rule → ∃ t, exec (.scorecard r p) s = .next t ∧ HasRead s t r rule (page p.cursor p.max [] (s.rcd.score.reverse.map fun e => (e.entry, scoreBytes e))))) ∧
    (∀ (p : IntervalProfileP) (x : Profile), profOf s p.obj = some x → (let rule : Rule := { cmd := 0x0905, len := 16, fields := [(0x1A, p.prsv == 0), (0x1C, profileExists s p.obj)] }; Accepted s r rule → ∃ t, exec (.intervalProfile r p) s = .next t ∧ HasRead s t r rule (page p.cursor p.max [] (x.recs.reverse.map fun e => (e.seq, e.bytes))))) ∧
    (∀ (p : ObjectSeatP) (tier engine : Nat), objectSeat s p.obj = some (tier, engine) → (let rule : Rule := { cmd := 0x0906, len := 4, fields := [(0x10, (objectSeat s p.obj).isSome)] }; Accepted s r rule → ∃ t, exec (.objectSeat r p) s = .next t ∧ HasRead s t r rule (le 1 tier ++ le 1 engine ++ le 2 0))) ∧
    (∀ p : SuitEstimatesP, (let rule : Rule := { cmd := 0x020A, len := 16, fields := (0x1A, p.prsv == 0) :: (0x1C, decide (p.feeder.toNat ≤ 7)) :: rsv3 0x1D p.rsv }; Accepted s r rule → ∃ t, exec (.suitEstimates r p) s = .next t ∧ HasRead s t r rule (page p.cursor p.max [] ((((lanternNodes s).filter fun n => n.feeder == p.feeder.toNat).foldl (fun a n => putSorted a (fun x => x.node.toNat) n) []).map (suitItem s))))) ∧
    (∀ p : ReadTalonP, let t := traceOf s p.cp.toNat p.trace.toNat
      (let rule : Rule := { cmd := 0x0309, len := 16, fields := [(0x1A, p.prsv == 0), (0x1C, (slicePairs s).contains p.cp.toNat), (0x1D, decide (p.trace.toNat < 8)), (0x1E, p.rsv == 0)] }; Accepted s r rule → ∃ t', exec (.readTalon r p) s = .next t' ∧ HasRead s t' r rule (if t.phase = 3 then page p.cursor p.max (le 8 t.trigTick) (t.samples.reverse.mapIdx fun k v => (k, leInt 4 v)) else page p.cursor p.max (le 8 0) [])))

/-- Loop state, stage status, node status, associations, duty-cycle accounts, time status, group state, pair status, debug
challenge and prove identity, passing the checks of R111, complete with OK and the fields of their tables. The debug
challenge is remembered with its time; nothing else beside the mailbox, the record of what was sent and the counter of
free values changes. Port counters answer the sixteen counters, and CLEAR 1 then clears those of that port only.
Signature and challenge bytes are free values. exec answers a next state, the command having its own effect, under
conditions on the state and the operands alone, for loopState, stageStatus, nodeStatus, associations,
dutyCycleAccounts, timeStatus, portCounters, groupState, pairStatus, debugChallenge, proveIdentity. (R206, R226, R281,
R257, R304, R319, R347, R388, Table 6.11, Table 6.12, Table 6.16) -/
def Obligations.StateReads : Prop :=
  ∀ (s : State) (r : Req),
    (∀ (p : LoopStateP) (l : LoopCfg), cfgLoopOf s.cfg (refIndex p.loop) = some l →
      (let rule : Rule := { cmd := 0x0306, len := 4, fields := [(0x10, loopRef s.cfg p.loop)] }; Accepted s r rule → ∃ t, exec (.loopState r p) s = .next t ∧ HasRead s t r rule (loopStateData s l))) ∧
    (∀ (p : StageStatusP) (x : StageRt), stageRt s p.link.toNat p.addr.toNat = some x →
      (let rule : Rule := { cmd := 0x0402, len := 4, fields := [(0x10, decide (p.link.toNat < 2)), (0x11, (stageCfg s.cfg p.link.toNat p.addr.toNat).isSome), (0x12, p.rsv == 0)] }; Accepted s r rule → ∃ t, exec (.stageStatus r p) s = .next t ∧ HasRead s t r rule (stageData x))) ∧
    (∀ (p : NodeStatusP) (n : NodeRec), nodeRec s p.node = some n →
      let k : Rule := { cmd := 0x0503, len := 4, fields := [(0x10, (nodeRec s p.node).isSome)] }
      (assocOf s p.node = none → (Accepted s r k → ∃ t, exec (.nodeStatus r p) s = .next t ∧ HasRead s t r k (le 1 (nstateOf s p.node) ++ (le 1 0 ++ le 1 0 ++ le 1 n.origin ++ le 4 0 ++ le 2 0 ++ le 2 0 ++ le 8 0)))) ∧
      ∀ a, assocOf s p.node = some a → (Accepted s r k → ∃ t, exec (.nodeStatus r p) s = .next t ∧ HasRead s t r k (le 1 (nstateOf s p.node) ++ (le 1 a.port ++ le 1 a.hops ++ le 1 n.origin ++ le 4 a.parent.toNat ++ le 2 a.level ++ leInt 2 a.rssi ++ le 8 a.lastTick)))) ∧
    (∀ p : AssociationsP, (let rule : Rule := { cmd := 0x0504, len := 12, fields := [(0x1A, p.prsv == 0)] }; Accepted s r rule → ∃ t, exec (.associations r p) s = .next t ∧ HasRead s t r rule (page p.cursor p.max [] ((s.mesh.assocs.map fun a => (a.node.toNat, le 4 a.node.toNat ++ le 1 (nstateOf s a.node) ++ le 1 a.port ++ le 1 a.hops ++ le 1 (((nodeRec s a.node).map (·.origin)).getD 0))).foldl (fun l x => putSorted l (·.1) x) [])))) ∧
    (∀ p : DutyCycleAccountsP, let l := (bandsOf (profileInForce s).1).filter fun b => b.port == p.port.toNat
      (let rule : Rule := { cmd := 0x0506, len := 4, fields := portField p.port :: rsv3 0x11 p.rsv }; Accepted s r rule → ∃ t, exec (.dutyCycleAccounts r p) s = .next t ∧ HasRead s t r rule (le 2 l.length ++ le 2 0 ++ (l.map fun b => le 1 b.sub ++ le 1 0 ++ le 2 b.limit ++ le 4 (ceilDiv (dutyUsed s b.port b.sub) 1000)).flatten))) ∧
    (∃ q, (let rule : Rule := { cmd := 0x0601, len := 0 }; Accepted s r rule → ∃ t, exec (.timeStatus r) s = .next t ∧ HasRead s t r rule (le 1 s.eth.servo.lock ++ le 1 0 ++ leInt 2 s.eth.taiUtc ++ le 4 s.clk.epoch.toNat ++ leInt 8 s.eth.servo.offset ++ leInt 4 q ++ le 4 (holdSecs s)))) ∧
    (∀ p : PortCountersP, (let rule : Rule := { cmd := 0x0608, len := 4, fields := [(0x10, decide (1 ≤ p.port.toNat) && decide (p.port.toNat ≤ 3)), (0x11, decide (p.clear.toNat ≤ 1)), (0x12, p.rsv == 0)] }; Accepted s r rule → ∃ t, exec (.portCounters r p) s = .next t ∧ Completed s t r rule (okWith (((portCounts s p.port.toNat).map (le 8)).flatten)) (fun s => if p.clear = 1 then s.onPort p.port.toNat fun x => { x with counters := List.replicate 16 0, outMark := s.out.length } else s))) ∧
    (∀ n k : Nat, k ≠ 2 → k ≠ 3 → n = 3 ∨ (k ≠ 12 ∧ k ≠ 13) → (portCounts s n)[k]? = (ethPort s n).counters[k]?) ∧
    (∀ p : GroupStateP, let x := groupState s p.group.toNat (curRound s)
      ∃ u, (let rule : Rule := { cmd := 0x0722, len := 4, fields := [(0x10, groupIdx s p.group), (0x12, p.rsv == 0)] }; Accepted s r rule → ∃ t, exec (.groupState r p) s = .next t ∧ HasRead s t r rule (le 2 x.1 ++ le 1 x.2 ++ le 1 0 ++ le 8 u)) ∧
        (u ≠ 0xFFFFFFFFFFFFFFFF → (groupState s p.group.toNat u).1 ≠ x.1)) ∧
    (let rule : Rule := { cmd := 0x0801, len := 0 }; Accepted s r rule → ∃ t, exec (.pairStatus r) s = .next t ∧ HasRead s t r rule (le 1 (statusRole s) ++ le 1 (partnerState s) ++ le 1 (linkBits s) ++ le 1 s.cfg.dealer ++ le 4 s.pair.claim.toNat ++ le 4 s.pair.partnerClaim.toNat ++ le 1 (bit s.pair.cfgMatch) ++ le 3 0 ++ le 8 s.pair.lastTakeover)) ∧
    (∃ b, b.length = 32 ∧ (let rule : Rule := { cmd := 0x0A0A, len := 0 }; Accepted s r rule → ∃ t, exec (.debugChallenge r) s = .next t ∧ Completed s t r rule (okWith b) (fun s => { s with sec := { s.sec with debugChal := some (b, s.now) } }))) ∧
    ∀ p : ProveIdentityP, ∃ sig, sig.length = 96 ∧ (let rule : Rule := { cmd := 0x0A0C, len := 32 }; Accepted s r rule → ∃ t, exec (.proveIdentity r p) s = .next t ∧ HasRead s t r rule sig)

/-- A suit-code assignment, loop, output stage, string, chain port, safe level, node or regional-profile command that
passes its checks is answered ACCEPTED and its change waits for the round boundary of R92 (of the present round when
read by tick 7,199, else of the next). A loop is admitted only when the whole configuration that results has seats,
its answer naming the seat; assignments and nodes only within their capacity, else the answer is NO_SEAT_CAPACITY and
nothing changes. exec answers a next state, the command having its own effect, under conditions on the state and the
operands alone, for assignSuitCodes, configureLoop, removeLoop, configureOutputStage, configureString,
configureChainPort, safeLevel, addNode, removeNode, confirmRegionalProfile. (R91, R92, R176, R189, R225, R233, R248,
R279, R255, Table 6.9) -/
def Obligations.ConfigurationOfMeteringControlAndOutputs : Prop :=
  ∀ (s : State) (r : Req),
    (∀ p : ConfigureLoopP, let k : Rule := { cmd := 0x0301, len := 28, fields := loopChecks s p }
      let c := cfgOf (.configureLoop r p) (planned s)
      (admission s c = none → (Accepted s r k → ∃ t, exec (.configureLoop r p) s = .next t ∧ Admitted (.configureLoop r p) s t r k (loopSeat s c p.output.toNat))) ∧
      ∀ bad, admission s c = some bad → (Accepted s r k → ∃ t, exec (.configureLoop r p) s = .next t ∧ Completed s t r k bad id)) ∧
    (∀ p : RemoveLoopP, (let rule : Rule := { cmd := 0x0302, len := 4, fields := [(0x10, loopRef (planned s) p.loop)] }; Accepted s r rule → ∃ t, exec (.removeLoop r p) s = .next t ∧ Admitted (.removeLoop r p) s t r rule [])) ∧
    (∀ p : AssignSuitCodesP, let k : Rule := { cmd := 0x0209, len := 4 + 8 * p.n.toNat, fields := (0x10, decide (p.feeder.toNat ≤ 7)) :: (0x11, p.rsv == 0) :: suitChecks p.feeder.toNat 0 (planned s) p.items }
      let c := cfgOf (.assignSuitCodes r p) (planned s)
      (codedOn c p.feeder.toNat ≤ 512 → (Accepted s r k → ∃ t, exec (.assignSuitCodes r p) s = .next t ∧ Admitted (.assignSuitCodes r p) s t r k [])) ∧
      (512 < codedOn c p.feeder.toNat → (Accepted s r k → ∃ t, exec (.assignSuitCodes r p) s = .next t ∧ Completed s t r k { status := 0x0301, info := 0x01FF } id))) ∧
    (∀ p : ConfigureOutputStageP, (let rule : Rule := { cmd := 0x0401, len := 4, fields := stageChecks p }; Accepted s r rule → ∃ t, exec (.configureOutputStage r p) s = .next t ∧ Admitted (.configureOutputStage r p) s t r rule [])) ∧
    (∀ p : ConfigureStringP, (let rule : Rule := { cmd := 0x0404, len := 8, fields := stringChecks p }; Accepted s r rule → ∃ t, exec (.configureString r p) s = .next t ∧ Admitted (.configureString r p) s t r rule [])) ∧
    (∀ p : ConfigureChainPortP, (let rule : Rule := { cmd := 0x0406, len := 4, fields := [(0x10, decide (p.port.toNat < 2)), (0x11, decide (p.enum.toNat ≤ 1)), (0x12, decide (p.expect.toNat ≤ 512))] }; Accepted s r rule → ∃ t, exec (.configureChainPort r p) s = .next t ∧ Admitted (.configureChainPort r p) s t r rule [])) ∧
    (∀ p : SafeLevelP, (let rule : Rule := { cmd := 0x040A, len := 8, fields := safeChecks s p }; Accepted s r rule → ∃ t, exec (.safeLevel r p) s = .next t ∧ Admitted (.safeLevel r p) s t r rule [])) ∧
    (∀ p : AddNodeP, let k : Rule := { cmd := 0x0501, len := 20, fields := nodeChecks s p }
      let c := cfgOf (.addNode r p) (planned s)
      (nodesFit c = true → (Accepted s r k → ∃ t, exec (.addNode r p) s = .next t ∧ Admitted (.addNode r p) s t r k [])) ∧ (nodesFit c = false → (Accepted s r k → ∃ t, exec (.addNode r p) s = .next t ∧ Completed s t r k { status := 0x0301, info := 0x01FF } id))) ∧
    (∀ p : RemoveNodeP, (let rule : Rule := { cmd := 0x0502, len := 4, fields := [(0x10, (planned s).nodes.any fun n => n.node == p.node)] }; Accepted s r rule → ∃ t, exec (.removeNode r p) s = .next t ∧ Admitted (.removeNode r p) s t r rule [])) ∧
    ∀ p : ConfirmRegionalProfileP, (let rule : Rule := { cmd := 0x0505, len := 4, fields := profileChecks s p }; Accepted s r rule → ∃ t, exec (.confirmRegionalProfile r p) s = .next t ∧ Admitted (.confirmRegionalProfile r p) s t r rule [])

/-- Peer seats, port, IEEE 1588, TELL and TAI-UTC commands, groups, schedules, zone rules, light waves, the dealer of a
pair and the erasure of the settings, passing their checks, are answered ACCEPTED and their change waits for the round
boundary of R92; commissioning complete is answered ACCEPTED and arbitration is then due, and it is BUSY while an
earlier one waits; a group or a schedule beyond its capacity is answered NO_SEAT_CAPACITY and nothing changes. A
schedule or wave whose inner length and counts disagree fails the length check. exec answers a next state, the command
having its own effect, under conditions on the state and the operands alone, for commissioningComplete, peerSeats,
configurePort, configureIeee1588, configureTell, taiUtcOffset, groupMembers, deleteGroup, defineSchedule,
deleteSchedule, zoneRules, configureLightWave, configurePair, eraseSettings. (R92, R288, R303, R310, R312, R320, R337,
R348, R354, R360, Table 6.12, Table 6.13) -/
def Obligations.ConfigurationOfTimeSchedulesAndPair : Prop :=
  ∀ (s : State) (r : Req),
    (∀ p : PeerSeatsP, (let rule : Rule := { cmd := 0x0508, len := 40 }; Accepted s r rule → ∃ t, exec (.peerSeats r p) s = .next t ∧ Admitted (.peerSeats r p) s t r rule [])) ∧
    (∀ p : ConfigurePortP, (let rule : Rule := { cmd := 0x0602, len := 8, fields := [(0x10, decide (1 ≤ p.port.toNat) && decide (p.port.toNat ≤ 3)),
      (0x11, if p.port = 1 then decide (p.speed.toNat ≤ 3) else p.speed == 0 || p.speed == 3),
      (0x12, (p.maxf == 1522 || p.maxf == 2000 || p.maxf == 9018) && !(p.port == 3 && p.maxf == 1522 && paired s)), (0x14, pflagsOk p.port.toNat p.pflags)] }; Accepted s r rule → ∃ t, exec (.configurePort r p) s = .next t ∧ Admitted (.configurePort r p) s t r rule [])) ∧
    (∀ p : ConfigureIeee1588P, (let rule : Rule := { cmd := 0x0603, len := 8, fields := [(0x10, decide (p.clock.toNat ≤ 1)), (0x11, p.steps == 1 || p.steps == 2),
      (0x12, decide (p.domain.toNat ≤ 127)), (0x13, decide (p.ports.toNat ≤ 7)), (0x14, p.rsv == 0)] }; Accepted s r rule → ∃ t, exec (.configureIeee1588 r p) s = .next t ∧ Admitted (.configureIeee1588 r p) s t r rule [])) ∧
    (∀ p : ConfigureTellP, (let rule : Rule := { cmd := 0x0604, len := 20, fields := [(0x10, decide (p.tell.toNat ≤ 7)), (0x11, decide (p.enable.toNat ≤ 1)), (0x14, !(p.enable == 1 && p.mask.all (· == 0)))] }; Accepted s r rule → ∃ t, exec (.configureTell r p) s = .next t ∧ Admitted (.configureTell r p) s t r rule [])) ∧
    (∀ p : TaiUtcOffsetP, (let rule : Rule := { cmd := 0x0605, len := 12, fields := [(0x12, p.rsv == 0)] }; Accepted s r rule → ∃ t, exec (.taiUtcOffset r p) s = .next t ∧ Admitted (.taiUtcOffset r p) s t r rule [])) ∧
    (∀ p : GroupMembersP, let k : Rule := { cmd := 0x0701, len := 8 + 4 * p.n.toNat, fields := groupChecks s p }
      let c := cfgOf (.groupMembers r p) (planned s)
      (groupsFit c = true → (Accepted s r k → ∃ t, exec (.groupMembers r p) s = .next t ∧ Admitted (.groupMembers r p) s t r k [])) ∧ (groupsFit c = false → (Accepted s r k → ∃ t, exec (.groupMembers r p) s = .next t ∧ Completed s t r k { status := 0x0301, info := 0x01FF } id))) ∧
    (∀ p : DeleteGroupP, (let rule : Rule := { cmd := 0x0702, len := 4, fields := [(0x10, groupRef (planned s) p.group)] }; Accepted s r rule → ∃ t, exec (.deleteGroup r p) s = .next t ∧ Admitted (.deleteGroup r p) s t r rule [])) ∧
    (∀ p : DefineScheduleP, let want := 16 + 8 * num p.rule 7 1 + 8 * num p.rule 6 1
      let k : Rule := { cmd := 0x0703, len := if p.rlen.toNat = want then 8 + p.rlen.toNat else r.len.toNat + 1, fields := schedChecks s p }
      let c := cfgOf (.defineSchedule r p) (planned s)
      (c.scheds.length ≤ 512 → (Accepted s r k → ∃ t, exec (.defineSchedule r p) s = .next t ∧ Admitted (.defineSchedule r p) s t r k [])) ∧ (512 < c.scheds.length → (Accepted s r k → ∃ t, exec (.defineSchedule r p) s = .next t ∧ Completed s t r k { status := 0x0301, info := 0x01FF } id))) ∧
    (∀ p : DeleteScheduleP, (let rule : Rule := { cmd := 0x0704, len := 4, fields := [(0x10, refClass p.sched == 4 && (planned s).scheds.any fun c => c.sched == refIndex p.sched)] }; Accepted s r rule → ∃ t, exec (.deleteSchedule r p) s = .next t ∧ Admitted (.deleteSchedule r p) s t r rule [])) ∧
    (∀ p : ZoneRulesP, (let rule : Rule := { cmd := 0x0705, len := 4 + p.zlen.toNat, fields := (0x10, decide (1 ≤ p.zlen.toNat) && decide (p.zlen.toNat ≤ 64)) :: rsv3 0x11 p.rsv ++ [(0x14, (parseTz p.tz).isSome)] }; Accepted s r rule → ∃ t, exec (.zoneRules r p) s = .next t ∧ Admitted (.zoneRules r p) s t r rule [])) ∧
    (∀ p : ConfigureLightWaveP, let want := if p.wlen = 0 then 0 else 28 + 8 * (num p.rcd 22 1 + num p.rcd 24 2)
      (let rule : Rule := { cmd := 0x0706, len := if p.wlen.toNat = want then 8 + p.wlen.toNat else r.len.toNat + 1, fields := waveChecks s p }; Accepted s r rule → ∃ t, exec (.configureLightWave r p) s = .next t ∧ Admitted (.configureLightWave r p) s t r rule [])) ∧
    (∀ p : ConfigurePairP, (let rule : Rule := { cmd := 0x0803, len := 4, fields := [(0x10, decide (p.dealer.toNat ≤ 2)), (0x11, p.rsv == 0)] }; Accepted s r rule → ∃ t, exec (.configurePair r p) s = .next t ∧ Admitted (.configurePair r p) s t r rule [])) ∧
    (∀ p : EraseSettingsP, (let rule : Rule := { cmd := 0x0908, len := 4, fields := [(0x10, p.confirm == 0x45524153)] }; Accepted s r rule → ∃ t, exec (.eraseSettings r p) s = .next t ∧ Admitted (.eraseSettings r p) s t r rule [])) ∧
    (s.sys.arbTok = none → (let rule : Rule := { cmd := 0x0104, len := 0 }; Accepted s r rule → ∃ t, exec (.commissioningComplete r) s = .next t ∧ Completed s t r rule { status := stAccepted } (fun u => { u with sys := { u.sys with
      arbDue := true
      arbSince := u.now
      arbTok := some (tokOf s r 0x0104) } }))) ∧
    (∀ h, s.sys.arbTok = some h → (let rule : Rule := { cmd := 0x0104, len := 0 }; Accepted s r rule → ∃ t, exec (.commissioningComplete r) s = .next t ∧ Completed s t r rule { status := stBusy, detail := busyDetail h } id))

/-- A flush command triggers a flush, an earlier trigger standing, and is answered ACCEPTED. A trigger of an earlier tick
starts a flush that copies up to the newest record: one NAND store, running when its ante passes with none of its kind
deferred and no warning. When the flush's store completes, its records leave the ring for NAND, in order, and each
later record stays. A store of interval records that completes marks them as held by NAND. A key store that completes
puts the key into its hand. A store deferred for more than 60 s raises its gate's alarm once the stack has reached
12.0 V. exec answers a next state, the command having its own effect, under conditions on the state and the operands
alone, for flushEventRing, anteAlarm, storeComplete, eventRingFlush, flushComplete. (R413, R414, R416, R70, R72, R442,
Table 3.4) -/
def Obligations.FlushesAndStores : Prop :=
  ∀ (s : State) (r : Req),
    (let rule : Rule := { cmd := 0x0907, len := 0 }; Accepted s r rule → ∃ t, exec (.flushEventRing r) s = .next t ∧ Completed s t r rule { status := stAccepted } (fun s => { s with rcd := { s.rcd with
        flushTrig := some (s.rcd.flushTrig.getD s.now)
        flushToks := s.rcd.flushToks ++ [tokOf s r 0x0907] } })) ∧
    (∀ t, s.rcd.flushTrig = some t → t < s.now → s.rcd.flushing = none → flushAsked s = false →
      let go := antePasses s 1080 && !deferredKind s .nand && !s.pow.warning
      exec .eventRingFlush s = .next { s with
        pow := { s.pow with stores := s.pow.stores ++ [{ kind := .nand, mj := 1080, purpose := .flush, tok := none, since := s.now, running := go }] }
        rcd := if go then { s.rcd with
            flushTrig := none
            flushing := some s.rcd.nextSeq
            flushNow := s.rcd.flushNow ++ s.rcd.flushToks
            flushToks := [] }
          else { s.rcd with flushTrig := none } }) ∧
    (∀ (x : Store) (hi : Nat), firstRunning s .nand = some x → x.purpose = .flush → s.rcd.flushing = some hi → s.rcd.dropped = 0 → s.rcd.flushNow = [] →
      s.rcd.flushAgain = false → s.rcd.flushToks = [] → s.rcd.nand.length + s.rcd.ring.length ≤ 32768 * eventSegments s →
      exec .flushComplete s = .next { s with
        pow := { s.pow with stores := s.pow.stores.erase x }
        rcd := { s.rcd with
          nand := s.rcd.ring.filter (fun e => decide (e.seq < hi)) ++ s.rcd.nand
          ring := s.rcd.ring.filter fun e => decide (hi ≤ e.seq)
          committed := s.rcd.committed + (s.rcd.ring.filter fun e => decide (e.seq < hi)).length
          flushing := none
          flushNow := [] } }) ∧
    (∀ (k : StoreKind) (x : Store), firstRunning s k = some x →
      (x.purpose = .flush → exec (.storeComplete k) s = .next s) ∧
      (∀ l, x.purpose = .records l → exec (.storeComplete k) s = .next { s with
        pow := { s.pow with stores := s.pow.stores.erase x }
        rcd := { s.rcd with profiles := s.rcd.profiles.map fun p => { p with recs := p.recs.map fun e => if l.contains (p.obj, e.seq) then { e with stored := true } else e } } }) ∧
      (x.purpose = .assocs → exec (.storeComplete k) s = .next { s with
        pow := { s.pow with stores := s.pow.stores.erase x }
        mesh := { s.mesh with assocStored := s.mesh.assocs, joinStored := s.mesh.joinNbrs } }) ∧
      (∀ hand key, x.purpose = .key hand key → hand < s.sec.hands.length → x.tok = none →
        ∃ t, exec (.storeComplete k) s = .next t ∧ t.sec.hands.getD hand none = some key ∧ t.pow.stores = s.pow.stores.erase x ∧
          (∀ h, h ≠ hand → t.sec.hands.getD h none = s.sec.hands.getD h none) ∧ (∀ y ∈ t.sec.stages, y.hand ≠ hand) ∧ t.met = s.met ∧ t.cfg = s.cfg)) ∧
    (s.pow.seen12V = false → exec .anteAlarm s = .next s) ∧
    (∀ x ∈ s.pow.stores, s.pow.seen12V = true → x.running = false → x.since + 8000 * 60 < s.now →
      ∃ t, exec .anteAlarm s = .next t ∧ t.alarmOn 0x0105 (gateCode x.kind) = true ∧ t = { s with sys := t.sys, rcd := t.rcd, fresh := t.fresh }) ∧
    ((∀ x ∈ s.pow.stores, x.running = true ∨ s.now ≤ x.since + 8000 * 60) → exec .anteAlarm s = .next s)

/-- A scrub that falls due notes its round and moves nothing else where nothing is found; one that is not due changes
nothing. An uncorrectable SRAM error retires its bank, a NAND read of more than 40 wrong bits its block; a DRAM
location with an uncorrectable error is excluded once and reported; a checkpoint copy with one is bad from then on; a
loader sector with a bad CRC raises its alarm; a NOR sector outside the loader and the factory data is rewritten ten
years after its last program, and when a scrub finds it bad, and its time noted, while a loader sector is not
rewritten, nor a factory-data sector outside PROVISIONING (R14 against Table 15.4: the model's choice, log entry 178);
a NAND block above 24 wrong bits or of 365 days is rewritten and its time noted. exec answers a next state, the
command having its own effect, under conditions on the state and the operands alone, for sramScrub, dramScrub,
mramScrub, norScrub, norRefresh, nandRetentionRead. (R402, R403, R404, R405, R15, R16, Table 15.3, Table 15.4) -/
def Obligations.ScrubsRetireWhatFails : Prop :=
  ∀ s : State, s.rcd.scrubs.length = 4 →
    let noted := fun n => { s with rcd := { s.rcd with scrubs := s.rcd.scrubs.set n (s.clk.tick / 8000) } }
    (scrubDue s 0 64 = true → s.rcd.sramHits = [] → exec (.sramScrub []) s = .next (noted 0)) ∧
    (scrubDue s 1 86400 = true → s.rcd.dramHits = [] → exec (.dramScrub []) s = .next (noted 1)) ∧
    (scrubDue s 2 3600 = true → exec (.mramScrub []) s = .next (noted 2)) ∧
    (scrubDue s 3 86400 = true → exec (.norScrub []) s = .next (noted 3)) ∧
    (∀ h, scrubDue s 0 64 = false → exec (.sramScrub h) s = .next s) ∧
    (∀ h : ScrubHit, scrubDue s 0 64 = true → h.hard = true → s.rcd.kitty.length = 6 →
      ∃ t, exec (.sramScrub [h]) s = .next t ∧ (kindOf t 3).retired.contains h.index = true ∧ t = { s with rcd := t.rcd, sys := t.sys, pow := t.pow, fresh := t.fresh }) ∧
    (∀ h : ScrubHit, scrubDue s 1 86400 = true → h.hard = true →
      ∃ t, exec (.dramScrub [h]) s = .next t ∧ t.rcd.dramExcluded = (if s.rcd.dramExcluded.contains h.addr then s.rcd.dramExcluded else h.addr :: s.rcd.dramExcluded) ∧
        t = { s with rcd := t.rcd, fresh := t.fresh }) ∧
    (∀ h : ScrubHit, scrubDue s 2 3600 = true → h.hard = true → h.index < 2 → s.met.ckpts.length = 2 →
      ∃ t, exec (.mramScrub [h]) s = .next t ∧ (t.met.ckpts.getD h.index Ckpt.reset).valid = false ∧ t.met.ckpts.getD (1 - h.index) Ckpt.reset = s.met.ckpts.getD (1 - h.index) Ckpt.reset ∧
        t = { s with met := { s.met with ckpts := t.met.ckpts }, rcd := t.rcd, fresh := t.fresh }) ∧
    (∀ i, scrubDue s 3 86400 = true → i < 4 → ∃ t, exec (.norScrub [i]) s = .next t ∧ t.alarmOn 0x0905 i = true ∧ t = { s with rcd := t.rcd, sys := t.sys, fresh := t.fresh }) ∧
    (∀ i, scrubDue s 3 86400 = true → 8 ≤ i → exec (.norScrub [i]) s = .next { s with rcd := { s.rcd with
      scrubs := s.rcd.scrubs.set 3 (s.clk.tick / 8000)
      norProg := (i, s.now) :: s.rcd.norProg.filter fun e => e.1 != i
      norRemap := s.rcd.norRemap.filter fun e => e != i } }) ∧
    (∀ n, 8 ≤ n → (∀ e ∈ s.rcd.norProg, e.1 = n → e.2 + 8000 * 315576000 ≤ s.now) → exec (.norRefresh n) s = .next { s with rcd := { s.rcd with
      norProg := (n, s.now) :: s.rcd.norProg.filter fun e => e.1 != n
      norRemap := s.rcd.norRemap.filter fun e => e != n } }) ∧
    (∀ n, (n < 4 ∨ (n < 8 ∧ lifecycle s ≠ 1)) → exec (.norRefresh n) s = .next s) ∧
    (∀ (b bits : Nat) (r : NandRead), bits ≤ 40 → (24 < bits ∨ 365 ≤ r.days) → exec (.nandRetentionRead b bits r) s = .next { s with rcd := { s.rcd with
      retention := (b, s.now) :: s.rcd.retention.filter fun e => e.1 != b } }) ∧
    (∀ (b bits : Nat) (r : NandRead), bits ≤ 24 → r.days < 365 → exec (.nandRetentionRead b bits r) s = .next s) ∧
    (∀ (b bits : Nat) (r : NandRead), 40 < bits → s.rcd.kitty.length = 6 → ∃ t, exec (.nandRetentionRead b bits r) s = .next t ∧ (kindOf t 5).retired.contains b = true ∧
      t.rcd.retention = (b, s.now) :: (retire (if r.copyOk then s else s.event 0x010F (le 4 r.obj.toNat ++ le 1 3 ++ le 1 0 ++ le 2 0)) 5 b).rcd.retention.filter (fun e => e.1 != b) ∧
      t = { s with rcd := t.rcd, sys := t.sys, pow := t.pow, fresh := t.fresh })

/-- A loop with PV_SRC 0 whose set-point is in force is not excluded: its pre-limit output is v = sp + ff, sp being in
0.01 % of output (10^7 units of 10^-9 %) and ff its feed-forward term, 0 without a valid FF source. Its integ never
moves, neither in the window nor after selection. v and u do not depend on KP, KI, KD, the notches, D_EN or P_ONLY of
either bank. u is v clamped and ramped by the shared limits of R191. 0x0305 accepts only 0 to 10,000 for it. (R192) -/
def Obligations.DemandLoop : Prop :=
  ∀ (s : State) (free : Nat) (l : LoopCfg) (r : LoopRt) (yPrev sp : Int), l.pvSrc = 0 → setPointOf s l r = some sp →
    let ff := match (if l.ffSrc = 0 then none else srcValue s.ctl.cib l.ffSrc) with
      | some v => gainTerm (activeBank l).kff v
      | none => 0
    let e := evalLoop s free l r yPrev
    e.ex = false ∧ e.rt.v = sp * 10000000 + ff ∧ e.rt.u = (limitU l (activeBank l) e.rt.v yPrev).1 ∧ e.rt.integ = r.integ ∧
    (∀ sel, (settle s l e sel).integ = r.integ) ∧
    (∀ (a b : Bank) (dEn pOnly : Bool),
      let laidOver := fun (x k : Bank) => { x with
        kp := k.kp
        ki := k.ki
        kd := k.kd
        n1f := k.n1f
        n1q := k.n1q
        n2f := k.n2f
        n2q := k.n2q }
      let m := { l with
        bankA := laidOver l.bankA a
        bankB := laidOver l.bankB b
        dEn := dEn
        pOnly := pOnly }
      (evalLoop s free m r yPrev).rt.v = e.rt.v ∧ (evalLoop s free m r yPrev).rt.u = e.rt.u) ∧
    ∀ p : SetPointP, cfgLoopOf s.cfg (refIndex p.loop) = some l → firstBad (setPointChecks s p) = none → 0 ≤ i32 p.sp ∧ i32 p.sp ≤ 10000

/-- u is v clamped to OUT_MIN and OUT_MAX and then brought to within RAMP_UP x 125 above and RAMP_DN x 125 below the
output's last released value, a limit of 0 meaning none; so a limit that moves past the released value is approached
at the ramp step. The lowest candidate wins an output: none of the candidates is lower, and among equals none has a
lower KIND, nor the same KIND and a lower index. (R191, R195, R199) -/
def Obligations.LimitsAndTheLowCard : Prop :=
  (∀ (l : LoopCfg) (b : Bank) (v y : Int), b.outMin ≤ b.outMax →
      let c := max (b.outMin * 10000000) (min v (b.outMax * 10000000))
      let up := y + 125 * (l.rampUp : Int)
      let dn := y - 125 * (l.rampDn : Int)
      (limitU l b v y).1 = (if l.rampUp ≠ 0 ∧ up < c then up else if l.rampDn ≠ 0 ∧ c < dn then dn else c) ∧
      (l.rampUp ≠ 0 → (limitU l b v y).1 ≤ up) ∧ (l.rampDn ≠ 0 → dn ≤ (limitU l b v y).1)) ∧
    ∀ l : List Candidate, l ≠ [] → ∃ w ∈ l, lowCard l = some w ∧
      ∀ c ∈ l, w.u < c.u ∨ (w.u = c.u ∧ (w.kind < c.kind ∨ (w.kind = c.kind ∧ w.idx ≤ c.idx)))

/-- Shadow coefficients replace the loop's shadow bank at once, or wait behind a pending swap of its group. A bank swap is
answered ACCEPTED with SWAP_TICK n + 1 and pends; a second one for its group is BUSY naming the first; at its tick the
two banks of every loop of the group are exchanged, the new shadow a copy of the new active bank. A set-point read in
tick n waits for n + 1, which the answer names, and passes to a dummy. A talon trace is set up idle; arming starts the
chosen traces empty at n + 1. Nothing else changes. exec answers a next state, the command having its own effect,
under conditions on the state and the operands alone, for shadowCoefficients, bankSwap, bankSwapTakeForce, setPoint,
configureTalonTrace, armTalon. (R190, R200, R204, R205, R210, R211, R140, Table 8.7) -/
def Obligations.ControlCommands : Prop :=
  ∀ (s : State) (r : Req),
    (∀ p : ShadowCoefficientsP, let k : Rule := { cmd := 0x0303, len := 36, fields := shadowChecks s p }
      let g := ((cfgLoopOf s.cfg (refIndex p.loop)).map (·.group)).getD 0
      (swapPending s g = false → (Accepted s r k → ∃ t, exec (.shadowCoefficients r p) s = .next t ∧ Completed s t r k {} (fun s => { s with cfg := cfgShadow p s.cfg }))) ∧
      (swapPending s g = true → (Accepted s r k → ∃ t, exec (.shadowCoefficients r p) s = .next t ∧ Completed s t r k {} (fun s => { s with ctl := { s.ctl with
        swaps := s.ctl.swaps.map fun x => if x.group == g && !x.taken then { x with late := x.late ++ [(refIndex p.loop, bankOf p)] } else x } })))) ∧
    (∀ p : BankSwapP, let k : Rule := { cmd := 0x0304, len := 4, fields := [(0x10, s.cfg.loops.any fun l => l.group == p.group.toNat), (0x12, p.rsv == 0)] }
      (swapPending s p.group.toNat = false → (Accepted s r k → ∃ t, exec (.bankSwap r p) s = .next t ∧ Completed s t r k { status := stAccepted, data := le 8 (s.clk.tick + 1) } (fun s => { s with ctl := { s.ctl with
        swaps := s.ctl.swaps ++ [{ group := p.group.toNat, tok := tokOf s r 0x0304, tick := s.clk.tick + 1, late := [], taken := false }] } }))) ∧
      ∀ x, s.ctl.swaps.find? (fun x => x.group == p.group.toNat && !x.taken) = some x →
        (Accepted s r k → ∃ t, exec (.bankSwap r p) s = .next t ∧ Completed s t r k { status := 0x0302, detail := x.tok.ch + 256 * x.tok.transport + 65536 * x.tok.session.toNat } id)) ∧
    (∀ x : PendSwap, s.ctl.swaps = [x] → x.taken = false → x.tick ≤ s.clk.tick → x.late = [] →
      ∃ t, exec .bankSwapTakeForce s = .next t ∧ t.ctl.swaps = [{ x with taken := true }] ∧
        (∀ l ∈ s.cfg.loops, ∃ m ∈ t.cfg.loops, m.idx = l.idx ∧ (l.group ≠ x.group → m = l) ∧
          (l.group = x.group → activeBank m = (if l.activeB then l.bankA else l.bankB) ∧ m.bankA = m.bankB)) ∧
        t = { s with ctl := t.ctl, cfg := { s.cfg with loops := t.cfg.loops }, rcd := t.rcd, fresh := t.fresh }) ∧
    ((∀ x ∈ s.ctl.swaps, x.taken = true ∨ s.clk.tick < x.tick) → exec .bankSwapTakeForce s = .next s) ∧
    (∀ p : SetPointP, (let rule : Rule := { cmd := 0x0305, len := 8, fields := setPointChecks s p }; Accepted s r rule → ∃ t, exec (.setPoint r p) s = .next t ∧ Completed s t r rule (okWith (le 8 (s.clk.tick + 1))) (fun s => { s with
        ctl := { s.ctl with loops := s.ctl.loops.map fun x => if x.idx = refIndex p.loop then { loopRt s (refIndex p.loop) with spNext := some (i32 p.sp) } else x }
        pair := if paired s = true ∧ s.sys.mode = .declarer then { s.pair with replays := s.pair.replays ++ [(s.clk.tick + 1, requestBytes (.setPoint r p))] } else s.pair }))) ∧
    (∀ p : ConfigureTalonTraceP, (let rule : Rule := { cmd := 0x0307, len := 16, fields := traceChecks s p }; Accepted s r rule → ∃ t, exec (.configureTalonTrace r p) s = .next t ∧ Completed s t r rule {} (fun s => { s with ctl := { s.ctl with traces := s.ctl.traces.modify p.cp.toNat fun l => l.modify p.trace.toNat fun _ => { Trace.reset with
        src := p.src.toNat
        loop := if 0x8000 ≤ p.src.toNat then 64 else refIndex p.loop
        decim := p.decim.toNat
        trig := p.trig.toNat
        pre := p.pre.toNat
        level := i32 p.level } } }))) ∧
    (∀ p : ArmTalonP, Accepted s r { cmd := 0x0308, len := 4, fields := [(0x10, (slicePairs s).contains p.cp.toNat), (0x12, p.rsv == 0)] } →
      ∃ t, exec (.armTalon r p) s = .next t ∧ Answered s t r 0x0308 {} ∧ t = { s with hif := t.hif, out := t.out, ctl := { s.ctl with traces := t.ctl.traces } } ∧
        (∀ cp, cp ≠ p.cp.toNat → t.ctl.traces.getD cp [] = s.ctl.traces.getD cp []) ∧
        ∀ n, n < 8 → s.ctl.traces.length = 4 → p.cp.toNat < 4 → (s.ctl.traces.getD p.cp.toNat []).length = 8 →
          traceOf t p.cp.toNat n = if p.mask.getLsbD n = true ∧ (traceOf s p.cp.toNat n).src ≠ 0 then { traceOf s p.cp.toNat n with
            phase := 1
            armTick := s.now + 1
            mask := p.mask
            samples := []
            trigTick := 0
            after := 0
            swapped := false } else traceOf s p.cp.toNat n)

/-- With the tick generator running, the buffer published at cycle 1,824 becomes the one the loops read, and the release
runs the control window, then caps, sinks, the adaptive supply, contactors and talon in this order. An output all of
whose loops have been excluded for 16,000 ticks begins its safe release, and a loop whose saturation timer reaches
SAT_MS has SAT_EXP set, its output released where SAT_ACT is 1; each enters an event except in a dummy. Beside the
control state, outputs, metering and records nothing changes. exec answers a next state, the command having its own
effect, under conditions on the state and the operands alone, for controlInputPublish, outputRelease,
safeReleaseTimer, satExpiry. (R163, R191, R197, R203, R94, Table 4.2, Table 8.8) -/
def Obligations.ControlTicks : Prop :=
  ∀ s : State,
    (s.clk.running = true → ∃ t, exec .controlInputPublish s = .next t ∧ t.ctl.cib = cibOf (takeLights s) ∧
      (s.sys.mode ≠ .dummy → t.ctl.loops = s.ctl.loops ∧ t.ctl.outs = s.ctl.outs) ∧
      t = { s with
        ctl := t.ctl
        outs := t.outs
        met := { s.met with suitFeeders := t.met.suitFeeders }
        fresh := t.fresh }) ∧
    (s.clk.running = true → ∃ t, exec .outputRelease s = .next t ∧ t = talon (contactorRelease (ascRelease (sinkRelease (readCaps (controlWindow s))))) ∧
      t = { s with
        ctl := t.ctl
        outs := t.outs
        rcd := t.rcd
        fresh := t.fresh } ∧ t.outs.stages = s.outs.stages ∧ t.outs.chains = s.outs.chains) ∧
    (s.clk.running = false → exec .controlInputPublish s = .next s ∧ exec .outputRelease s = .next s) ∧
    (∀ (o : Nat) (x : OutRt), outRt s o = some x → x.safeRel = 0 → 16000 ≤ x.exclTicks →
      ∃ t, exec (.safeReleaseTimer o) s = .next t ∧ outRt t x.code = some { x with safeRel := 1 } ∧ (s.sys.mode = .dummy → t.rcd = s.rcd) ∧
        t = { s with ctl := { s.ctl with outs := t.ctl.outs }, rcd := t.rcd, fresh := t.fresh }) ∧
    (∀ (o : Nat) (x : OutRt), outRt s o = some x → x.exclTicks < 16000 → exec (.safeReleaseTimer o) s = .next s) ∧
    (∀ (i : Nat) (l : LoopCfg) (r : LoopRt), cfgLoopOf s.cfg i = some l → s.ctl.loops.find? (fun r => r.idx == i) = some r → satLimit l ≤ r.satTicks → r.lflags.getLsbD 1 = false →
      ∃ t, exec (.satExpiry i) s = .next t ∧ (loopRt t i).lflags = r.lflags ||| 2 ∧
        (l.satAct ≠ 1 → t.ctl.outs = s.ctl.outs) ∧ (∀ x, l.satAct = 1 → outRt s l.output = some x → outRt t l.output = some { x with safeRel := 2, relLoop := i }) ∧
        (s.sys.mode = .dummy → t.rcd = s.rcd) ∧ t = { s with ctl := { s.ctl with loops := t.ctl.loops, outs := t.ctl.outs }, rcd := t.rcd, fresh := t.fresh })

/-- In its slot a configured stage that may be served gets one frame with the slot, the tick, the claim and its VALUE;
after a gap in the frames sent to it the stage is judged afresh. A reply whose CRC4 is wrong or that is absent counts
as missing, and the sixteenth in a row makes the stage SILENT with an event; a good one takes APPLIED and OUTBID and
ends SILENT. A store sequence without the new SAFE 32 ticks after its frames begins again, up to three runs, and then
ends with BUSY, engine 0xFA; one that a report began runs once. Other stages, and everything beside outputs, pair,
mailbox and records, keep their state. exec answers a next state, the command having its own effect, under conditions
on the state and the operands alone, for stageStoreTimeout, actuatorSlot, statusReply. (R216, R217, R218, R224, R227,
R96, Table 9.1) -/
def Obligations.ActuatorLinks : Prop :=
  ∀ (s : State) (link slot : Nat),
    (∀ (c : StageCfg) (x : StageRt), stageCfg s.cfg link slot = some c → stageRt s link slot = some x → s.clk.running = true → frameSent s c = true → x.sent = none →
      let v := storeFrame s x (frameValue s c)
      exec (.actuatorSlot link slot) s = .next { s with
        outs := { s.outs with stages := s.outs.stages.map fun y => if y.link == link && y.addr == slot then { y with
          sent := some s.clk.tick
          sentAt := some s.now
          silentRun := if y.sentAt.any (fun t => decide (s.now ≤ t + 1)) then y.silentRun else 0
          nibs := if y.sentAt.any (fun t => decide (s.now ≤ t + 1)) then y.nibs else []
          value := v.1
          store := v.2
          repAge := y.repAge + 1 } else y }
        out := .actuator link slot s.pair.claim v.1 s.clk.tick (actuatorBits slot s.clk.tick v.1 s.pair.claim) :: s.out }) ∧
    (∀ (x : StageRt) (f : StagePart), stageRt s link slot = some x → x.sent = some s.clk.tick → x.sentAt = some s.now → replyGood f = false →
      ∃ t y, exec (.statusReply link slot f) s = .next t ∧ stageRt t link slot = some y ∧ y.silentRun = x.silentRun + 1 ∧ y.missing = min 65535 (x.missing + 1) ∧
        y.silent = (x.silent || decide (16 ≤ x.silentRun + 1)) ∧ (y.silent = x.silent → t.rcd = s.rcd) ∧
        (∀ l a, (l, a) ≠ (link, slot) → stageRt t l a = stageRt s l a) ∧
        t = { s with outs := { s.outs with stages := t.outs.stages }, rcd := t.rcd, fresh := t.fresh }) ∧
    (∀ (x : StageRt) (f : StagePart), stageRt s link slot = some x → x.sent = some s.clk.tick → x.sentAt = some s.now → replyGood f = true →
      ∃ t y, exec (.statusReply link slot f) s = .next t ∧ stageRt t link slot = some y ∧ y.applied = f.stat.getLsbD 0 ∧ y.outbid = f.stat.getLsbD 1 ∧
        y.silent = false ∧ y.silentRun = 0 ∧ y.sent = none ∧ y.lastTick = s.clk.tick ∧
        (∀ l a, (l, a) ≠ (link, slot) → stageRt t l a = stageRt s l a) ∧ t.ctl = s.ctl ∧ t.cfg = s.cfg ∧ t.met = s.met ∧ t.pair.claim = s.pair.claim) ∧
    (∀ (x : StageRt) (y : StageStore), stageRt s link slot = some x → x.store = some y → y.phase = 2 → y.sentTick + 32 ≤ s.now →
      (y.runs < 3 → y.tok ≠ none → exec (.stageStoreTimeout link slot) s = .next { s with outs := { s.outs with stages := s.outs.stages.map fun z => if z.link == link && z.addr == slot then { z with store := some { y with phase := 0 } } else z } }) ∧
      ((3 ≤ y.runs ∨ y.tok = none) → ∃ t z, exec (.stageStoreTimeout link slot) s = .next t ∧ stageRt t link slot = some z ∧ z.store = none ∧
        (y.tok = none → t = { s with outs := { s.outs with stages := t.outs.stages } })))

/-- A contactor command not held by its group sets the wanted state, due from the next tick, clears the trip state, and
answers the tick whose release changes the output: the next one, or the end of the dwell of 10 s after the last
change; it passes to a dummy. At its end a dwell no longer holds the output. A trip of an energised output switches it
off and counts, with an event; the eighth in a row blocks it, with a second event; one that is off is left alone.
Other contactors keep their state. exec answers a next state, the command having its own effect, under conditions on
the state and the operands alone, for contactor, contactorDwellEnd, contactorTrip. (R228, R230, R339, R140, Table
6.10) -/
def Obligations.ContactorCommands : Prop :=
  ∀ (s : State) (r : Req), s.outs.contactors.length = 8 →
    (∀ p : ContactorP, p.ct.toNat < 8 → (let rule : Rule := { cmd := 0x0403, len := 4, fields := [(0x10, decide (p.ct.toNat < 8) && (groupOf s.cfg (0xF008 + p.ct.toNat)).isNone), (0x11, decide (p.on.toNat ≤ 1)), (0x12, p.rsv == 0)] }; Accepted s r rule → ∃ t', exec (.contactor r p) s = .next t' ∧ Completed s t' r rule (okWith (le 8 (match (contactorOf s p.ct.toNat).lastChange with
        | none => s.clk.tick + 1
        | some t => s.clk.tick + max 1 (t + 80000 - s.now)))) (fun s => { s with
        outs := { s.outs with contactors := s.outs.contactors.modify p.ct.toNat fun c => { c with
          want := p.on == 1
          due := s.now + 1
          trips := 0
          tripped := false
          blocked := false } }
        pair := if paired s = true ∧ s.sys.mode = .declarer then { s.pair with replays := s.pair.replays ++ [(s.clk.tick + 1, requestBytes (.contactor r p))] } else s.pair }))) ∧
    (∀ n, exec (.contactorDwellEnd n) s = .next { s with outs := { s.outs with contactors := s.outs.contactors.modify n fun c => if dwellOver s c = true then { c with lastChange := none } else c } }) ∧
    (∀ n, n < 8 → (contactorOf s n).on = false → exec (.contactorTrip n) s = .next s) ∧
    (∀ n, n < 8 → (contactorOf s n).on = true →
      let k := (contactorOf s n).trips + 1
      ∃ t, exec (.contactorTrip n) s = .next t ∧ contactorOf t n = { contactorOf s n with
          on := false
          trips := k
          tripped := true
          blocked := (contactorOf s n).blocked || decide (8 ≤ k) } ∧
        (∀ m, m ≠ n → contactorOf t m = contactorOf s m) ∧
        t = { s with outs := { s.outs with contactors := t.outs.contactors }, rcd := t.rcd, fresh := t.fresh })

/-- A string level is reached over FADE from the next tick, which the answer names. A PWM period takes each string's duty
code, 0 for one with no table current, a table entry that fails its CRC or no drive, and judges pulses of at least 4
us; outside OFF and BATTERY_STANDBY. A probe pulse at low duty for longer than PROBE counts as one window: OPEN is set
by the third low current in a row, cleared by the third good one; the headroom is the pin voltage. The pin test marks
both strings of a short and keeps the pair; a supply fault marks every string. Other outputs keep their state. exec
answers a next state, the command having its own effect, under conditions on the state and the operands alone, for
stringLevel, pwmPeriod, probePulse, adjShortTest, supplyFault. (R234, R235, R237, R240, R241, R242, R243) -/
def Obligations.StringsAndTheAdaptiveSupply : Prop :=
  ∀ (s : State) (r : Req), s.outs.strings.length = 16 →
    (∀ p : StringLevelP, (let rule : Rule := { cmd := 0x0405, len := 8, fields := [(0x10, decide (p.ch.toNat < 16)), (0x11, p.rsv == 0), (0x12, decide (p.level.toNat ≤ 10000)), (0x16, p.rsv2 == 0)] }; Accepted s r rule → ∃ t, exec (.stringLevel r p) s = .next t ∧ Completed s t r rule (okWith (le 8 (s.clk.tick + 1))) (fun s => { s with
        outs := { s.outs with strings := s.outs.strings.modify p.ch.toNat fun x => { x with
          target := p.level.toNat
          fadeLeft := max 1 (800 * p.fade.toNat)
          stepPer := ((p.level.toNat : Rat) - x.level) / (max 1 (800 * p.fade.toNat) : Nat)
          set := true } }
        pair := if paired s = true ∧ s.sys.mode = .declarer then { s.pair with replays := s.pair.replays ++ [(s.clk.tick + 1, requestBytes (.stringLevel r p))] } else s.pair }))) ∧
    ((s.sys.mode = .off ∨ s.sys.mode = .standby) → ∀ e, exec (.pwmPeriod e) s = .next s) ∧
    (∀ e, s.sys.mode ≠ .off → s.sys.mode ≠ .standby → ∃ t, exec (.pwmPeriod e) s = .next t ∧ t = { s with outs := { s.outs with strings := t.outs.strings, sinksOn := t.outs.sinksOn }, rcd := t.rcd, fresh := t.fresh } ∧
      (t.outs.sinksOn = true ↔ ∃ n, n < 16 ∧ (stringDrive s n).isSome = true) ∧
      ∀ n, n < 16 → ((stringDrive s n = none ∨ (stringRt s n).tableMa = 0 ∨ (stringRt s n).tableOk = false) → (stringRt t n).duty = 0) ∧
        (∀ y, stringDrive s n = some y → (stringRt s n).tableMa ≠ 0 → (stringRt s n).tableOk = true → (stringRt t n).duty = if s.sys.mode = .declarer then (stringRt s n).dutyNext else dutyOf y) ∧
        ((stringRt t n).duty < 315 → (stringRt t n).open_ = (stringRt s n).open_ ∧ (stringRt t n).headroom = (stringRt s n).headroom)) ∧
    (∀ (ch ma mv : Nat) (c : StringCfg) (a : Nat), ch < 16 → stringCfg s ch = some c → (stringRt s ch).lowSince = some a → a + probeTicks c ≤ s.now →
      ∃ t, exec (.probePulse ch ma mv) s = .next t ∧ (stringRt t ch).lowSince = some s.now ∧ (stringRt t ch).headroom = some (mv : Int) ∧
        (stringRt t ch).failRun = (if 2 * ma < c.maxMa then (stringRt s ch).failRun + 1 else 0) ∧
        (2 * ma < c.maxMa → 2 ≤ (stringRt s ch).failRun → (stringRt t ch).open_ = true) ∧
        (c.maxMa ≤ 2 * ma → 2 ≤ (stringRt s ch).goodRun → (stringRt t ch).open_ = false) ∧
        (∀ m, m ≠ ch → stringRt t m = stringRt s m) ∧ t = { s with outs := { s.outs with strings := t.outs.strings }, rcd := t.rcd, fresh := t.fresh }) ∧
    (∀ n, n < 15 → s.sys.mode = .declarer → 3600 ≤ s.outs.adjRound → (stringCfg s n).isSome = true → (stringCfg s (n + 1)).isSome = true →
      ∃ t, exec (.adjShortTest [n]) s = .next t ∧ t.outs.adjRound = 0 ∧ (stringRt t n).adj = true ∧ (stringRt t (n + 1)).adj = true ∧ n ∈ t.outs.adjPairs ∧ (∀ m, m ≠ n → (m ∈ t.outs.adjPairs ↔ m ∈ s.outs.adjPairs)) ∧
        (∀ m, m ≠ n → m ≠ n + 1 → stringRt t m = stringRt s m) ∧ t = { s with outs := { s.outs with strings := t.outs.strings, adjRound := 0, adjPairs := t.outs.adjPairs }, rcd := t.rcd, fresh := t.fresh }) ∧
    ∀ low, ∃ t, exec (.supplyFault low) s = .next t ∧ (∀ n, n < 16 → stringRt t n = { stringRt s n with supplyFault := low }) ∧
      t = { s with outs := { s.outs with strings := t.outs.strings }, rcd := t.rcd, fresh := t.fresh }

/-- Chain outputs replace the levels of the positions named and of no other, and the answer names the first frame that
carries them. In every 160th tick a configured port of a declarer without stores sends one frame of its EXPECT blocks
and the tail block with the frame count, counted; its bytes carry the CRC-8 that each kind of block calls for. A
return sets OPEN, the missing blocks and the CRC fault, an event when one comes up. A declarer starts its sensor reads
every 80 ticks; a result is kept for the eighth tick. A test output is held for HOLD seconds, replaces the same
target's, and goes when they are over; strings and chains only where the module may drive. Between frames a dummy, a
module in reset and one in the dealer role leave SCn_DO high-impedance, and a declarer drives it low. exec answers a
next state, the command having its own effect, under conditions on the state and the operands alone, for chainOutputs,
testOutput, testHoldExpiry, sifichainFrame, chainReturnCheck, lightSensorRead, lightSensorResult. (R244, R245, R247,
R248, R251, R147, R52, Table 6.10) -/
def Obligations.ChainsSensorsAndTests : Prop :=
  ∀ (s : State) (r : Req), s.outs.chains.length = 2 →
    (∀ n : Nat, (s.sys.mode = .dummy ∨ s.sys.inReset = true ∨ isDealer s = true → chainIdle s n = .hiZ) ∧
      (s.sys.mode = .declarer → s.pow.drawing = true → s.sys.inReset = false → isDealer s = false → chainIdle s n = .low)) ∧
    (∀ p : ChainOutputsP, let lv := fun (k : Nat) (l : List U16) => if p.first.toNat ≤ k then (p.items.map fun e => [e.l0, e.l1, e.l2, e.l3]).getD (k - p.first.toNat) l else l
      (let rule : Rule := { cmd := 0x0407, len := 8 + 8 * p.n.toNat, fields := [(0x10, decide (p.port.toNat < 2)), (0x11, p.rsv == 0), (0x12, decide (p.first.toNat < 512)), (0x14, decide (p.first.toNat + p.n.toNat ≤ 512)), (0x16, p.rsv2 == 0)] }; Accepted s r rule → ∃ t, exec (.chainOutputs r p) s = .next t ∧ Completed s t r rule (okWith (le 8 (nextFrameTick s))) (fun s => { s with
          outs := { s.outs with chains := s.outs.chains.modify p.port.toNat fun x => { x with levels := x.levels.mapIdx lv } }
          pair := if paired s = true ∧ s.sys.mode = .declarer then { s.pair with replays := s.pair.replays ++ [(s.clk.tick + 1, requestBytes (.chainOutputs r p))] } else s.pair }))) ∧
    (s.clk.running = true → s.clk.tick % 160 = 0 → s.sys.mode = .declarer → isDealer s = false → expectOf s 1 = 0 → 0 < expectOf s 0 → (chainRt s 0).enum = none → (chainRt s 1).enum = none → s.outs.chainStores = [] →
      let b := (List.range (expectOf s 0)).map fun k => chainBlock s 0 false k
      exec .sifichainFrame s = .next { s with
        outs := { s.outs with chains := s.outs.chains.modify 0 fun x => { x with
          frames := x.frames + 1
          sent := true
          sentBlocks := expectOf s 0 + 1 } }
        fresh := s.fresh + 1
        out := .chain 0 b (chainRt s 0).frames (b.flatMap (chainBytes s.fresh) ++ holdBytes s.fresh (le 8 (chainRt s 0).frames.toNat)) :: s.out }) ∧
    (s.clk.tick % 160 ≠ 0 → exec .sifichainFrame s = .next s) ∧
    (∀ (n : Nat) (x : ChainRet), n < 2 → (chainRt s n).sent = true → (chainRt s n).enum = none →
      ∃ t, exec (.chainReturnCheck n x) s = .next t ∧ chainRt t n = { chainRt s n with
          sent := false
          open_ := x.lineLow
          missing := if x.lineLow then 0 else x.blocks
          fault := !x.lineLow && !x.crcOk } ∧
        (∀ m, m ≠ n → chainRt t m = chainRt s m) ∧ (x.lineLow = false → x.blocks = 0 → x.crcOk = true → t.rcd = s.rcd) ∧
        t = { s with outs := { s.outs with chains := t.outs.chains }, rcd := t.rcd, fresh := t.fresh }) ∧
    (s.clk.running = true → s.clk.tick % 80 = 0 → s.sys.mode = .declarer → isDealer s = false → s.outs.busFree = false → exec .lightSensorRead s = .next { s with
      outs := { s.outs with lights := s.outs.lights.map fun x => { x with
        started := some s.now
        got := none } }
      out := [.lightBus 3 false, .lightBus 2 false, .lightBus 1 false, .lightBus 0 false] ++ s.out }) ∧
    (∀ n v, exec (.lightSensorResult n v) s = .next { s with outs := { s.outs with lights := s.outs.lights.modify n fun x => if x.started.isSome then { x with got := v } else x } }) ∧
    (∀ p : TestOutputP, let k : Rule := { cmd := 0x0409, len := 8, fields := testChecks s p }
      ((p.target = 1 ∨ p.target = 2) → maySink s = false → (Accepted s r k → ∃ t, exec (.testOutput r p) s = .next t ∧ Completed s t r k { status := 0x0302, detail := 0xFB } id)) ∧
      ((p.target = 1 ∨ p.target = 2 → maySink s = true) → (Accepted s r k → ∃ t, exec (.testOutput r p) s = .next t ∧ Completed s t r k {} (fun s => { s with sys := { s.sys with
        tests := { target := p.target.toNat, index := p.index.toNat, value := p.value.toNat, endsAt := s.now + 8000 * p.hold.toNat } :: s.sys.tests.filter fun x => !(x.target == p.target.toNat && x.index == p.index.toNat) } })))) ∧
    (∀ tg i, exec (.testHoldExpiry tg i) s = .next { s with sys := { s.sys with tests := s.sys.tests.filter fun x => !(x.target == tg && x.index == i && decide (x.endsAt ≤ s.now)) } })

/-- While the radios receive: a frame of under 12 octets, of a bad FCS, of a form that R259 or R261 refuses (a reserved
type, a version, a reserved address, ...) or of a bad MIC is dropped and counted by its own cause on its port, and
nothing else changes. A counter is delivered once: above hi, or inside the window and not seen; a repeated one is not,
one 64 below hi is dropped. LEVEL_ACK sets the level and the round of the node's association; SAFE_ACK confirms the
stored level; STATUS keeps the flags and the beacons reported; a presence message of a declarer older than 10 s or of
an unlisted sensor is recorded and dropped. exec answers a next state, the command having its own effect, under
conditions on the state and the operands alone, for lernasFrameReceive, levelAck, safeAck, status, presence. (R253,
R259, R261, R266, R284, R286, R359, Table 10.13) -/
def Obligations.LernasFramesReceived : Prop :=
  ∀ s : State,
    (∀ (f : LernasFrame) (cause : Nat), radioHears s = true → f.octets ≤ portPsdu f.port →
      (cause = 2 ∧ f.octets < 12 ∨ cause = 1 ∧ 12 ≤ f.octets ∧ (f.fcsType1 = true ∨ f.fcsOk = false) ∨
        12 ≤ f.octets ∧ f.fcsType1 = false ∧ f.fcsOk = true ∧ formCause f = some cause ∨
        cause = 4 ∧ 12 ≤ f.octets ∧ f.fcsType1 = false ∧ f.fcsOk = true ∧ formCause f = none ∧ f.dst = 0 ∧ f.fc.toNat % 8 ≠ 1 ∧ (f.micOk = false ∨ keyHeld s f = false)) →
      exec (.lernasFrameReceive f) s = .next (countDrop s f.port cause)) ∧
    (∀ f : LernasFrame, (3 < f.fc.toNat % 8 → formCause f = some 8) ∧
      (f.fc.toNat % 8 ≤ 3 → f.fc.extractLsb' 9 2 ≠ 0 → formCause f = some 9) ∧
      (f.fc.toNat % 8 ≤ 3 → f.fc.extractLsb' 9 2 = 0 → addrReserved f.dst = true → formCause f = some 10)) ∧
    (∀ (g h fc : Nat) (w : U64), let b : Nbr := { gen := g, hi := h, win := w }
      (h < fc → ∃ x, replay (some b) g fc = some (x, true) ∧ x.hi = fc ∧ x.win.getLsbD 0 = true) ∧
      (fc + 64 ≤ h → replay (some b) g fc = none) ∧
      (fc ≤ h → h < fc + 64 → w.getLsbD (h - fc) = true → replay (some b) g fc = some (b, false)) ∧
      (fc ≤ h → h < fc + 64 → w.getLsbD (h - fc) = false → ∃ x, replay (some b) g fc = some (x, true) ∧ x.hi = h ∧ replay (some x) g fc = some (x, false))) ∧
    (∀ (n : U32) (lv r : Nat), radioHears s = true → exec (.levelAck n lv r) s = .next { s with mesh := { s.mesh with
      assocs := s.mesh.assocs.map fun a => if a.node == n then { a with level := lv, ackRound := r } else a } }) ∧
    (∀ (n : U32) (v : Nat), radioHears s = true → (nodeRec s n).isSome = true → (∀ x ∈ s.mesh.safeToks, x.1 = n → x.2.1 ≠ v) →
      exec (.safeAck n v) s = .next { s with mesh := { s.mesh with safeConf := (n, v) :: s.mesh.safeConf.filter fun x => x.1 != n } }) ∧
    (∀ m : NodeStatus, radioHears s = true → s.cfg.peers = none → exec (.status m) s = .next { s with
      mesh := { s.mesh with
        assocs := s.mesh.assocs.map fun a => if a.node == m.node then { a with nflags := m.flags } else a }
      cfg := { s.cfg with nodes := s.cfg.nodes.map fun n => if n.node == m.node then { n with beacons := m.beacons } else n } }) ∧
    (∀ m : Presence, s.sys.mode = .declarer → ((m.tick ≠ 0 ∧ m.tick.toNat + 80000 < s.clk.tick) ∨ (m.tick.toNat ≤ s.clk.tick + 40 ∧ ∀ w ∈ s.cfg.waves, ∀ e ∈ w.sensors, e.1 ≠ m.node)) →
      ∃ t, exec (.presence m) s = .next t ∧ t = { s with rcd := t.rcd, fresh := t.fresh }) ∧
    (∀ m : Presence, s.sys.mode = .declarer → m.tick = 0 → (∃ w ∈ s.cfg.waves, ∃ e ∈ w.sensors, e.1 = m.node) →
      exec (.presence m) s = .next (sensorEvent s m.node m.kind m.speed.toNat s.clk.tick (i32 m.pos)))

/-- At the anchor of one of its events a child's event is counted, and at a listen event the exchange begins. A connection
whose time-out has passed is LOST with an event and its held frames go. An unacknowledged frame of the third time in
an event waits, the node MISSING; of the eighth it is dropped, a LEAVE, CONN_UPDATE or KEY_UPDATE sent anew and a
level to be told anew. A beacon leaves on its port at tick 4,000 and one in BATTERY_STANDBY in every 16th round, each
once. A known node with room joins: association, JOINING, its address kept in its record; another gets JOIN_WAIT. A
reassembly of 30 s goes. Associations are asked to NAND. In a dummy none of these sends. exec answers a next state,
the command having its own effect, under conditions on the state and the operands alone, for lanternCommandHandover,
connectionEvent, ackTimeout, supervisionTimeout, beacon, standbyBeacon, fragmentTimeout, joinReq, associationCommit.
(R269, R271, R274, R276, R277, R278, R281, R262, R295, R294, Table 10.11) -/
def Obligations.ConnectionsAndJoining : Prop :=
  ∀ s : State,
    (∀ (a : Assoc) (e : Nat), assocOf s a.node = some a → radioSends s = true → a.parent = 0 → 1 ≤ a.nstate → a.nstate ≤ 3 → eventNow s a.params = some e → listens a.params e = false → a.next = none → workLost s 3 = false →
      exec (.connectionEvent a.node) s = .next (s.onAssoc a.node fun b => { switchParams s b with
        evCount := e % 65536
        window := (b.params.psca + b.csca) * (125 * (s.now - b.heard)) + 16000000 })) ∧
    (∀ (a : Assoc) (e : Nat), assocOf s a.node = some a → radioSends s = true → a.parent = 0 → 1 ≤ a.nstate → a.nstate ≤ 3 → eventNow s a.params = some e → listens a.params e = true → a.next = none → workLost s 3 = false →
      ∃ t b, exec (.connectionEvent a.node) s = .next t ∧ assocOf t a.node = some b ∧ b.evCount = e % 65536 ∧ b.params = a.params ∧
        t = { s with mesh := t.mesh, out := t.out, rcd := t.rcd, fresh := t.fresh, hif := t.hif, sec := { s.sec with slots := t.sec.slots } } ∧
        (s.mesh.safeToks = [] → t.hif = s.hif ∧ t.sec = s.sec)) ∧
    (∀ a : Assoc, assocOf s a.node = some a → radioSends s = true → 1 ≤ a.nstate → a.nstate ≤ 3 → a.heard + 80 * a.params.timeout ≤ s.now → a.leaving = false →
      ∃ t b, exec (.supervisionTimeout a.node) s = .next t ∧ assocOf t a.node = some b ∧ b.nstate = 4 ∧ b.short = a.short ∧
        t.mesh.txq = s.mesh.txq.filter (fun f => f.node != a.node) ∧ (∀ n, n ≠ a.node → assocOf t n = assocOf s n) ∧ t = { s with mesh := t.mesh, rcd := t.rcd, fresh := t.fresh }) ∧
    (∀ (a : Assoc) (f : TxFrame), assocOf s a.node = some a → (framesFor s a.node).find? (fun f => f.waiting) = some f → 3 ≤ f.inEvent → f.msg ≠ 0 →
      let u := s.onAssoc a.node fun a => { a with nstate := if a.nstate = 2 then 3 else a.nstate }
      (f.total < 8 → exec (.ackTimeout a.node) s = .next (onFrame u f fun f => { f with waiting := false })) ∧
      (8 ≤ f.total → (f.origin ≠ 0 ∨ f.msg ∉ [4, 5, 7, 0x10, 0x14, 0x17]) → exec (.ackTimeout a.node) s = .next (dropFrame u f)) ∧
      (8 ≤ f.total → f.origin = 0 → f.msg ∈ [4, 5, 7] → exec (.ackTimeout a.node) s = .next (pushFrame (dropFrame u f) f.node f.msg 3 true 0 none f.payload)) ∧
      (8 ≤ f.total → f.origin = 0 → f.msg = 0x10 → exec (.ackTimeout a.node) s = .next (forgetLevels (dropFrame u f) fun n => n == f.node))) ∧
    (radioSends s = true → s.clk.tick % 8000 = 4000 → (2, s.clk.tick) ∉ s.mesh.beaconSent → (netGen s).isSome = true → s.mesh.secFc < 0xFFFFFFFF → mayStart s 2 15 1 (beaconUs 2) = true →
      ∃ t b, exec (.beacon 2) s = .next t ∧ t.out = .beacon 2 (outDbm s 2 (portMax s 2)) (beaconPayload s 2 false) b :: s.out ∧ exec (.beacon 2) t = .next t ∧ t.mesh.secFc = s.mesh.secFc + 1 ∧
        t.mesh.assocs = s.mesh.assocs ∧ t = { s with mesh := t.mesh, out := t.out, rcd := t.rcd, fresh := t.fresh }) ∧
    (s.sys.mode = .standby → s.clk.tick / 8000 % 16 = 0 → s.mesh.standbySent ≠ some (s.clk.tick / 8000) → (netGen s).isSome = true → s.mesh.secFc < 0xFFFFFFFF → mayStart s 1 32 1 (beaconUs 1) = true →
      ∃ t b, exec .standbyBeacon s = .next t ∧ t.out = .beacon 1 (outDbm s 1 (portMax s 1)) (beaconPayload s 1 true) b :: s.out ∧ t.mesh.secFc = s.mesh.secFc + 1 ∧ exec .standbyBeacon t = .next t) ∧
    (∀ p, radioSends s = false → exec (.beacon p) s = .next s) ∧
    (∀ (j : JoinReq) (n : NodeRec), radioSends s = true → j.via = 0 → joiningNode s j = some n → joinAllowed s j n 0 = true →
      ∃ t a, exec (.joinReq j) s = .next t ∧ assocOf t n.node = some a ∧ a.nstate = 1 ∧ a.port = j.port ∧ a.parent = 0 ∧ a.hops = 1 ∧
        (∀ x, n.short = some x → a.short = x) ∧ (∀ k, k ≠ n.node → assocOf t k = assocOf s k) ∧ n.node ∉ t.mesh.waiting) ∧
    (∀ j : JoinReq, radioSends s = true → j.via = 0 → joiningNode s j = none → ∃ t, exec (.joinReq j) s = .next t ∧ t.mesh.assocs = s.mesh.assocs ∧ t.cfg = s.cfg ∧ t.pow = s.pow) ∧
    (∀ src tag, exec (.fragmentTimeout src tag) s = .next { s with mesh := { s.mesh with frags := s.mesh.frags.filter fun x => !(x.src == src && x.tag == tag && decide (x.since + 240000 ≤ s.now)) } }) ∧
    (radioHears s = true → (∀ x ∈ s.pow.stores, x.purpose ≠ .assocs) →
      ∃ x, x.kind = StoreKind.nand ∧ x.mj = 1080 ∧ x.purpose = .assocs ∧ exec .associationCommit s = .next { s with
        mesh := { s.mesh with assocCommit := s.clk.tick / 8000 }
        pow := { s.pow with stores := s.pow.stores ++ [x] } }) ∧
    (radioSends s = false → exec .lanternCommandHandover s = .next s) ∧
    (radioSends s = true → workLost s 2 = false → s.mesh.safeToks = [] → s.mesh.suitDue = [] → (∀ n ∈ allNodes s, lanternUp s n = false) → exec .lanternCommandHandover s = .next { s with sch := { s.sch with evalAll := false } }) ∧
    (s.sys.mode = .declarer → workLost s 2 = false → ∃ t, exec .lanternCommandHandover s = .next t ∧ t = { s with
      mesh := t.mesh
      sch := { s.sch with lanterns := t.sch.lanterns, evalAll := false }
      fresh := t.fresh
      hif := t.hif
      out := t.out
      rcd := t.rcd
      sec := { s.sec with slots := t.sec.slots } } ∧
      (s.mesh.safeToks = [] → t.hif = s.hif ∧ t.out = s.out ∧ t.rcd = s.rcd ∧ t.sec = s.sec))

/-- Adopt and release, passing their checks, wait for their round boundary, an adoption that, with those that wait, passes
the capacities being NO_SEAT_CAPACITY. A verified step 2 within 2 s opens the session in a key slot. A replica goes to
an open seat after a change, and the unacknowledged parts of any replica sent again after 5 s; an acknowledged part is
no longer waited for. A part of another owner is recorded and ignored, one of the owner is acknowledged and kept. A
replica request of another owner is not answered. A session silent for 300 s is marked, once; a keep-alive restarts
it. exec answers a next state, the command having its own effect, under conditions on the state and the operands
alone, for adopt, releaseAdopted, replicaSend, replica, replicaAck, replicaRequest, keepalive, keepaliveSend,
replicaPartResend, peerSilent, peerHandshakeResponse. (R288, R289, R291, R293, R148, R480, Table 10.14) -/
def Obligations.PeerSeatsAndAdoption : Prop :=
  ∀ (s : State) (r : Req),
    (∀ p : AdoptP, p.action = 1 → let k : Rule := { cmd := 0x0509, len := 8, fields := adoptChecks s p.seg p.action p.rsv }
      (adoptFits s p.seg (adoptsWaiting s p.seg) = true → (Accepted s r k → ∃ t, exec (.adopt r p) s = .next t ∧ Admitted (.adopt r p) s t r k [])) ∧ (adoptFits s p.seg (adoptsWaiting s p.seg) = false → (Accepted s r k → ∃ t, exec (.adopt r p) s = .next t ∧ Completed s t r k { status := 0x0301, info := 0x01FF } id))) ∧
    (∀ p : ReleaseAdoptedP, p.action = 0 → (let rule : Rule := { cmd := 0x0509, len := 8, fields := adoptChecks s p.seg p.action p.rsv }; Accepted s r rule → ∃ t, exec (.releaseAdopted r p) s = .next t ∧ Admitted (.releaseAdopted r p) s t r rule [])) ∧
    (∀ (h : PeerHs) (p : PeerSess) (t0 slot : Nat), peerOf s h.seg = some p → p.hsSince = some t0 → p.up = false → h.ok = true → s.now ≤ t0 + 16000 → freeSlot s = some slot → s.mesh.restore = false → s.upd.relay = none →
      ∃ t q, exec (.peerHandshakeResponse h) s = .next t ∧ peerOf t h.seg = some q ∧ q.up = true ∧ q.sid = h.sid ∧ q.slots = [slot] ∧ q.rxHi = 0 ∧ q.txSeq = 0 ∧ q.keys = sessionKeys p.hsShare h.share (p.hsNonce ++ h.nonce) ∧
        t.out = .handshake 3 h.sid p.addr [le 4 h.sid.toNat, deviceSign s (handshakeText p.hsShare h.share p.hsNonce h.nonce h.sid)] :: s.out ∧ t = { s with
          fresh := s.fresh + 1
          mesh := { s.mesh with peers := t.mesh.peers }
          sec := { s.sec with slots := t.sec.slots }
          out := t.out }) ∧
    (∀ (p : PeerSess), peerOf s p.seg = some p → peersRun s = true → p.up = true → p.sentAt ≠ 0 → p.sentVer = s.mesh.version → s.now < p.sentAt + 8000 * 3600 → exec (.replicaSend p.seg) s = .next s) ∧
    (∀ (p : PeerSess), peerOf s p.seg = some p → peersRun s = true → p.up = true → p.sentVer ≠ s.mesh.version →
      ∃ t q, exec (.replicaSend p.seg) s = .next t ∧ peerOf t p.seg = some q ∧ q.sentVer = s.mesh.version ∧ q.sentAt = s.now ∧ (∃ o l, q.outs = o :: l ∧ o.seg = segNumber s ∧ o.version = s.mesh.version ∧ o.items = ownParts s ∧ o.unacked.length = partCount (ownParts s)) ∧
        t.out.length = s.out.length + partCount (ownParts s) ∧ t = { s with mesh := { s.mesh with peers := t.mesh.peers, inbound := t.mesh.inbound }, out := t.out }) ∧
    (∀ seg, (∀ p ∈ s.mesh.peers ++ s.mesh.inbound, ∀ o ∈ p.outs, ∀ u ∈ o.unacked, s.now < u.2 + 40000) → exec (.replicaPartResend seg) s = .next s) ∧
    (∀ (seg : U32) (p : PeerSess) (o : ReplicaOut) (k at_ : Nat), sessionsWith s seg = [p] → p.outs = [o] → o.unacked = [(k, at_)] → at_ + 40000 ≤ s.now →
      exec (.replicaPartResend seg) s = .next (sendPart s p.sid o k)) ∧
    (∀ (p : PeerSess) (v : U32) (k : Nat), peerOf s p.seg = some p → p.up = true → (∀ x ∈ s.mesh.peers ++ s.mesh.inbound, x.silent = false) →
      ∃ t q, exec (.replicaAck p.seg v k) s = .next t ∧ peerOf t p.seg = some q ∧ q.outs = p.outs.map (fun o => if o.version = v then { o with unacked := o.unacked.filter fun u => u.1 != k } else o) ∧ q.lastRx = s.now ∧ t = { s with mesh := { s.mesh with peers := t.mesh.peers, inbound := t.mesh.inbound } }) ∧
    (∀ (m : ReplicaPart) (p : PeerSess), sessOf s m.sess = some p → p.silent = false → m.owner ≠ ownerIdOf s →
      ∃ t, exec (.replica m) s = .next t ∧ t.mesh.asms = s.mesh.asms ∧ t.mesh.replicas = s.mesh.replicas ∧ t.out = s.out ∧ t.pow = s.pow ∧ t.cfg = s.cfg) ∧
    (∀ (m : ReplicaPart) (p : PeerSess), sessOf s m.sess = some p → p.silent = false → m.owner = ownerIdOf s → knownVersion s m.seg = none → 2 ≤ m.count →
      ∃ t, exec (.replica m) s = .next t ∧ t.mesh.asms = { seg := m.seg, version := m.version, count := m.count, owner := m.owner, addr := m.addr, parts := [(m.part, m.items)] } :: s.mesh.asms.filter (fun y => y.seg != m.seg) ∧
        (∃ b w, b.length = 12 ∧ t.out = .peer (if p.seg = 0 then m.seg else p.seg) 2 b w :: s.out) ∧ t.pow = s.pow ∧ t.cfg = s.cfg) ∧
    (∀ (sid seg : U32) (o : List Byte) (p : PeerSess), sessOf s sid = some p → p.silent = false → o ≠ ownerIdOf s → ∃ t, exec (.replicaRequest sid seg o) s = .next t ∧ t.out = s.out ∧ t = { s with mesh := { s.mesh with peers := t.mesh.peers, inbound := t.mesh.inbound } }) ∧
    (∀ (sid seg : U32) (p : PeerSess) (x : Replica), sessOf s sid = some p → p.silent = false → seg ≠ 0 → replicaOf s seg = some x → x.owner = ownerIdOf s →
      ∃ t, exec (.replicaRequest sid seg (ownerIdOf s)) s = .next t ∧ t.out.length = s.out.length + partCount (partition x.items)) ∧
    (∀ p : PeerSess, (s.mesh.peers ++ s.mesh.inbound).find? (fun q => q.up && q.seg == p.seg) = some p →
      ∃ t q, exec (.keepalive p.seg) s = .next t ∧ sessOf t p.sid = some q ∧ q.lastRx = s.now ∧ q.silent = false ∧ t = { s with mesh := { s.mesh with peers := t.mesh.peers, inbound := t.mesh.inbound }, rcd := t.rcd, fresh := t.fresh }) ∧
    (∀ p : PeerSess, s.mesh.peers = [p] → s.mesh.inbound = [] → p.up = true → p.lastTx + 480000 ≤ s.now → exec (.keepaliveSend p.seg) s = .next { s with
      mesh := { s.mesh with peers := [{ p with txSeq := p.txSeq + 1, lastTx := s.now }] }
      out := .peer p.seg 4 [] (datagramBytes p.sid p.keys (p.txSeq + 1) [4, 0, 0, 0]) :: s.out }) ∧
    (∀ p : PeerSess, peerOf s p.seg = some p → p.up = true → p.silent = false → p.lastRx + 2400000 ≤ s.now →
      ∃ t q, exec (.peerSilent p.seg) s = .next t ∧ peerOf t p.seg = some q ∧ q = { p with silent := true } ∧ exec (.peerSilent p.seg) t = .next t ∧ t = { s with mesh := { s.mesh with peers := t.mesh.peers, inbound := t.mesh.inbound }, rcd := t.rcd, fresh := t.fresh })

/-- A node level, an override and its clearing are answered OK with the earliest round of R344: round + 1 up to tick
4,000, round + 2 after it. An override replaces the group's others from that round and keeps its count of rounds; the
row for its expiry removes what is counted down or ended. A traffic event gives a lantern of the wave the term of
R361, from the arrival less LEAD and FADE_UP, rounded down, to the arrival plus HOLD, rounded up. At a round boundary
in DECLARER a contactor group drives its contactor. exec answers a next state, the command having its own effect,
under conditions on the state and the operands alone, for nodeLevel, trafficEvent, clearGroupOverride, groupOverride,
overrideExpiry, scheduleStep. (R344, R345, R346, R359, R361, R339, R356, R357) -/
def Obligations.LevelsOverridesAndTraffic : Prop :=
  ∀ (s : State) (r : Req),
    let e := if s.clk.tick % 8000 ≤ 4000 then s.clk.tick / 8000 + 1 else s.clk.tick / 8000 + 2
    (∀ p : NodeLevelP, (let rule : Rule := { cmd := 0x0507, len := 16, fields := [(0x10, refClass p.node == 1 && (nodeRec s p.node).isSome), (0x14, decide (p.level.toNat ≤ 10000))] }; Accepted s r rule → ∃ t, exec (.nodeLevel r p) s = .next t ∧ Completed s t r rule (okWith (le 8 (max e p.atTick.toNat))) (fun s => { s with
        sch := { s.sch with nodeLevels := { node := p.node, level := p.level.toNat, fade := p.fade.toNat, since := max e p.atTick.toNat, under := none } :: s.sch.nodeLevels.filter fun z => z.node != p.node }
        pair := if paired s = true ∧ s.sys.mode = .declarer then { s.pair with replays := s.pair.replays ++ [(s.clk.tick + 1, requestBytes (.nodeLevel r p))] } else s.pair }))) ∧
    (∀ p : ClearGroupOverrideP, (let rule : Rule := { cmd := 0x0720, len := 4, fields := [(0x10, (groupOf s.cfg p.group.toNat).isSome), (0x12, p.rsv == 0)] }; Accepted s r rule → ∃ t, exec (.clearGroupOverride r p) s = .next t ∧ Completed s t r rule (okWith (le 8 e)) (fun s => { s with
        sch := { s.sch with overrides := (s.sch.overrides.filter fun o => !(o.group == p.group.toNat && decide (e ≤ o.start))).map fun o => if o.group = p.group.toNat then { o with stop := some (min e (o.stop.getD e)) } else o }
        pair := if paired s = true ∧ s.sys.mode = .declarer then { s.pair with replays := s.pair.replays ++ [(s.clk.tick + 1, requestBytes (.clearGroupOverride r p))] } else s.pair }))) ∧
    (∀ p : GroupOverrideP, (let rule : Rule := { cmd := 0x0721, len := 12, fields := [(0x10, (groupOf s.cfg p.group.toNat).isSome), (0x12, decide (p.level.toNat ≤ 10000)), (0x1A, p.rsv == 0)] }; Accepted s r rule → ∃ t, exec (.groupOverride r p) s = .next t ∧ Completed s t r rule (okWith (le 8 e)) (fun s => { s with
        sch := { s.sch with overrides := ((s.sch.overrides.filter fun o => !(o.group == p.group.toNat && decide (e ≤ o.start))).map fun o => if o.group = p.group.toNat then { o with stop := some (min e (o.stop.getD e)) } else o) ++
          [{ group := p.group.toNat, level := p.level.toNat, fade := p.fade.toNat, start := e, remaining := if p.duration = 0 then none else some p.duration.toNat, stop := none }] }
        pair := if paired s = true ∧ s.sys.mode = .declarer then { s.pair with replays := s.pair.replays ++ [(s.clk.tick + 1, requestBytes (.groupOverride r p))] } else s.pair }))) ∧
    (∀ (p : TrafficEventP) (w : Wave) (n : U32) (x : Int), waveSource p.source = some w.wave → s.cfg.waves = [w] → w.lanterns = [(n, x)] → (∀ z ∈ s.sch.terms, z.node ≠ n) →
      w.kinds.testBit (p.kind.toNat % 16) = true → p.kind.toNat % 16 ≠ 5 → p.kind.getLsbD 7 = false → p.speed ≠ 0 → i32 p.pos ≤ x → x - i32 p.pos ≤ w.reach →
      let t0 : Nat := if p.atTick = 0 then s.clk.tick else p.atTick.toNat
      let arr : Rat := mkRat t0 8000 + mkRat (36 * (x - i32 p.pos)) (1000 * p.speed.toNat)
      let up := max (arr - mkRat w.lead 10 - mkRat w.fadeUp 10).floor.toNat e
      let down := (arr + mkRat w.hold 10).ceil.toNat
      up < down → (let rule : Rule := { cmd := 0x0707, len := 20, fields := [(0x10, true), (0x14, decide (1 ≤ p.kind.toNat % 16) && decide (p.kind.toNat % 16 ≤ 5) && decide (p.kind.toNat / 16 % 8 = 0)), (0x15, p.rsv == 0), (0x1C, decide (p.atTick.toNat ≤ s.clk.tick))] }; Accepted s r rule → ∃ t, exec (.trafficEvent r p) s = .next t ∧ Completed s t r rule {} (fun s => { s with
          sch := { s.sch with terms := s.sch.terms ++ [{ node := n, level := w.level, up := up, down := down, fadeUp := w.fadeUp, fadeDn := w.fadeDn }] }
          pair := if paired s = true ∧ s.sys.mode = .declarer then { s.pair with replays := s.pair.replays ++ [(s.clk.tick + 1, requestBytes (.trafficEvent r p))] } else s.pair }))) ∧
    (∀ g : Nat, exec (.overrideExpiry g) s = .next { s with sch := { s.sch with
      overrides := s.sch.overrides.filter fun o => decide (¬ (o.group = g ∧ (o.remaining = some 0 ∨ ∃ k ∈ o.stop, k ≤ s.clk.tick / 8000))) } }) ∧
    (s.clk.tick % 8000 ≠ 0 → s.clk.stretch = false → exec .scheduleStep s = .next s) ∧
    (∀ k : Nat, s.sys.mode = .declarer → s.clk.tick % 8000 = 0 → s.eth.servo.lock ≠ 0 → k < 8 → s.cfg.groups = [(0xF008 + k, [])] → s.cfg.scheds = [] →
      (∀ o ∈ s.sch.overrides, o.group ≠ 0xF008 + k) → (contactorOf s k).want = false →
      exec .scheduleStep s = .next { s with sch := { s.sch with
        lastUtc := (utcNow s).toNat
        windowT1 := none
        groupLevels := [(0xF008 + k, 10000)] } }) ∧
    (∀ (k : Nat) (o : Override), s.sys.mode = .declarer → s.clk.tick % 8000 = 0 → s.eth.servo.lock = 0 → k < 8 → s.cfg.groups = [(0xF008 + k, [])] →
      s.sch.overrides = [o] → o.group = 0xF008 + k → o.level = 0 → o.start ≤ s.clk.tick / 8000 → o.remaining = none → o.stop = none → (contactorOf s k).want = false →
      ∃ t, exec .scheduleStep s = .next t ∧ t.sch.groupLevels = [(0xF008 + k, 0)] ∧ t.outs.contactors = (commandContactor s k true).outs.contactors ∧ t = { s with
        sch := t.sch
        outs := t.outs })

/-- Setting the clock is BUSY at LOCK 2 and else waits for its boundary; an alarm setting is stored. A second moves a
valid time on by one second, the prescaler at 0. A first read of a time field freezes the shadows, a read of YEAR
releases them. A write of SEC starts the second and clears INVALID. A stopped crystal sets OSC_STOP and INVALID, a
supply below 1.5 V returns every reset value. A leap adds a second at its boundary. VBAK is checked each day. A
comparison away from its round or in BATTERY_STANDBY does nothing, and a rewrite waits for the round boundary after
its comparison. exec answers a next state, the command having its own effect, under conditions on the state and the
operands alone, for setRealTimeClock, realTimeClockAlarm, rtcSecond, oscStop, rtcSupplyLow, rtcShadowRead,
rtcYearRead, rtcSecWrite, rtcFieldWrite, rtcStatusClear, rtcCompare, rtcRewrite, leapSecond, vbakCheck. (R322, R324,
R325, R326, R328, R329, R330, R332, R333, R334, R335, R336) -/
def Obligations.RealTimeClock : Prop :=
  ∀ (s : State) (r : Req),
    (∀ p : SetRealTimeClockP, let k : Rule := { cmd := 0x0606, len := 8, fields := [(0x10, decide (p.utc.toNat ≤ 6311433599))] }
      (s.eth.servo.lock = 2 → (Accepted s r k → ∃ t, exec (.setRealTimeClock r p) s = .next t ∧ Completed s t r k { status := 0x0302, detail := 0xFD } id)) ∧
      (s.eth.servo.lock ≠ 2 → (Accepted s r k → ∃ t, exec (.setRealTimeClock r p) s = .next t ∧ Completed s t r k {} (fun s => { s with rtc := { s.rtc with setPending := some (p.utc.toNat, stepRound s, s.sys.mode != .dummy) } })))) ∧
    (∀ (p : RealTimeClockAlarmP) (a b : AlarmSet), s.rtc.settings = [a, b] → let x : AlarmSet := { enable := p.enable.toNat, utc := p.utc.toNat }
      (let rule : Rule := { cmd := 0x0607, len := 12, fields := [(0x10, decide (p.alarm.toNat ≤ 1)), (0x11, decide (p.enable.toNat ≤ 2)), (0x12, p.rsv == 0), (0x14, decide (p.utc.toNat ≤ 6311433599))] }; Accepted s r rule → ∃ t, exec (.realTimeClockAlarm r p) s = .next t ∧ Completed s t r rule {} (fun s => { s with rtc := { s.rtc with settings := if p.alarm = 0 then [x, b] else [a, x] } }))) ∧
    (∃ t, exec .rtcSecond s = .next t ∧ t.rtc.time.subsec = 0 ∧ (rtcInvalid s = false → utcOfFields s.rtc.time < 6311433599 → utcOfFields t.rtc.time = utcOfFields s.rtc.time + 1) ∧
      (utcOfFields s.rtc.time = 6311433599 → rtcInvalid s = false → utcOfFields t.rtc.time = 0) ∧
      (rtcInvalid s = false → rtcInvalid t = false) ∧ (s.rtc.frozen = true → t.rtc.shadow = s.rtc.shadow) ∧ (s.rtc.frozen = false → t.rtc.shadow = t.rtc.time) ∧
      (∀ h g a b, s.rtc.hits = [h, g] → s.rtc.alarms = [a, b] → t.rtc.hits = [h || alarmMatches a t.rtc.time, g || alarmMatches b t.rtc.time]) ∧ t = { s with rtc := { s.rtc with
        time := t.rtc.time
        hits := t.rtc.hits
        calSec := t.rtc.calSec
        edges := t.rtc.edges
        shadow := t.rtc.shadow } }) ∧
    (∀ o : U8, o.toNat ≤ 0x18 → o.toNat % 4 = 0 →
      (s.rtc.frozen = true → exec (.rtcShadowRead o) s = .next { s with hif := { s.hif with rdata := le 4 (shadowAt s.rtc.shadow o.toNat) } }) ∧
      (s.rtc.frozen = false → ∃ t, exec (.rtcShadowRead o) s = .next t ∧ t.rtc.frozen = true ∧ t.rtc.shadow.subsec < 32768 ∧ (o ≠ 0 → t.hif.rdata = le 4 (shadowAt s.rtc.shadow o.toNat)) ∧
        t.rtc = { s.rtc with
          frozen := true
          shadow := { s.rtc.shadow with subsec := t.rtc.shadow.subsec } } ∧ t.rtc.time = s.rtc.time)) ∧
    (exec .rtcYearRead s = .next { s with
      rtc := { s.rtc with
        frozen := false
        shadow := s.rtc.time }
      hif := { s.hif with rdata := le 4 (if s.rtc.frozen = true then s.rtc.shadow.year else s.rtc.time.year) } }) ∧
    (∀ v : U32, ∃ t, exec (.rtcSecWrite v) s = .next t ∧ t.rtc.time = { s.rtc.time with
        sec := v.toNat % 64
        subsec := 0 } ∧ t.rtc.invalid = false ∧ t.rtc.calSec = 0 ∧ t.rtc.frozen = false ∧ t.rtc.alarms = s.rtc.alarms ∧ t.rtc.cal = s.rtc.cal ∧ t = { s with rtc := t.rtc }) ∧
    (∀ v : U32, exec (.rtcFieldWrite 0x08 v) s = .next { s with rtc := { s.rtc with
      time := { s.rtc.time with min := v.toNat % 64 }
      frozen := false
      shadow := { s.rtc.time with min := v.toNat % 64 } } }) ∧
    (∀ (o : U8) (v : U32), o.toNat = 0x00 ∨ 0x38 ≤ o.toNat → exec (.rtcFieldWrite o v) s = .next { s with rtc := { s.rtc with
      frozen := false
      shadow := s.rtc.time } }) ∧
    (∀ v : U32, ∃ t, exec (.rtcStatusClear v) s = .next t ∧ exec (.rtcFieldWrite 0x34 v) s = .next t ∧ t.rtc.vlow = (s.rtc.vlow && !v.getLsbD 2) ∧ t.rtc.oscStop = (s.rtc.oscStop && !v.getLsbD 3) ∧
      t.rtc.invalid = s.rtc.invalid ∧ t.rtc.time = s.rtc.time ∧ t = { s with rtc := t.rtc }) ∧
    (exec .oscStop s = .next { s with rtc := { s.rtc with
      oscStop := true
      invalid := true } }) ∧
    (∀ mv : Nat, (1700 ≤ mv → exec (.rtcSupplyLow mv) s = .next s) ∧ (1500 ≤ mv → mv < 1700 → exec (.rtcSupplyLow mv) s = .next { s with rtc := { s.rtc with vlow := true } }) ∧
      (mv < 1500 → ∃ t, exec (.rtcSupplyLow mv) s = .next t ∧ t.rtc.invalid = true ∧ t.rtc.time = Rtc.reset.time ∧ t.rtc.alarms = Rtc.reset.alarms ∧ t.rtc.cal = 0 ∧ t.rtc.vlow = false ∧ t.rtc.oscStop = false ∧
        t.rtc.settings = s.rtc.settings ∧ t = { s with rtc := t.rtc })) ∧
    (s.eth.servo.lock ≠ 2 ∨ s.clk.tick / 8000 % 3600 ≠ 0 → exec .rtcCompare s = .next s) ∧
    (s.sys.mode = .standby → exec .rtcCompare s = .next s) ∧
    (s.eth.servo.lock = 2 → s.sys.mode ≠ .standby → s.clk.tick % 28800000 = 0 → s.eth.servo.lockBroken = false → let e := clockError s
      let de := e - s.rtc.ePrev
      ∃ t, exec .rtcCompare s = .next t ∧ t.rtc.eLast = e ∧ t.rtc.rewriteDue = (if secondsDiffer s = true ∨ e ≤ -66 ∨ 66 ≤ e then some (s.clk.tick / 8000 + 1) else none) ∧ t.rtc.ePrev = (if t.rtc.rewriteDue.isSome = true then 0 else e) ∧
        (de.natAbs ≤ 11796 → t.rcd = s.rcd ∧ t.rtc.cal = min 255 (max (-256) (s.rtc.cal - roundDiv (32 * de) 3600))) ∧ (11797 ≤ de.natAbs → t.rtc.cal = s.rtc.cal) ∧ t.rtc.time = s.rtc.time ∧ t = { s with
          rtc := t.rtc
          eth := t.eth
          rcd := t.rcd
          fresh := t.fresh }) ∧
    ((s.sys.mode = .standby ∨ ∀ n ∈ s.rtc.rewriteDue, s.clk.tick / 8000 < n) → exec .rtcRewrite s = .next s) ∧
    (∀ n, s.rtc.rewriteDue = some n → n ≤ s.clk.tick / 8000 → s.sys.mode ≠ .standby → s.clk.tick % 8000 = 0 → ∃ t, exec .rtcRewrite s = .next t ∧ t.rtc.rewriteDue = none ∧ t.rtc.time = fieldsOfUtc (utcNow s).toNat ∧ t.rtc.invalid = false ∧ t = { s with
      rtc := t.rtc
      rcd := t.rcd
      fresh := t.fresh }) ∧
    (∀ u : Nat, u ≤ 6311433599 → utcOfFields (fieldsOfUtc u) = u ∧ (fieldsOfUtc u).wday = (5 + u / 86400) % 7) ∧
    (s.clk.tick % 8000 ≠ 0 ∨ s.sys.mode = .standby ∨ (s.eth.leap ≠ 1 ∧ s.eth.leap ≠ 2) → exec .leapSecond s = .next s) ∧
    (s.clk.tick % 8000 = 0 → s.sys.mode ≠ .standby → s.eth.leap = 1 → utcNow s = Int.ofNat s.eth.leapAt → ∃ t, exec .leapSecond s = .next t ∧ t.eth.taiUtc = s.eth.taiUtc + 1 ∧ t.eth.leap = 0 ∧ t.rtc.time.sec = 59 ∧ t.sch.evalAll = true ∧ utcNow t = utcNow s - 1) ∧
    (s.clk.tick % 8000 = 0 → s.sys.mode ≠ .standby → s.eth.leap = 2 → utcNow s = Int.ofNat s.eth.leapAt - 1 → ∃ t, exec .leapSecond s = .next t ∧ t.eth.taiUtc = s.eth.taiUtc - 1 ∧ t.eth.leap = 0 ∧ t.rtc.time = fieldsOfUtc s.eth.leapAt ∧ t.sch.evalAll = true) ∧
    (∀ mv : Nat, s.pow.vinGood = false ∨ s.clk.tick / 8000 % 86400 ≠ 0 → exec (.vbakCheck mv) s = .next s) ∧
    (∀ mv : Nat, s.pow.vinGood = true → s.clk.tick / 8000 % 86400 = 0 → ∃ t, exec (.vbakCheck mv) s = .next t ∧ t.pow = { s.pow with vbakMv := mv } ∧ (t.alarmOn 0x010B 0 = decide (mv < 1800)) ∧
      (2200 ≤ mv → s.alarmOn 0x010B 0 = false → t.rcd = s.rcd) ∧ t = { s with
        pow := t.pow
        rcd := t.rcd
        sys := { s.sys with alarms := t.sys.alarms }
        fresh := t.fresh })

/-- A runt, an oversize and a damaged frame are counted by their cause; one for the module is dropped, or recorded with
KEEP_BAD, and one of the bridge is counted as dropped. A good frame for the module is delivered, one of the bridge
leaves on the other port, its source learned, and one for a known address of its own port is filtered. PAUSE of n
quanta holds the port 512 n bit times, 0 ends it, the watchdog ends it and ignores PAUSE for 1 s. Old timestamps and
addresses go. Each SFP pin that changes gives an event. A frame for the module is answered where the protocols of R297
answer it. A tell that matches in BATTERY_STANDBY wakes the module: it resets with cause 0x08 at the next tick
boundary. exec answers a next state, the command having its own effect, under conditions on the state and the operands
alone, for frameReceive, bridgeAgeing, pause, pauseExpiry, pauseWatchdog, preemptVerify, tsExpiry, sfpSignalChange,
tellMatch. (R296, R298, R300, R301, R302, R303, R304, R305, R307, R308, R310, R315) -/
def Obligations.FramesPausesAndTells : Prop :=
  ∀ s : State,
    (∀ f : EthFrame, ethUp s = false ∨ pflag s f.port 0 = false → exec (.frameReceive f) s = .next s) ∧
    (∀ f : EthFrame, ethUp s = true → pflag s f.port 0 = true →
      let n := f.bytes.length
      let m := (portCfg s f.port).maxf
      (n < 14 → exec (.frameReceive f) s = .next (s.count f.port 4)) ∧
      (14 ≤ n → (n ≤ 63 ∨ m < n ∨ f.fcsOk = false) →
        let u := s.count f.port (if n ≤ 63 then 4 else if m < n then 5 else 6)
        let d := fun x : State => if (bridged s f.port && !neverTo s f) = true then x.count f.port 7 else x
        (toModule s f = false → exec (.frameReceive f) s = .next (d u)) ∧
        (toModule s f = true → pflag s f.port 1 = false → exec (.frameReceive f) s = .next (d (u.count f.port 8))) ∧
        (toModule s f = true → pflag s f.port 1 = true → ∃ t, exec (.frameReceive f) s = .next t ∧ t = { d u with
          rcd := t.rcd
          fresh := t.fresh })) ∧
      (64 ≤ n → n ≤ m → f.fcsOk = true → etherType f.bytes ≠ 0x8808 → etherType f.bytes ≠ 0x88F7 → f.udpPort ≠ 319 → f.udpPort ≠ 320 → f.udpPort ≠ 47321 → etherType f.bytes ≠ 0x88B5 →
        let u := (s.count f.port 0).count f.port 1 n
        (f.bytes.take 6 = s.eth.mac → f.room = true → Config.ipAnswer s.eth.mac f.bytes = none → exec (.frameReceive f) s = .next { u with out := .eth 0 f.bytes :: s.out }) ∧
        (∀ b, f.bytes.take 6 = s.eth.mac → f.room = true → Config.ipAnswer s.eth.mac f.bytes = some b → (ethPort s f.port).pauseUntil = none → gateShut s f.port (max 64 b.length) = false →
          ∃ t, exec (.frameReceive f) s = .next t ∧ t.out = .eth f.port (padTo (max 64 b.length) b) :: .eth 0 f.bytes :: s.out ∧ t = { s with
            eth := { s.eth with ports := t.eth.ports }
            out := t.out }) ∧
        (f.bytes.take 6 = s.eth.mac → f.room = false → exec (.frameReceive f) s = .next (u.count f.port 8)) ∧
        (toModule s f = false → bridged s f.port = false → exec (.frameReceive f) s = .next (u.count f.port 8)) ∧
        (toModule s f = false → bridged s f.port = true → neverForwarded s f = false → s.eth.bridge = [] → cut f.bytes 6 6 ≠ f.bytes.take 6 → (ethPort s (3 - f.port)).pauseUntil = none → n ≤ (portCfg s (3 - f.port)).maxf →
          ∃ t, exec (.frameReceive f) s = .next t ∧ t.out = .eth (3 - f.port) f.bytes :: s.out ∧ t.eth.bridge = [{ mac := cut f.bytes 6 6, port := f.port, seen := s.now }] ∧ t = { s with
            eth := t.eth
            out := t.out }) ∧
        (toModule s f = false → bridged s f.port = true → neverForwarded s f = false → s.eth.bridge = [{ mac := f.bytes.take 6, port := f.port, seen := s.now }] →
          ∃ t, exec (.frameReceive f) s = .next t ∧ t.out = s.out ∧ t = { s with eth := t.eth }))) ∧
    (∀ mac : List Byte, exec (.bridgeAgeing mac) s = .next { s with eth := { s.eth with bridge := s.eth.bridge.filter fun x => !(x.mac == mac && decide (x.seen + 2400000 ≤ s.now)) } }) ∧
    (∀ f : PauseFrame, ethUp s = true → pflag s f.port 0 = true →
      let p := ethPort s f.port
      let c := s.count f.port 10
      let t := 5 * (s.clk.tclk + f.at_)
      (f.port = 3 ∨ f.own = false → exec (.pause f) s = .next (s.count f.port 8)) ∧
      (f.port ≠ 3 → f.own = true → pflag s f.port 3 = false ∨ t < p.pauseIgnore → exec (.pause f) s = .next c) ∧
      (f.port = 1 ∨ f.port = 2 → f.own = true → pflag s f.port 3 = true → p.pauseIgnore ≤ t → s.eth.ports.length = 3 →
        (f.quanta ≠ 0 → ∃ u, exec (.pause f) s = .next u ∧ (ethPort u f.port).pauseUntil = some (t + f.quanta.toNat * 512000 / f.mbps) ∧ (ethPort u f.port).pauseSince = (if p.pauseUntil.isSome = true then p.pauseSince else t) ∧
          (ethPort u f.port).counters = (ethPort c f.port).counters ∧ u = { s with eth := { s.eth with ports := u.eth.ports } }) ∧
        (f.quanta = 0 → p.held = [] → p.ptpHeld = [] → ∃ u, exec (.pause f) s = .next u ∧ (ethPort u f.port).pauseUntil = none ∧ (ethPort u f.port).counters = (ethPort c f.port).counters ∧ u = { s with eth := { s.eth with ports := u.eth.ports } }))) ∧
    (∀ n cyc : Nat, 1 ≤ n → n ≤ 3 → s.eth.ports.length = 3 →
      let p := ethPort s n
      let t := 5 * (s.clk.tclk + cyc)
      (p.pauseUntil = none → exec (.pauseExpiry n cyc) s = .next s ∧ exec (.pauseWatchdog n cyc) s = .next s) ∧
      (∀ e, p.pauseUntil = some e → t < e → exec (.pauseExpiry n cyc) s = .next s) ∧
      (∀ (e q : Nat) (b : List Byte), p.pauseUntil = some e → e ≤ t → p.held = [(q, b)] → q ≤ 2 → p.ptpHeld = [] → gateShut s n b.length = false → ∃ u, exec (.pauseExpiry n cyc) s = .next u ∧ u.out = .eth n b :: s.out ∧ (ethPort u n).pauseUntil = none ∧ (ethPort u n).held = [] ∧ u = { s with
        eth := { s.eth with ports := u.eth.ports }
        out := u.out }) ∧
      (∀ e, p.pauseUntil = some e → p.held = [] → p.ptpHeld = [] → pauseWatchNs s n ≤ p.wdAcc + (t - p.pauseSince) → ∃ u, exec (.pauseWatchdog n cyc) s = .next u ∧ (ethPort u n).pauseUntil = none ∧ (ethPort u n).pauseIgnore = t + 1000000000 ∧
        (ethPort u n).counters = (ethPort (s.count n 11) n).counters ∧ u = { s with
          eth := { s.eth with ports := u.eth.ports }
          rcd := u.rcd
          fresh := u.fresh })) ∧
    (∀ n : Nat, n = 1 ∨ n = 2 → ethUp s = true → pflag s n 0 = true → pflag s n 2 = true → (n = 1 → (portCfg s 1).speed ≠ 1) → s.eth.ports.length = 3 → (3 ≤ (ethPort s n).verifyTries → ∀ b, exec (.preemptVerify n b) s = .next s) ∧ ((ethPort s n).verifyTries < 3 →
      (∃ u, exec (.preemptVerify n true) s = .next u ∧ (ethPort u n).preempt = true ∧ u = { s with eth := { s.eth with ports := u.eth.ports } }) ∧
      (∃ u, exec (.preemptVerify n false) s = .next u ∧ (ethPort u n).preempt = (ethPort s n).preempt ∧ (ethPort u n).verifyTries = (ethPort s n).verifyTries + 1 ∧ u = { s with eth := { s.eth with ports := u.eth.ports } }))) ∧
    (∀ b : Bool, exec (.preemptVerify 3 b) s = .next s) ∧
    (∀ n : Nat, 1 ≤ n → n ≤ 3 → s.eth.ports.length = 3 → ∃ u, exec (.tsExpiry n) s = .next u ∧ (ethPort u n).tsq = (ethPort s n).tsq.filter (fun x => decide (s.now < x.2.2.2.2 + 8000)) ∧
      (ethPort u n).counters = (ethPort (s.count n 15 ((ethPort s n).tsq.length - (ethPort u n).tsq.length)) n).counters ∧ u = { s with eth := { s.eth with ports := u.eth.ports } }) ∧
    (∀ a b c : Bool, ∃ t, exec (.sfpSignalChange a b c) s = .next t ∧ t.eth.sfp = { modAbs := a, los := b, txFault := c, txDis := !pflag s 2 0 || c } ∧
      (s.eth.sfp.modAbs = a → s.eth.sfp.los = b → s.eth.sfp.txFault = c → t.rcd = s.rcd) ∧ t = { s with
        eth := { s.eth with sfp := t.eth.sfp }
        rcd := t.rcd
        fresh := t.fresh }) ∧
    (∀ (n : Nat) (b : List Byte), (s.sys.mode ≠ .standby ∨ matchingTell s b = none → exec (.tellMatch n b) s = .next s) ∧
      (∀ k, s.sys.mode = .standby → matchingTell s b = some k → s.sys.nextReset = none → exec (.tellMatch n b) s = .next { s with sys := { s.sys with
        wakeReason := 2
        wakeTell := k
        wakePort := n
        nextReset := some 0x08 } })) ∧
    crc16 [0x31, 0x32, 0x33, 0x34, 0x35, 0x36, 0x37, 0x38, 0x39] = 0x29B1

/-- A timestamp extends to its full time within 2^31 ns of the reference. A message of another version or domain, or where
PTP does not run, does nothing. A one-step Sync of the selected master gives the offset t2 - t1 - delay; an accepted
one of at most 1 ms locks and drives integ and rate by R318, one 100 us off the last is discarded, the third agreeing
above 1 ms steps. Delays, requests, two-step messages, Announce, its time-out, a master's Sync and holdover follow
R312 to R320. exec answers a next state, the command having its own effect, under conditions on the state and the
operands alone, for ptpSync, ptpFollowUp, ptpDelayReq, ptpDelayResp, ptpPdelayReq, ptpPdelayResp,
ptpPdelayRespFollowUp, ptpAnnounce, announceTimeout, ptpMasterSend, holdoverEntry. (R312, R313, R314, R315, R316,
R317, R318, R319, R320) -/
def Obligations.NetworkTime : Prop :=
  ∀ s : State,
    (∀ (x : Nat) (r : Ref), s.eth.refs = [r] → r.ctr = BitVec.ofNat 32 r.full → x < r.full + 2 ^ 31 → r.full < x + 2 ^ 31 → extendTs s (BitVec.ofNat 32 x) r.epoch = some (x : Int)) ∧
    (∀ m : PtpMsg, ptpTaken s m = false → exec (.ptpSync m) s = .next s ∧ exec (.ptpFollowUp m) s = .next s ∧ exec (.ptpDelayReq m) s = .next s ∧ exec (.ptpDelayResp m) s = .next s ∧
      exec (.ptpPdelayReq m) s = .next s ∧ exec (.ptpPdelayResp m) s = .next s ∧ exec (.ptpPdelayRespFollowUp m) s = .next s) ∧
    (∀ (m : PtpMsg) (t2 d : Int), ptpTaken s m = true → s.eth.best = some (m.port, m.source) → extendTs s m.rx m.rxEpoch = some t2 → m.twoStep = false → s.eth.servo.delays = [d] →
      let o := t2 - (m.t + m.corr) - d
      let v := s.eth.servo
      (v.lock ≠ 2 ∨ v.fresh = true ∨ (o - v.offset).natAbs ≤ 100000 → o.natAbs ≤ 1000000 → ∃ t, exec (.ptpSync m) s = .next t ∧ t.eth.servo.lock = 2 ∧ t.eth.servo.offset = o ∧ t.eth.servo.accAt = s.now ∧ t.eth.servo.big = 0 ∧ t.eth.servo.first = false ∧
        (v.first = true → t.eth.servo.integ = v.integ ∧ t.eth.servo.rate = clampRate (v.integ - (o : Rat) / 4)) ∧
        (v.first = false → let T : Rat := ((t2 - v.lastAt : Int) : Rat) / 1000000000
          t.eth.servo.integ = (if 10000 < o.natAbs then v.integ else clampRate (v.integ - (o : Rat) / (64 * T))) ∧ t.eth.servo.rate = clampRate (t.eth.servo.integ - (o : Rat) / (4 * T))) ∧
        t = { s with
          eth := t.eth
          rcd := t.rcd
          out := t.out
          fresh := t.fresh }) ∧
      (v.lock = 2 → v.fresh = false → 100000 < (o - v.offset).natAbs → v.raw = [] → ∃ t, exec (.ptpSync m) s = .next t ∧ t.eth.servo = { v with raw := [o] } ∧ t.rcd = s.rcd) ∧
      (∀ a b : Int, v.lock ≠ 2 → v.big = 2 → v.bigs = [a, b] → 1000000 < o.natAbs → spread [o, a, b] ≤ 100000 → s.clk.tick % 8000 ≠ 7999 → ∃ t, exec (.ptpSync m) s = .next t ∧ t.clk = { s.clk with stepPending := s.clk.stepPending - o } ∧
        t.eth.servo.big = 0 ∧ t.eth.servo.lock = 2 ∧ t.eth.servo.integ = v.integ ∧ t.eth.servo.rate = v.rate)) ∧
    (∀ (m : PtpMsg) (t2 : Int), ptpTaken s m = true → s.eth.best = some (m.port, m.source) → extendTs s m.rx m.rxEpoch = some t2 → m.twoStep = true → s.eth.ptp.length = 3 → 1 ≤ m.port → m.port ≤ 3 →
      ∃ t, exec (.ptpSync m) s = .next t ∧ (ptpPort t m.port).sync = some (m.seqId, t2, m.corr) ∧ t.eth.servo = s.eth.servo ∧ t = { s with
        eth := t.eth
        out := t.out
        fresh := t.fresh }) ∧
    (∀ (m : PtpMsg) (q : Nat) (t2 c : Int), ptpTaken s m = true → s.eth.best = some (m.port, m.source) → (ptpPort s m.port).sync = some (q, t2, c) → s.eth.servo.delays = [] →
      (q ≠ m.seqId → exec (.ptpFollowUp m) s = .next s) ∧
      (q = m.seqId → s.eth.ptp.length = 3 → 1 ≤ m.port → m.port ≤ 3 → ∃ t, exec (.ptpFollowUp m) s = .next t ∧ (ptpPort t m.port).sync = none ∧ (ptpPort t m.port).t21 = some (t2 - (m.t + c + m.corr)) ∧ t.eth.servo = s.eth.servo ∧ t = { s with eth := t.eth })) ∧
    (∀ (m : PtpMsg) (t4 : Int), ptpTaken s m = true → extendTs s m.rx m.rxEpoch = some t4 →
      ((ptpPort s m.port).isMaster = false → exec (.ptpDelayReq m) s = .next s) ∧
      (s.cfg.ptp.clock = 1 → (ptpPort s m.port).isMaster = true → (ethPort s m.port).pauseUntil = none → gateShut s m.port 128 = false → ∃ t, exec (.ptpDelayReq m) s = .next t ∧ t.out = .ptp m.port 9 m.seqId t4.toNat [] :: s.out ∧ t = { s with
        eth := { s.eth with ports := t.eth.ports }
        out := t.out
        fresh := t.fresh }) ∧
      ((ethPort s m.port).pauseUntil = none → gateShut s m.port 128 = false → (ethPort s m.port).tsq = [] → 1 ≤ m.port → m.port ≤ 3 → s.eth.ports.length = 3 → ∃ t, exec (.ptpPdelayReq m) s = .next t ∧
        (s.cfg.ptp.steps ≠ 2 → t.out = .ptp m.port 3 m.seqId t4.toNat [] :: s.out) ∧
        (∀ r, s.cfg.ptp.steps = 2 → s.eth.refs = [r] → r.epoch = s.clk.epoch.toNat % 256 → ∃ x, t.out = .ptp m.port 10 m.seqId x [] :: .ptp m.port 3 m.seqId t4.toNat [] :: s.out) ∧ t = { s with
        eth := { s.eth with ports := t.eth.ports }
        out := t.out
        fresh := t.fresh })) ∧
    (∀ (m : PtpMsg) (a t3 : Int), ptpTaken s m = true → s.eth.best = some (m.port, m.source) → (ptpPort s m.port).dreq = some m.seqId → (ptpPort s m.port).p2p = false → (ptpPort s m.port).t21 = some a → s.eth.ptp.length = 3 → 1 ≤ m.port → m.port ≤ 3 →
      (∀ ep ns at_, (ethPort s m.port).tsq = [] ∨ ((ethPort s m.port).tsq = [(m.seqId, ep, 1, ns, at_)] ∧ s.now < at_ + 8000 ∧ extendTs s (BitVec.ofNat 32 ns) ep = some t3) →
      ∃ t, exec (.ptpDelayResp m) s = .next t ∧ t.out = s.out ∧ ((ethPort s m.port).tsq = [] → (∀ x, (ptpPort s m.port).reqTx ≠ some (m.seqId, x)) → t.eth.servo = s.eth.servo) ∧
        (((ethPort s m.port).tsq = [] ∧ (ptpPort s m.port).reqTx = some (m.seqId, t3)) ∨ (ethPort s m.port).tsq ≠ [] → ∃ d, t.eth.servo = { s.eth.servo with delays := (d :: s.eth.servo.delays).take 8 } ∧ 2 * d ≤ a + (m.t - m.corr - t3) + 1 ∧ a + (m.t - m.corr - t3) ≤ 2 * d + 1) ∧ t = { s with
          eth := t.eth
          fresh := t.fresh })) ∧
    (∀ (m : PtpMsg) (t1 t4 : Int), ptpTaken s m = true → (ptpPort s m.port).dreq = some m.seqId → (ptpPort s m.port).p2p = true → (ethPort s m.port).tsq = [] → (ptpPort s m.port).reqTx = some (m.seqId, t1) → extendTs s m.rx m.rxEpoch = some t4 → s.eth.ptp.length = 3 → 1 ≤ m.port → m.port ≤ 3 →
      (m.twoStep = true → ∃ t, exec (.ptpPdelayResp m) s = .next t ∧ (ptpPort t m.port).pdelay = some (m.seqId, t1, (m.t : Int), t4 - m.corr) ∧ t.eth.servo = s.eth.servo ∧ t = { s with eth := t.eth }) ∧
      (m.twoStep = false → ∃ t d, exec (.ptpPdelayResp m) s = .next t ∧ t.eth.servo = { s.eth.servo with delays := (d :: s.eth.servo.delays).take 8 } ∧ 2 * d ≤ t4 - t1 - m.corr + 1 ∧ t4 - t1 - m.corr ≤ 2 * d + 1 ∧ (ptpPort t m.port).dreq = none)) ∧
    (∀ (m : PtpMsg) (q : Nat) (t1 t2 t4 : Int), ptpTaken s m = true → (ptpPort s m.port).pdelay = some (q, t1, t2, t4) →
      (q ≠ m.seqId → exec (.ptpPdelayRespFollowUp m) s = .next s) ∧
      (q = m.seqId → ∃ t d, exec (.ptpPdelayRespFollowUp m) s = .next t ∧ t.eth.servo = { s.eth.servo with delays := (d :: s.eth.servo.delays).take 8 } ∧
        2 * d ≤ (t4 - t1) - (m.t + m.corr - t2) + 1 ∧ (t4 - t1) - (m.t + m.corr - t2) ≤ 2 * d + 1)) ∧
    (∀ m : Announce, ptpRuns s m.port = true → m.version = 2 → m.domain = s.cfg.ptp.domain → m.port = 1 ∨ m.port = 2 ∨ m.port = 3 → s.eth.ptp.length = 3 → (∀ p ∈ s.eth.ptp, p.master = none) → s.cfg.ptp.clock = 0 → s.cfg.tai = none → m.leap = 0 →
      ∃ t, exec (.ptpAnnounce m) s = .next t ∧ t.eth.best = some (m.port, m.source) ∧ t.eth.annOffset = (if m.utcValid = true then some m.utcOffset else none) ∧
        (s.eth.best.map Prod.snd ≠ some m.source → t.eth.servo.fresh = true ∧ t.eth.servo.first = true ∧ t.eth.servo.delays = [] ∧ t.eth.servo.big = 0) ∧ t.eth.servo.lock = s.eth.servo.lock ∧ t = { s with eth := t.eth }) ∧
    (∀ m : Announce, ptpRuns s m.port = false ∨ m.version ≠ 2 ∨ m.domain ≠ s.cfg.ptp.domain → exec (.ptpAnnounce m) s = .next s) ∧
    (∀ n : Nat, s.now < (ptpPort s n).annAt + 24 * (ptpPort s n).annMs ∨ (ptpPort s n).master = none → exec (.announceTimeout n) s = .next s) ∧
    (∀ n : Nat, n = 1 ∨ n = 2 ∨ n = 3 → s.eth.ptp.length = 3 → (ptpPort s n).master.isSome = true → (ptpPort s n).annAt + 24 * (ptpPort s n).annMs ≤ s.now → (∀ k, k = 1 ∨ k = 2 ∨ k = 3 → k ≠ n → (ptpPort s k).master = none) →
      ∃ t, exec (.announceTimeout n) s = .next t ∧ t.eth.best = none ∧ (ptpPort t n).master = none ∧ t.eth.servo.lock = (if s.eth.servo.lock = 2 then 1 else s.eth.servo.lock) ∧ t.eth.servo.integ = s.eth.servo.integ ∧ t = { s with
        eth := t.eth
        rcd := t.rcd
        fresh := t.fresh }) ∧
    (∀ n : Nat, n = 1 ∨ n = 2 ∨ n = 3 → let p := ptpPort s n
      (p.isMaster = false ∨ s.cfg.ptp.clock ≠ 1 ∨ ptpRuns s n = false → exec (.ptpMasterSend n) s = .next s) ∧
      (p.isMaster = true → s.cfg.ptp.clock = 1 → ptpRuns s n = true → (ethPort s n).tsq = [] → (ethPort s n).pauseUntil = none → gateShut s n 128 = false → p.sent ≠ 0 → s.now < p.sent + 8000 → s.cfg.ptp.steps = 1 → s.eth.ptp.length = 3 →
        ∃ t, exec (.ptpMasterSend n) s = .next t ∧ t.out = .ptp n 0 p.seqId.toNat (netNs s).toNat [] :: s.out ∧ (ptpPort t n).seqId = p.seqId + 1) ∧
      (p.isMaster = true → s.cfg.ptp.clock = 1 → ptpRuns s n = true → (ethPort s n).tsq = [] → (ethPort s n).pauseUntil = none → gateShut s n 128 = false → p.sent + 8000 ≤ s.now → s.cfg.ptp.steps = 2 → s.eth.ptp.length = 3 → s.eth.ports.length = 3 →
        ∃ t e, exec (.ptpMasterSend n) s = .next t ∧ t.out = .ptp n 0 p.seqId.toNat 0 [] :: .ptp n 11 p.seqId.toNat 0 (announceData s) :: s.out ∧ (ptpPort t n).sent = s.now ∧ (ethPort t n).tsq = [e] ∧ e.1 = p.seqId.toNat)) ∧
    (s.eth.servo.lock ≠ 2 ∨ s.now < s.eth.servo.accAt + 32000 → exec .holdoverEntry s = .next s) ∧
    (s.eth.servo.lock = 2 → s.eth.servo.accAt + 32000 ≤ s.now → ∃ t, exec .holdoverEntry s = .next t ∧ t.eth.servo = { s.eth.servo with
        lock := 1
        holdAt := s.now
        lockBroken := true
        first := true
        rate := s.eth.servo.integ } ∧ t = { s with
      eth := { s.eth with servo := t.eth.servo }
      rcd := t.rcd
      fresh := t.fresh })

/-- BID_HBO toggles with its bid word while its conditions hold. Edges, words and their losses set what the module knows,
each loss and return once. A dummy that has lost both takes over only with a condition of R373 or a grant, with
MAINS_OK and an epoch that can be raised: its claim then exceeds every epoch it knows, and DECLARER follows at the
tick boundary. A dealer grants to one whose partner is gone, refuses one whose partner governs and demotes. An outbid
declarer leaves for DUMMY; a stale claim is raised. exec answers a next state, the command having its own effect,
under conditions on the state and the operands alone, for heartbeatToggle, bidWord, heartbeatLoss, bidWordsLoss,
p3Silent, takeover, takeoverRequest, dealerGrant, dealerRefuse, dealerDemote, dealerWordSend, dealerLost, demotion,
staleClaimRaise, partnerHeartbeatEdge, p3SyncGained, dealerAliveReturn, moduleToDealerWord. (R365, R366, R367, R368,
R373, R374, R375, R376, R378, R379, R381, R382) -/
def Obligations.BidLinkDealerAndTakeover : Prop :=
  ∀ s : State,
    (∀ m : Nat, bidState s = false → exec (.heartbeatToggle m) s = .next s) ∧
    (∀ m : Nat, bidState s = true → m ≤ 15 → isDealer s = false → s.clk.releaseMet = true → s.clk.dealConfirmed = true → ∃ w : BitVec 48, exec (.heartbeatToggle m) s = .next { s with
        pair := { s.pair with
          hbo := !s.pair.hbo
          hboRun := true }
        out := .bidWord w :: s.out } ∧
      w.extractLsb' 0 32 = s.pair.claim ∧ (w.extractLsb' 32 3).toNat = roleCode s ∧ w.getLsbD 35 = !s.pair.p3Silent ∧ w.getLsbD 36 = s.pair.swapDummy.isSome ∧ w.getLsbD 37 = s.pow.mainsOk ∧
      w.getLsbD 38 = (roleCode s == 2 && s.pair.cfgMatch) ∧ w.getLsbD 39 = false ∧ w.extractLsb' 40 8 = crc8Bits (bitsLsb 40 (w.extractLsb' 0 40).toNat)) ∧
    (∀ m : Nat, bidState s = true → m ≤ 15 → s.clk.releaseMet = false ∨ s.clk.dealConfirmed = false → exec (.heartbeatToggle m) s = .next { s with pair := { s.pair with
      hbo := true
      hboRun := false } }) ∧
    (∀ (high : Bool) (cyc : Nat), let at_ := s.clk.tclk + cyc
      (∃ t, exec (.partnerHeartbeatEdge high cyc) s = .next t ∧ t.pair.hbi = high ∧ t.pair.lastEdge = at_ ∧ t.pair.edgeSeen = true ∧ (watches s = true → t.pair.hbLost = false) ∧ t = { s with
        pair := t.pair
        sys := { s.sys with alarms := t.sys.alarms }
        rcd := t.rcd
        fresh := t.fresh }) ∧
      (at_ < s.pair.lastEdge + 4800 ∨ s.pair.hbLost = true → exec (.heartbeatLoss cyc) s = .next s) ∧
      (watches s = true → s.pair.hbLost = false → s.pair.lastEdge + 4800 ≤ at_ → ∃ t, exec (.heartbeatLoss cyc) s = .next t ∧ t = { s with
        pair := { s.pair with hbLost := true }
        rcd := t.rcd
        fresh := t.fresh }) ∧
      (at_ < s.pair.lastWord + 4800 ∨ s.pair.wordsLost = true → exec (.bidWordsLoss cyc) s = .next s) ∧
      (watches s = true → s.pair.wordsLost = false → s.pair.lastWord + 4800 ≤ at_ → ∃ t, exec (.bidWordsLoss cyc) s = .next t ∧ (s.sys.mode = .declarer → t.pair.cfgMatch = false) ∧ t = { s with
        pair := { s.pair with
          wordsLost := true
          cfgMatch := t.pair.cfgMatch }
        rcd := t.rcd
        fresh := t.fresh }) ∧
      (s.pair.p3Silent = true → exec (.p3Silent cyc) s = .next s) ∧
      (watches s = true → s.pair.p3Silent = false → ∃ t, exec (.p3Silent cyc) s = .next t ∧ t = { s with
        pair := { s.pair with p3Silent := true }
        rcd := t.rcd
        fresh := t.fresh })) ∧
    (s.pair.p3Silent = false → exec .p3SyncGained s = .next s) ∧
    (watches s = true → s.pair.p3Silent = true → ∃ t, exec .p3SyncGained s = .next t ∧ t = { s with
      pair := { s.pair with p3Silent := false }
      rcd := t.rcd
      fresh := t.fresh }) ∧
    (∀ w : BidWordIn, (w.crcOk = false → exec (.bidWord w) s = .next s) ∧
      (w.crcOk = true → paired s = true → watches s = true → ∃ t, exec (.bidWord w) s = .next t ∧ t.pair = { s.pair with
          partnerClaim := w.claim
          partnerRole := w.role
          partnerP3Ok := w.p3Ok
          swapAck := w.swapAck
          partnerMains := w.mains
          partnerMatch := w.cfgMatch
          linkClaim := w.claim
          roleOneAt := if w.role = 1 then some (s.clk.tclk + w.cyc) else s.pair.roleOneAt
          lastWord := s.clk.tclk + w.cyc
          wordsLost := false
          cfgMatch := t.pair.cfgMatch } ∧ (s.sys.mode = .declarer → t.pair.cfgMatch = (w.role == 2 && w.cfgMatch)) ∧ t = { s with
        pair := t.pair
        sys := { s.sys with alarms := t.sys.alarms }
        rcd := t.rcd
        fresh := t.fresh })) ∧
    (∀ cyc : Nat, bothLost s = false ∨ dealerAlive s = true → exec (.takeover cyc) s = .next s) ∧
    (watches s = true → s.sys.mode = .dummy → s.sys.failSilent = false → s.pair.deferTakeover = false → bothLost s = true → ∀ cyc : Nat,
      let raised := fun t : State => t.pair.claim.toNat = 256 * nextEpoch s + rank s ∧ epochOf s.pair.claim < epochOf t.pair.claim ∧ epochOf s.pair.partnerClaim < epochOf t.pair.claim ∧ s.pair.heldEpoch < epochOf t.pair.claim ∧
        t.pair.deferTakeover = true ∧ t.pair.dlrReq = false ∧ t.sys.mode = .dummy ∧ t.sys.nextMode = some .declarer ∧ t.outs.takeoverTick = some t.pair.lastTakeover ∧ (s.rcd.scoreAt ≠ some s.now → t.rcd.score.head?.map (·.typ) = some 3)
      (dealerAlive s = false → takeoverCond s = false → ∃ t, exec (.takeover cyc) s = .next t ∧ t.alarmOn 0x0802 0 = true ∧ t.pair = s.pair ∧ t.sys.nextMode = s.sys.nextMode) ∧
      (dealerAlive s = false → takeoverCond s = true → s.pow.mainsOk = true → nextEpoch s ≤ 0xFFFFFF → s.sys.nextMode = none → ∃ t, exec (.takeover cyc) s = .next t ∧ raised t) ∧
      (dealerAlive s = false → takeoverCond s = true → s.pow.mainsOk = false → ∃ t, exec (.takeover cyc) s = .next t ∧ t.pair.claim = s.pair.claim ∧ 1 ∈ t.pair.refusedCauses ∧ t.sys = s.sys ∧ (1 ∈ s.pair.refusedCauses → t = s)) ∧
      (bidState s = true → dealerAlive s = true → s.pair.dlrReq = false → ∃ w : BitVec 48, exec .takeoverRequest s = .next { s with
        pair := { s.pair with dlrReq := true }
        out := .dealerWord w :: s.out } ∧ w.getLsbD 37 = true ∧ w.extractLsb' 0 32 = s.pair.claim) ∧
      (bidState s = true → hasDealer s = true → s.pair.dlrReq = true → s.pow.mainsOk = true → nextEpoch s ≤ 0xFFFFFF → s.sys.nextMode = none → ∃ t, exec (.dealerGrant cyc) s = .next t ∧ raised t) ∧
      (bidState s = true → hasDealer s = true → s.pair.dlrReq = true → ∃ t, exec .dealerRefuse s = .next t ∧ t.alarmOn 0x0802 0 = true ∧ t.pair = s.pair)) ∧
    (∀ cyc : Nat, watches s = true → s.sys.mode = .commissioning ∨ s.sys.mode = .quarantine ∨ s.sys.mode = .failLit → s.sys.failSilent = false → s.pair.deferTakeover = false → bothLost s = true → dealerAlive s = false →
      (takeoverCond s = false → exec (.takeover cyc) s = .next s) ∧
      (takeoverCond s = true → s.pow.mainsOk = true → ∃ t, exec (.takeover cyc) s = .next t ∧ t.pair = { s.pair with refusedCauses := t.pair.refusedCauses } ∧ 3 ∈ t.pair.refusedCauses ∧ t.sys = s.sys ∧ (3 ∈ s.pair.refusedCauses → t = s))) ∧
    (∀ cyc : Nat, s.pair.dlrReq = false → exec (.dealerGrant cyc) s = .next s ∧ exec .dealerRefuse s = .next s) ∧
    (∀ cyc : Nat, s.sys.mode = .boot → bidState s = true → hasDealer s = true → s.pair.dlrReq = true → exec (.dealerGrant cyc) s = .next { s with pair := { s.pair with
      dlrReq := false
      granted := true } }) ∧
    (∀ m : Nat, m ≤ 15 → bidState s = true → paired s = true → ∃ w : BitVec 48, exec (.dealerWordSend m) s = .next { s with out := .dealerWord w :: s.out } ∧ w.extractLsb' 0 32 = s.pair.claim ∧
      w.getLsbD 35 = (s.outs.stages.all fun x => !x.silent) ∧ w.getLsbD 36 = (!s.pair.hbLost) ∧ w.getLsbD 37 = s.pair.dlrReq) ∧
    (watches s = true → hasDealer s = true →
      (∀ cyc : Nat, ∃ t, exec (.dealerLost cyc) s = .next t ∧ (s.pair.dlrLost = false → t.pair.dlrLost = true) ∧ t.alarmOn 0x0803 0 = true ∧ (s.pair.dlrLost = true → s.alarmOn 0x0803 0 = true → t = s)) ∧
      (s.pair.dlrLost = true → ∃ t, exec .dealerAliveReturn s = .next t ∧ t.pair = { s.pair with dlrLost := false } ∧ t.alarmOn 0x0803 0 = false)) ∧
    (s.sys.mode = .declarer → paired s = true → s.sys.nextMode = none →
      let away := fun t : State => t.sys = { s.sys with nextMode := some .dummy } ∧ t.pair = s.pair ∧ (s.rcd.scoreAt ≠ some s.now → t.rcd.score.head?.map (·.typ) = some 3) ∧ t = { s with
        sys := t.sys
        rcd := t.rcd }
      (hasDealer s = true → ∃ t, exec .dealerDemote s = .next t ∧ away t) ∧
      (s.pair.claim.toNat < s.pair.partnerClaim.toNat → s.pair.wordsLost = false → s.pair.partnerRole = 1 → ∃ t, exec .demotion s = .next t ∧ away t) ∧
      ((∃ x ∈ s.outs.stages, x.outbid = true) → s.pair.wordsLost = true → ∃ t, exec .demotion s = .next t ∧ away t) ∧
      (s.pair.partnerClaim.toNat ≤ s.pair.claim.toNat → s.pair.wordsLost = false → exec .demotion s = .next s) ∧
      ((∃ x ∈ s.outs.stages, x.outbid = true ∧ ∃ k, x.outbidTick = some k ∧ s.now ≤ k + s.clk.ticksInRound) → s.pair.wordsLost = false → s.pair.partnerRole = 2 → s.pair.partnerClaim.toNat < s.pair.claim.toNat → exec .staleClaimRaise s = .next { s with pair := { s.pair with staleRaise := true } })) ∧
    (isDealer s = true → s.sys.mode = .declarer → ∀ (w : DealerWordIn) (a b : DealerPos), s.pair.dlrWords = [a, b] → w.crcOk = true → w.pos = false → a.demoting = false →
      let at_ := s.clk.tclk + w.cyc
      let got : DealerPos := { a with
        last := some at_
        role := w.role
        outOk := w.outOk }
      (w.req = false → exec (.moduleToDealerWord w) s = .next { s with pair := { s.pair with dlrWords := [got, b] } }) ∧
      (w.req = true → w.role = 2 ∨ w.role = 0 → b.granted = none → b.last = none ∨ b.role ≠ 1 ∨ b.outOk = false → ∃ t c, exec (.moduleToDealerWord w) s = .next t ∧ t.out = .dealerAnswer false 1 :: s.out ∧
        t.pair.dlrWords = [{ got with granted := some at_ }, c] ∧ c.demoting = true ∧ ∀ v : DealerWordIn, v.crcOk = true → v.pos = true → v.role = 1 → v.req = false → ∃ u, exec (.moduleToDealerWord v) t = .next u ∧ u.out = .dealerAnswer true 3 :: t.out) ∧
      (∀ l, w.req = true → w.role = 2 ∨ w.role = 0 → b.last = some l → at_ < l + 4800 → b.role = 1 → b.outOk = true → exec (.moduleToDealerWord w) s = .next { s with
        pair := { s.pair with dlrWords := [got, b] }
        out := .dealerAnswer false 2 :: s.out }))

/-- A planned swap is BUSY while one is pending or the partner does not match, and else starts for the round of R92; the
declarer of a pair starts one itself after 16 ticks without live stages. In tick 7,999 it runs with SWAP_ACK and is
abandoned without it. A declarer sends its tick state and the requests that take effect; a dummy takes a frame up,
applies a replayed request as the declarer did, a whole stream, and marks a missed part; a late stream is missed. exec
answers a next state, the command having its own effect, under conditions on the state and the operands alone, for
plannedRoleSwap, autoSwap, plannedSwapExecute, tickStateFrameSend, tickStateFrame, commandReplayFrame, roundDataFrame,
roundDataTimeout. (R370, R371, R372, R384, R385, R389, R149) -/
def Obligations.PairStateTransferAndSwaps : Prop :=
  ∀ (s : State) (r : Req),
    (let k : Rule := { cmd := 0x0802, len := 0 }
     (s.pair.swapRound = none → s.pair.swapRan = false → (paired s = false ∨ s.pair.wordsLost = true ∨ s.pair.partnerRole ≠ 2 ∨ s.pair.cfgMatch = false) → (Accepted s r k → ∃ t, exec (.plannedRoleSwap r) s = .next t ∧ Completed s t r k { status := 0x0302, detail := 0xFE } id)) ∧
     (s.pair.swapRound.isSome = true ∨ s.pair.swapRan = true → (Accepted s r k → ∃ t, exec (.plannedRoleSwap r) s = .next t ∧ Completed s t r k (busyBy s.pair.swapHolder) id)) ∧
     (s.pair.swapRound = none → s.pair.swapRan = false → paired s = true → s.pair.wordsLost = false → s.pair.partnerRole = 2 → s.pair.cfgMatch = true → (Accepted s r k → ∃ t, exec (.plannedRoleSwap r) s = .next t ∧ Completed s t r k { status := 0x0001 } (fun s => { s with
       pair := { s.pair with
         swapRound := some (changeRound s)
         swapHolder := tokOf s r 0x0802
         swapHasTok := true
         swapInstall := false
         swapAck := false }
       eth := if s.clk.tick % 8000 ≤ 7199 then (sendSwap s (s.clk.tick / 8000)).eth else s.eth })))) ∧
    (∀ n : Nat, 42 ≤ (portCfg s 3).maxf → ∃ b, (sendSwap s n).out = .roundData { swap := true, full := false, round := n, part := 0, count := 1, claim := s.pair.claim, sections := [.done] } b :: s.out) ∧
    (s.pair.autoTicks < 16 ∨ s.cfg.stages = [] ∨ s.pair.hbLost = true → exec .autoSwap s = .next s) ∧
    (s.sys.mode = .declarer → s.cfg.stages ≠ [] → 16 ≤ s.pair.autoTicks → s.pair.hbLost = false → s.pair.swapRound = none → s.pair.swapRan = false → paired s = true → s.pair.wordsLost = false → s.pair.partnerRole = 2 → s.pair.cfgMatch = true →
      ∃ t, exec .autoSwap s = .next t ∧ t.pair.swapRound = some (changeRound s) ∧ t.pair.swapHasTok = false ∧ t.pair.swapAck = false ∧ (s.clk.tick % 8000 ≤ 7199 → 42 ≤ (portCfg s 3).maxf → t.out.length = s.out.length + 1) ∧ t = { s with
        pair := t.pair
        eth := t.eth
        out := t.out
        rcd := t.rcd
        fresh := t.fresh }) ∧
    (s.clk.tick % 8000 ≠ 7999 → exec .plannedSwapExecute s = .next s) ∧
    (s.clk.tick % 8000 = 7999 → s.sys.nextMode = none →
      (s.sys.mode = .declarer → s.pair.swapRound = some (s.clk.tick / 8000) → s.pair.swapAck = true → s.pair.wordsLost = false → ∃ t, exec .plannedSwapExecute s = .next t ∧ t.pair = { s.pair with
          swapRound := none
          swapRan := true
          swapInstall := false
          lastTakeover := s.clk.tick + 1 } ∧ t.sys = { s.sys with nextMode := some .dummy } ∧ t = { s with
        pair := t.pair
        sys := t.sys
        rcd := t.rcd }) ∧
      (s.sys.mode = .declarer → s.pair.swapRound = some (s.clk.tick / 8000) → s.pair.swapAck = false → s.pair.swapHasTok = false → s.pair.swapInstall = false → exec .plannedSwapExecute s = .next { s with pair := { s.pair with swapRound := none } }) ∧
      (s.sys.mode = .dummy → s.pair.swapDummy = some (s.clk.tick / 8000) → s.pair.cfgMatch = true → nextEpoch s ≤ 0xFFFFFF → ∃ t, exec .plannedSwapExecute s = .next t ∧ t.pair.claim.toNat = 256 * nextEpoch s + rank s ∧ t.pair.swapDummy = none ∧
        t.pair.lastTakeover = s.clk.tick + 1 ∧ t.sys.nextMode = some .declarer ∧ t.sys.mode = .dummy)) ∧
    (s.sys.mode ≠ .declarer ∨ paired s = false → exec .tickStateFrameSend s = .next s) ∧
    (s.sys.mode = .declarer → paired s = true → s.sys.failSilent = false → s.clk.running = true → workLost s 1 = false → (ethPort s 3).held = [] → (ethPort s 3).ptpHeld = [] → ∀ b, s.pair.replays = [(s.clk.tick, b)] → ∃ f t, exec .tickStateFrameSend s = .next t ∧
      t.out = .replay s.clk.tick b (p3Frame s (replayBytes s.clk.tick b)) :: .tickState f (p3Frame s (tickStateBytes f)) :: s.out ∧
      f.claim = s.pair.claim ∧ f.tick = s.clk.tick ∧ f.epoch = s.clk.epoch ∧ f.digest = s.pair.digest ∧ f.caps.length = 8 ∧ (f.outs.map (·.1)) = stateOutputs s ∧ f.loops.map (·.idx) = s.cfg.loops.map (·.idx) ∧
      (∀ x ∈ f.outs, x.2 = releasedY s x.1) ∧ t = { s with
        pair := { s.pair with
          sentTick := some s.now
          replays := [] }
        eth := t.eth
        out := t.out
        fresh := t.fresh }) ∧
    (∀ f : TickState, (watches s = false → exec (.tickStateFrame f) s = .next s) ∧
      (watches s = true → s.sys.mode = .dummy → ∃ t, exec (.tickStateFrame f) s = .next t ∧ t.ctl = { s.ctl with shadowIn := some f } ∧ t.pair = { s.pair with
          partnerClaim := f.claim
          frames := (f :: s.pair.frames).take 3
          frameTick := some s.now
          partnerDigest := f.digest
          cfgMatch := !s.pair.missedRound && f.digest == s.pair.digest } ∧ t = { s with
        ctl := t.ctl
        pair := t.pair
        rcd := t.rcd
        fresh := t.fresh })) ∧
    (∀ (tick : U64) (msg : List Byte), (s.sys.mode ≠ .dummy ∨ paired s = false → exec (.commandReplayFrame tick msg) s = .next s) ∧
      (s.sys.mode = .dummy → paired s = true → tick.toNat = s.clk.tick + 1 →
        (∀ q p, messageOf msg = some (.groupOverride q p) → exec (.commandReplayFrame tick msg) s = .next (effGroupOverride p s).1) ∧
        (∀ q p, messageOf msg = some (.setPoint q p) → exec (.commandReplayFrame tick msg) s = .next (effSetPoint p s).1) ∧
        (∀ q p, messageOf msg = some (.contactor q p) → exec (.commandReplayFrame tick msg) s = .next (effContactor p s).1) ∧
        (∀ q p, messageOf msg = some (.nodeLevel q p) → exec (.commandReplayFrame tick msg) s = .next (effNodeLevel p s).1))) ∧
    (∀ f : RoundData, watches s = false → exec (.roundDataFrame f) s = .next s) ∧
    (∀ f : RoundData, watches s = true → s.sys.mode = .dummy →
      (f.swap = true → s.pow.mainsOk = true → nextEpoch { s with pair := { s.pair with partnerClaim := f.claim } } ≤ 0xFFFFFF → exec (.roundDataFrame f) s = .next { s with pair := { s.pair with
        partnerClaim := f.claim
        swapDummy := some f.round } }) ∧
      (∀ (g : Nat) (e : Nat) (q : U32), f.swap = false → f.full = false → s.pair.streams = [] → f.count = 1 → f.part = 0 → f.sections = [.counter g e q, .done] →
        ∃ t, exec (.roundDataFrame f) s = .next t ∧ t.mesh.keyGen = g ∧ (g = s.mesh.keyGen → t.mesh = s.mesh) ∧ (g ≠ s.mesh.keyGen → t.mesh.secFc = 0 ∧ t.mesh.fcEnd = 0 ∧ ∀ a ∈ t.mesh.assocs, ∀ x ∈ a.nbrs, x.gen ≠ g) ∧ t.pair = { s.pair with
            partnerClaim := f.claim
            partnerE := e
            partnerRestart := q
            roundSeen := f.round
            cfgMatch := t.pair.cfgMatch } ∧ t = { s with
          mesh := t.mesh
          pair := t.pair
          rcd := t.rcd
          fresh := t.fresh }) ∧
      (f.swap = false → s.pair.streams = [] → 2 ≤ f.count → f.part + 1 = f.count → ∃ t, exec (.roundDataFrame f) s = .next t ∧ t.pair.missedRound = true ∧ t.pair.streams = [] ∧ t.pair.cfgMatch = false)) ∧
    ((∀ a ∈ s.pair.streams, s.now < a.since + 8000) → exec .roundDataTimeout s = .next s) ∧
    (s.sys.mode = .dummy → (∃ a ∈ s.pair.streams, a.since + 8000 ≤ s.now) → ∃ t, exec .roundDataTimeout s = .next t ∧ t.pair.missedRound = true ∧ t.pair.cfgMatch = false ∧ (∀ a ∈ t.pair.streams, s.now < a.since + 8000))

/-- The one session opens or is BUSY in phase 6; a member's block is written and RECEIVED grows; abort and 600 s of
idleness end it with RESULT 3. Install and loader replacement end the session, enter phase 2 and are BUSY while one is
under way. A check that fails ends it with RESULT 2; the phases go on to LEAVING; the image-write ante takes the
module to UPDATE with the record armed, or it stays. 240 good rounds confirm; an expired window calls the fall-back. A
written image is checked, repeated once, and the loader retries its ante. exec answers a next state, the command
having its own effect, under conditions on the state and the operands alone, for openUpdateSession, imageBlock,
install, abort, replaceLoader, relayToPeer, updateSessionDrop, updatePhaseComplete, leaveService, updateConfirm,
windowExpiry, relay, imageWriteComplete, imageWriteAnteRetry. (R454, R455, R456, R457, R458, R459, R461, R463, R467,
R472, R151) -/
def Obligations.UpdateInstallAndRelay : Prop :=
  ∀ (s : State) (r : Req),
    (∀ p : OpenUpdateSessionP, let k : Rule := { cmd := 0x0B01, len := 56, fields := [(0x40, decide (4097 ≤ p.size.toNat) && decide (p.size.toNat ≤ 25165824)), (0x44, p.rsv == 0)] }
      (s.upd.phase = 6 → (Accepted s r k → ∃ t, exec (.openUpdateSession r p) s = .next t ∧ Completed s t r k { status := 0x0302, detail := 0xFC } id)) ∧
      (s.upd.phase ≠ 6 → s.upd.sess = none → (Accepted s r k → ∃ t, exec (.openUpdateSession r p) s = .next t ∧ Completed s t r k (okWith (le 4 s.upd.sessNext.toNat ++ le 4 0)) (fun s => { s with upd := { s.upd with
        sess := some { id := s.upd.sessNext, hash := padTo 48 p.hash, size := p.size.toNat, data := [], received := 0, last := s.now, holder := tokOf s r 0x0B01, members := [tokOf s r 0x0B01] }
        sessNext := s.upd.sessNext + 1
        phase := if s.upd.phase = 0 then 1 else s.upd.phase } }))) ∧
      (∀ x, s.upd.phase ≠ 6 → s.upd.sess = some x → (x.hash ≠ padTo 48 p.hash → (Accepted s r k → ∃ t, exec (.openUpdateSession r p) s = .next t ∧ Completed s t r k (busyBy x.holder) id)) ∧
        (x.hash = padTo 48 p.hash → member x (tokOf s r 0x0B01) = false → (Accepted s r k → ∃ t, exec (.openUpdateSession r p) s = .next t ∧ Completed s t r k (okWith (le 4 x.id.toNat ++ le 4 x.received)) (fun s => { s with upd := { s.upd with
          sess := some { x with members := x.members ++ [tokOf s r 0x0B01] } } }))))) ∧
    (∀ (p : ImageBlockP) (x : UpdSess), s.upd.sess = some x → x.id = p.session → member x (tokOf s r 0) = true →
      (let rule : Rule := { cmd := 0x0B02, len := 8 + p.data.length, fields := [(0x14, decide (p.offset.toNat ≤ x.received) && decide (p.offset.toNat + p.data.length ≤ x.size))] }; Accepted s r rule → ∃ t, exec (.imageBlock r p) s = .next t ∧ Completed s t r rule (okWith (le 4 (max x.received (p.offset.toNat + p.data.length)))) (fun s => { s with upd := { s.upd with sess := some { x with
          data := (p.offset.toNat, p.data) :: x.data
          received := max x.received (p.offset.toNat + p.data.length)
          last := s.now } } }))) ∧
    (∀ (x : UpdSess), s.upd.sess = some x → member x (tokOf s r 0) = true →
      (∀ p : InstallP, x.id = p.session → let k : Rule := { cmd := 0x0B03, len := 8, fields := [(0x10, true), (0x14, p.window.toNat == 0 || (decide (5 ≤ p.window.toNat) && decide (p.window.toNat ≤ 240))), (0x16, p.rsv == 0)] }
        (2 ≤ s.upd.phase → s.upd.phase ≤ 5 → (Accepted s r k → ∃ t, exec (.install r p) s = .next t ∧ Completed s t r k { status := 0x0302, detail := 0xFC } id)) ∧
        (s.upd.phase = 1 → s.sys.mode ≠ .declarer ∨ paired s = false → (Accepted s r k → ∃ t, exec (.install r p) s = .next t ∧ Completed s t r k { status := 0x0001 } (fun s => { s with upd := { s.upd with
          sess := none
          phase := 2
          inst := some x
          hdr := some (imgHdrOf x)
          staged := none
          tok := some (tokOf s r 0x0B03)
          window := if p.window = 0 then 30 else p.window.toNat
          loaderInst := false } })))) ∧
      (∀ p : ReplaceLoaderP, x.id = p.session → s.upd.phase = 1 → (let rule : Rule := { cmd := 0x0B06, len := 4, fields := [(0x10, true)], limit := if loaderLeft s = 0 then some (3, 0) else none }; Accepted s r rule → ∃ t, exec (.replaceLoader r p) s = .next t ∧ Completed s t r rule { status := 0x0001 } (fun s => { s with upd := { s.upd with
        sess := none
        phase := 2
        inst := some x
        hdr := some (imgHdrOf x)
        staged := none
        tok := some (tokOf s r 0x0B06)
        window := 30
        loaderInst := true } }))) ∧
      (∀ p : AbortP, x.id = p.session → (let rule : Rule := { cmd := 0x0B04, len := 4, fields := [(0x10, true)] }; Accepted s r rule → ∃ t, exec (.abort r p) s = .next t ∧ Completed s t r rule {} (fun s => { s with
        upd := { s.upd with
          sess := none
          phase := if s.upd.phase = 1 then 0 else s.upd.phase
          result := 3 }
        rcd := (setResult (dropSession s) 3 0 0 (newVersion s) s.sys.fwVersion 0).rcd }))) ∧
      (∀ (p : RelayToPeerP) (seg : U32), x.id = p.session → seatOf s p.addr = some seg → let k : Rule := { cmd := 0x0B07, len := 20, fields := [(0x10, x.received == x.size), (0x14, true)] }
        (∀ y, s.upd.relay = some y → (Accepted s r k → ∃ t, exec (.relayToPeer r p) s = .next t ∧ Completed s t r k (busyBy y.tok) id)) ∧
        (s.upd.relay = none → peerOf s seg = none → (Accepted s r k → ∃ t, exec (.relayToPeer r p) s = .next t ∧ Completed s t r k { status := 0x0001 } (fun s => { s with upd := { s.upd with relay := some { tok := tokOf s r 0x0B07, seg := seg, img := x, sess := 0 } } })))) ∧
      (s.now < x.last + 4800000 → exec .updateSessionDrop s = .next s) ∧
      (x.last + 4800000 ≤ s.now → ∃ t, exec .updateSessionDrop s = .next t ∧ t.upd = { s.upd with
          sess := none
          phase := if s.upd.phase = 1 then 0 else s.upd.phase
          result := 3 } ∧ t = { s with
        upd := t.upd
        rcd := t.rcd
        fresh := t.fresh })) ∧
    (s.upd.inst = none → ∀ b : Bool, exec (.updatePhaseComplete b) s = .next s) ∧
    (∀ (x : UpdSess) (h : ImgHdr) (b : Bool), s.upd.inst = some x → s.upd.hdr = some h →
      let ended := fun (t : State) (n : Nat) => t.upd.result = n ∧ t.upd.hdr = none ∧ t.upd.inst = none ∧ t.upd.staged = none ∧ t.upd.phase = (if s.upd.sess.isSome = true then 1 else 0) ∧ t.upd.rec_ = s.upd.rec_ ∧ t.sys = s.sys ∧ t.cfg = s.cfg
      (s.upd.phase = 2 → s.pair.swapInstall = true → exec (.updatePhaseComplete b) s = .next s) ∧
      (s.upd.phase = 2 → s.pair.swapInstall = false → (∃ f, firstFailed (imageChecks s x h) = some f) → ∃ t, exec (.updatePhaseComplete b) s = .next t ∧ ended t 2) ∧
      (x.received < x.size → firstFailed (imageChecks s x h) = some (1, x.received)) ∧
      (s.upd.phase = 2 → s.pair.swapInstall = false → firstFailed (imageChecks s x h) = none → ∃ t, exec (.updatePhaseComplete b) s = .next t ∧ t.upd = { s.upd with phase := 3 } ∧
        t.pow.stores.length = s.pow.stores.length + max 1 (ceilDiv x.size 4194304) ∧ t = { s with
          upd := t.upd
          pow := { s.pow with stores := t.pow.stores } }) ∧
      (s.upd.phase = 3 → filesDone s = true → ∃ t, exec (.updatePhaseComplete false) s = .next t ∧ ended t 2) ∧
      (s.upd.phase = 3 → filesDone s = true → s.upd.loaderInst = false → ∃ t, exec (.updatePhaseComplete true) s = .next t ∧ t.upd = { s.upd with
          phase := 4
          staged := some h } ∧ t = { s with
        upd := t.upd
        pow := { s.pow with stores := t.pow.stores } }) ∧
      (s.upd.phase = 4 → filesDone s = true → exec (.updatePhaseComplete b) s = .next { s with upd := { s.upd with
        phase := 5
        rollbackStore := s.upd.running
        leaving := true } }) ∧
      (∀ v : Nat, s.upd.leaving = false ∨ s.clk.tick % 8000 ≠ 0 ∨ s.pair.swapInstall = true → exec (.leaveService v) s = .next s) ∧
      (∀ v : Nat, s.upd.leaving = true → s.pair.swapInstall = false → s.upd.fallBack = false → s.sys.nextMode = none → s.clk.tick % 8000 = 0 → s.sys.mode = .dummy ∨ s.sys.mode = .failLit ∨ s.sys.mode = .quarantine →
        let u := { s with pow := { s.pow with stackMv := v } }
        let f := firstFailed ((4, 0, chainOk s h) :: levelChecks s h)
        (f.isSome = true → ∃ t, exec (.leaveService v) s = .next t ∧ ended t 2) ∧
        (f = none → antePasses u 24000 = true → s.pow.warning = false → ∃ t, exec (.leaveService v) s = .next t ∧ t.sys = { s.sys with nextMode := some .update } ∧ t.upd.rec_.state = 1 ∧ t.upd.rec_.newVersion = h.version ∧
          t.upd.rec_.oldVersion = s.sys.fwVersion ∧ t.upd.rec_.windowLeft = 60 * s.upd.window ∧ t.upd.rec_.seq = s.upd.rec_.seq + 1 ∧ t = { s with
            sys := t.sys
            upd := t.upd
            pow := t.pow }) ∧
        (f = none → antePasses u 24000 = false → (∀ x ∈ s.pow.stores, x.kind ≠ .image) → ∃ e, exec (.leaveService v) s = .next { u with pow := { u.pow with stores := s.pow.stores ++ [e] } } ∧ e.kind = .image ∧ e.mj = 24000 ∧ e.running = false))) ∧
    (s.upd.phase ≠ 6 ∨ s.upd.rec_.state ≠ 4 ∨ s.upd.good < 240 → exec .updateConfirm s = .next s) ∧
    (s.upd.phase = 6 → s.upd.rec_.state = 4 → 240 ≤ s.upd.good → ∃ t, exec .updateConfirm s = .next t ∧ t.upd.result = 1 ∧ t.upd.rec_.state = 0 ∧ t.upd.rec_.windowLeft = 0 ∧ t.upd.phase = (if s.upd.sess.isSome = true then 1 else 0) ∧
      t.sec.fuseQueue.length = s.sec.fuseQueue.length + ((s.upd.running.map (·.rollback)).getD 0 - popCount s.sec.fuses.rollback) ∧ t = { s with
        upd := t.upd
        sec := { s.sec with fuseQueue := t.sec.fuseQueue }
        rcd := t.rcd
        fresh := t.fresh }) ∧
    (s.upd.rec_.state ≠ 4 ∨ s.upd.rec_.windowLeft ≠ 0 → exec .windowExpiry s = .next s) ∧
    (s.upd.rec_.state = 4 → s.upd.rec_.windowLeft = 0 → ∃ t, exec .windowExpiry s = .next t ∧ t.upd.rec_.state = 5 ∧ t.upd.rec_.reason = 5 ∧ t.upd.fallBack = true ∧ (s.sys.mode = .dummy ∨ s.sys.mode = .failLit ∨ s.sys.mode = .declarer → t.upd.leaving = true ∧ t.sys = s.sys) ∧
      (s.sys.mode = .quarantine ∨ s.sys.mode = .commissioning ∨ s.sys.mode = .boot → s.sys.nextReset = none → t.sys = { s.sys with nextReset := some 0x07 }) ∧ t = { s with
        upd := t.upd
        pair := t.pair
        sys := t.sys
        eth := t.eth
        out := t.out }) ∧
    (∀ b : Bool, s.upd.writing = false → exec (.imageWriteComplete b) s = .next s) ∧
    (s.upd.writing = true → s.pow.stores = [] →
      (s.upd.rec_.state ≠ 6 → ∃ t, exec (.imageWriteComplete true) s = .next t ∧ t.upd.rec_.state = 3 ∧ t.upd.rec_.seq = s.upd.rec_.seq + 1 ∧ t.sys.inReset = true ∧ t.sys.resetCause = 0x07 ∧ t.upd.writing = false) ∧
      (s.upd.rec_.state = 6 → ∃ t, exec (.imageWriteComplete true) s = .next t ∧ t.upd.rec_.state = 0 ∧ t.upd.result = s.upd.rec_.reason ∧ t.sys.inReset = true ∧ t.sys.resetCause = 0x07) ∧
      (s.upd.retried = false → exec (.imageWriteComplete false) s = .next { s with upd := { s.upd with retried := true } }) ∧
      (s.upd.retried = true → s.upd.rec_.state ≠ 6 → ∃ t, exec (.imageWriteComplete false) s = .next t ∧ t.upd.rec_.state = 6 ∧ t.upd.rec_.reason = 8 ∧ t.upd.retried = false ∧ t = { s with upd := t.upd })) ∧
    (∀ v : Nat, (s.upd.anteWait = false → exec (.imageWriteAnteRetry v) s = .next s) ∧
      (s.upd.anteWait = true → let u := { s with pow := { s.pow with stackMv := v } }
        exec (.imageWriteAnteRetry v) s = .next { u with upd := { s.upd with
          writing := antePasses u 24000 && !s.pow.warning
          anteWait := !(antePasses u 24000 && !s.pow.warning) } })) ∧
    (∀ (seg : U32) (msg : List Byte), (s.mesh.peers ++ s.mesh.inbound).find? (fun p => p.up && p.seg == seg) = none → exec (.relay seg msg) s = .next s) ∧
    (∀ (seg : U32) (msg : List Byte) (p : PeerSess), (s.mesh.peers ++ s.mesh.inbound).find? (fun p => p.up && p.seg == seg) = some p → p.silent = false →
      ((byteAt msg 9).getLsbD 0 = true → s.upd.relay = none → ∃ t, exec (.relay seg msg) s = .next t ∧ t.upd = s.upd ∧ t.out = s.out) ∧
      (∀ y, (byteAt msg 9).getLsbD 0 = true → s.upd.relay = some y → y.seg = p.seg → 2 < num msg 16 2 → ∃ t, exec (.relay seg msg) s = .next t ∧ t.upd = { s.upd with relay := none }) ∧
      ((byteAt msg 9).getLsbD 0 = false → msg.length ≠ 20 + num msg 6 2 → ∃ t b, exec (.relay seg msg) s = .next t ∧ t.upd = s.upd ∧ ∃ f, t.out = .peer p.seg 5 b f :: s.out))

/-- A lifecycle advance, a level raise, a root revocation and an ownership transfer, passing their checks and token, queue
one fuse change and are ACCEPTED. A key load or commit asks for its store: ACCEPTED when the ante passes, else
ANTE_FAILED. A stage holds the key with its nonce, a fifth is BUSY; the right proof confirms it, a wrong one discards
it. A fuse change burns its bit when its ante passes, else waits. Clearing frees the sources no longer active. A
source that becomes active is latched and ends open stages; the mesh zeroises the slots. exec answers a next state,
the command having its own effect, under conditions on the state and the operands alone, for lifecycleAdvance,
raiseCompatibilityLevel, loadKeyPlaintext, stageKey, confirmKey, commitKey, discardStagedKey, keyStageExpiry,
revokeRootSlot, ownershipTransfer, clearTamperLatch, debugUnlock, fuseCountedChange, tamper. (R425, R428, R430, R434,
R442, R443, R444, R448, R449, R450, R150, R476) -/
def Obligations.KeysFusesAndTamper : Prop :=
  ∀ (s : State) (r : Req),
    (∀ p : LifecycleAdvanceP, (let rule : Rule := { cmd := 0x0106, len := 4 + p.tlen.toNat, fields := [(0x10, p.target.toNat == lifecycle s + 1 && (p.target.toNat != 2 || deployReady s)), (0x11, p.rsv == 0), (0x12, p.target.toNat == 3 || p.tlen == 0)] ++ (if p.target.toNat = 3 then tokenFields 0x14 p.token else []), priv := some (if p.target.toNat = 2 then 4 else if p.target.toNat = 3 then 3 else 0), legal := some (advanceLegal s p.target.toNat (chan s r.ch.toNat).owner), refuse := tokenRefused s r (p.target.toNat != 3 || tokenGood s p.token [1]) }; Accepted s r rule → ∃ t, exec (.lifecycleAdvance r p) s = .next t ∧ Completed s t r rule { status := 0x0001 } (fun s => { s with sec := { s.sec with fuseQueue := s.sec.fuseQueue ++ [{ tok := some (tokOf s r 0x0106), change := .lifecycle p.target.toNat, since := s.now }] } }))) ∧
    (∀ p : RaiseCompatibilityLevelP, let k : Rule := { cmd := 0x0107, len := 4, fields := [(0x10, decide (levelSoFar s < p.level.toNat) && decide (p.level.toNat ≤ s.sys.imageCompatHighest.toNat)), (0x12, p.rsv == 0)], limit := if compatLeft s = 0 then some (4, 0) else none }
      (2 ≤ s.upd.phase → s.upd.phase ≤ 6 → (Accepted s r k → ∃ t, exec (.raiseCompatibilityLevel r p) s = .next t ∧ Completed s t r k { status := 0x0302, detail := 0xFC } id)) ∧
      (s.upd.phase < 2 → (Accepted s r k → ∃ t, exec (.raiseCompatibilityLevel r p) s = .next t ∧ Completed s t r k { status := 0x0001 } (fun s => { s with sec := { s.sec with
        compatNext := s.sec.compatNext ++ [{ level := p.level.toNat, round := changeRound s, tok := tokOf s r 0x0107, fused := false }]
        fuseQueue := s.sec.fuseQueue ++ [{ tok := some (tokOf s r 0x0107), change := .compat p.level.toNat, since := s.now }] } })))) ∧
    (∀ p : RevokeRootSlotP, (let rule : Rule := { cmd := 0x0A07, len := 4 + p.tlen.toNat, fields := [(0x10, revocable s p.slot.toNat), (0x11, p.rsv == 0)] ++ tokenFields 0x14 p.token, refuse := tokenRefused s r (revokeToken s p.slot.toNat p.token) }; Accepted s r rule → ∃ t, exec (.revokeRootSlot r p) s = .next t ∧ Completed s t r rule { status := 0x0001 } (fun s => { s with sec := { s.sec with fuseQueue := s.sec.fuseQueue ++ [{ tok := some (tokOf s r 0x0A07), change := .revoke p.slot.toNat, since := s.now }] } }))) ∧
    (∀ p : OwnershipTransferP, (let rule : Rule := { cmd := 0x0A08, len := 4 + p.tlen.toNat, fields := (0x12, p.rsv == 0) :: tokenFields 0x14 p.token, refuse := tokenRefused s r (tokenGood s p.token [3, 4]), limit := ownerLimit s }; Accepted s r rule → ∃ t, exec (.ownershipTransfer r p) s = .next t ∧ Completed s t r rule { status := 0x0001 } (fun s => { s with sec := { s.sec with fuseQueue := s.sec.fuseQueue ++ [{ tok := some (tokOf s r 0x0A08), change := .ownerXfer (cut p.token 0x14 16) (cut p.token 0x24 48), since := s.now }] } }))) ∧
    (let a := antePasses s 810 && !deferredKind s .key && !s.pow.warning
     let ask := fun (cmd : Nat) (q : StorePurpose) (s : State) => { s with pow := { s.pow with stores := s.pow.stores ++ [{ kind := .key, mj := 810, purpose := q, tok := some (tokOf s r cmd), since := s.now, running := a }] } }
     let said : Reply := if a = true then { status := 0x0001 } else { status := 0x0303, info := 2, detail := availUnits s + 65536 * 81 }
     (∀ p : LoadKeyPlaintextP, (let rule : Rule := { cmd := 0x0A02, len := 16 + p.klen.toNat, fields := [(0x10, decide (1 ≤ p.slot.toNat) && decide (p.slot.toNat ≤ 23)), (0x11, (keyLen p.typ.toNat).isSome && fixedType p.slot.toNat p.typ.toNat), (0x12, decide (p.mask.toNat < 64) && fixedMask p.slot.toNat p.mask.toNat), (0x13, usageOk p.typ.toNat p.usage.toNat), (0x1C, keyLen p.typ.toNat == some p.klen.toNat), (0x1E, p.rsv == 0)], legal := some (s.sys.mode == .commissioning && lifecycle s == 1) }; Accepted s r rule → ∃ t, exec (.loadKeyPlaintext r p) s = .next t ∧ Completed s t r rule said (ask 0x0A02 (.key p.slot.toNat { typ := p.typ.toNat, mask := p.mask.toNat, usage := p.usage.toNat, expiry := p.expiry.toNat, header := p.slot.toNat, key := padTo p.klen.toNat p.key, expired := false })))) ∧
     (∀ (p : CommitKeyP) (x : Stage), stageOf s p.stage = some x → (let rule : Rule := { cmd := 0x0A05, len := 4, fields := [(0x10, x.confirmed), (0x12, p.rsv == 0)] }; Accepted s r rule → ∃ t, exec (.commitKey r p) s = .next t ∧ Completed s t r rule said (ask 0x0A05 (.stagedKey x.id.toNat x.hand x.key))))) ∧
    (∀ (p : StageKeyP) (k : Hand), broughtKey s p = some k → let q : Rule := { cmd := 0x0A03, len := 12 + p.wlen.toNat, fields := keyStageChecks s p }
      (s.sec.stages.length < 4 → (Accepted s r q → ∃ t, exec (.stageKey r p) s = .next t ∧ Completed s t r q (okWith (le 2 s.sec.stageNext.toNat ++ le 2 0 ++ padTo 32 (Config.freeBytes s.fresh 32))) (fun s => { s with sec := { s.sec with
        stages := s.sec.stages ++ [{ id := s.sec.stageNext, hand := p.hand.toNat, key := k, confirmed := false, since := s.now, holder := tokOf s r 0x0A03, nonce := padTo 32 (Config.freeBytes s.fresh 32) }]
        stageNext := s.sec.stageNext + 1 } }))) ∧
      (∀ x l, s.sec.stages = x :: l → 3 ≤ l.length → (Accepted s r q → ∃ t, exec (.stageKey r p) s = .next t ∧ Completed s t r q (busyBy x.holder) id))) ∧
    (∀ (p : ConfirmKeyP) (x : Stage), stageOf s p.stage = some x → let k : Rule := { cmd := 0x0A04, len := 52, fields := [(0x10, true), (0x12, p.rsv == 0)] }
      let good := Config.keyProof x.key.key x.nonce x.hand (le 8 s.sys.serial.toNat ++ le 2 x.id.toNat) = p.proof
      (good → (Accepted s r k → ∃ t, exec (.confirmKey r p) s = .next t ∧ Completed s t r k {} (fun s => { s with sec := { s.sec with stages := s.sec.stages.map fun y => if y.id == x.id then { y with confirmed := true } else y } }))) ∧
      (¬ good → (Accepted s r k → ∃ t, exec (.confirmKey r p) s = .next t ∧ Completed s t r k { status := 0x0401 } (fun s => { s with sec := { s.sec with stages := s.sec.stages.filter fun y => !(y.id == x.id) } })))) ∧
    (∀ p : DiscardStagedKeyP, (let rule : Rule := { cmd := 0x0A06, len := 4, fields := [(0x10, (stageOf s p.stage).isSome), (0x12, p.rsv == 0)] }; Accepted s r rule → ∃ t, exec (.discardStagedKey r p) s = .next t ∧ Completed s t r rule {} (fun s => { s with sec := { s.sec with stages := s.sec.stages.filter fun y => !(y.id == p.stage) } }))) ∧
    (∀ i : U16, (stageOf s i = none → exec (.keyStageExpiry i) s = .next s) ∧
      (∀ x, stageOf s i = some x → s.now < x.since + 4800000 → exec (.keyStageExpiry i) s = .next s) ∧
      (∀ x, stageOf s i = some x → x.since + 4800000 ≤ s.now → exec (.keyStageExpiry i) s = .next { s with sec := { s.sec with stages := s.sec.stages.filter fun y => !(y.id == i) } })) ∧
    (∀ p : ClearTamperLatchP, s.sys.mode ≠ .quarantine →
      let named := p.sources.extractLsb' 0 5 &&& s.sec.tamper.latched
      let still := named &&& s.sec.tamper.active
      (let rule : Rule := { cmd := 0x0A09, len := 4, fields := [(0x10, decide (p.sources.toNat < 32)), (0x12, p.rsv == 0)] }; Accepted s r rule → ∃ t, exec (.clearTamperLatch r p) s = .next t ∧ Completed s t r rule (if still = 0 then {} else { status := 0x0501, info := still.toNat }) (fun s => { s with sec := { s.sec with tamper := { s.sec.tamper with latched := s.sec.tamper.latched &&& ~~~(named &&& ~~~s.sec.tamper.active) } } }))) ∧
    (∀ p : DebugUnlockP, let k : Rule := { cmd := 0x0A0B, len := 100, fields := [(0x10, decide (p.scope.toNat < 64))] }
      (s.sec.debugChal = none → (Accepted s r k → ∃ t, exec (.debugUnlock r p) s = .next t ∧ Completed s t r k { status := 0x0201, info := 3, detail := (chan s r.ch.toNat).priv } id)) ∧
      (∀ b at_, s.sec.debugChal = some (b, at_) → s.now ≤ at_ + 480000 → rootGood s Config.debugRoot = true → Config.debugSig s.sys.serial b p.scope p.sig = true → (Accepted s r k → ∃ t, exec (.debugUnlock r p) s = .next t ∧ Completed s t r k { status := 0x0001 } (fun s => { s with sec := { s.sec with
        debugChal := none
        debugTok := some (tokOf s r 0x0A0B, p.scope) } })))) ∧
    (∀ v : Nat, (∀ x ∈ s.sec.fuseQueue, s.now ≤ x.since) → exec (.fuseCountedChange v) s = .next s) ∧
    (∀ (v n k : Nat) (t : Option OpTok), k < s.now → s.sec.fuseQueue = [{ tok := t, change := .revoke n, since := k }] → s.pow.stores = [] →
      let u := { s with pow := { s.pow with stackMv := v } }
      (antePasses u 675 = true → s.pow.warning = false → ∃ w, exec (.fuseCountedChange v) s = .next w ∧ w.sec.fuses = { s.sec.fuses with rootRevoke := s.sec.fuses.rootRevoke ||| BitVec.ofNat 4 (2 ^ n) } ∧ w.sec.fuseQueue = [] ∧ w.sec.opSeq = s.sec.opSeq + 1 ∧ w.sec.commits = s.sec.commits ∧ w.pow = u.pow) ∧
      (antePasses u 675 = false ∨ s.pow.warning = true → exec (.fuseCountedChange v) s = .next { u with
        pow := { u.pow with stores := [{ kind := .fuse, mj := 675, purpose := .fuse (.revoke n), tok := t, since := s.now, running := false }] }
        sec := { s.sec with fuseQueue := [] } })) ∧
    (∀ (k : Nat) (b : Bool), s.pow.drawing = false ∨ 5 ≤ k → exec (.tamper k b) s = .next s) ∧
    (∀ k : Nat, s.pow.drawing = true → k < 5 →
      exec (.tamper k false) s = .next { s with sec := { s.sec with tamper := { s.sec.tamper with active := s.sec.tamper.active &&& ~~~(BitVec.ofNat 5 (2 ^ k)) } } } ∧
      (s.sec.tamper.active.getLsbD k = true → exec (.tamper k true) s = .next s) ∧
      (s.sec.tamper.active.getLsbD k = false → s.sys.mode = .declarer → s.pow.stores = [] → s.sec.fuseQueue = [] → s.sys.nextMode = none →
        ∃ t, exec (.tamper k true) s = .next t ∧ t.sec.tamper.latched = s.sec.tamper.latched ||| BitVec.ofNat 5 (2 ^ k) ∧ t.sec.tamper.active = s.sec.tamper.active ||| BitVec.ofNat 5 (2 ^ k) ∧ t.sec.stages = [] ∧ (s.rcd.scoreAt ≠ some s.now → t.rcd.score.head?.map (·.typ) = some 4) ∧
          t.sec.slots = (if k = 1 then List.replicate 32 Slot.reset else s.sec.slots) ∧ t.sys.nextMode = (if k = 1 then some .quarantine else none) ∧ t.outs = s.outs ∧ t.met = s.met ∧ t.pow = s.pow))

/-- MOD_OK reads OK exactly in COMMISSIONING, DECLARER and DUMMY of a module that runs. A warm reset asked for by command
waits for its round, recommission for the tick boundary. RESET_N low for 8 samples, the round watchdog, a return of
mains and an RTC alarm in BATTERY_STANDBY each call for a reset with their own cause, which the next tick boundary
brings; the automatic restart resets at once; without their condition nothing changes. RESET_N comes to nothing in
UPDATE and BATTERY_STANDBY (the model's choice, log 174). A warm reset keeps fuses, hands, claim and committed
configuration and zeroises the key slots. BOOT counts itself, reads the straps and starts the ticks at the clock, or
one round past the alive mark. BOOT ends by Table 1.8; the counting of 2 s of MAINS_OK in samples and the tick at
which a waiting loser becomes dummy are the model's readings (logs 172, 171). exec answers a next state, the command
having its own effect, under conditions on the state and the operands alone, for warmResetCommand, recommission,
powerOn, bootEnd, resetN, resetRelease, mainsReturn, automaticRestart, roundWatchdog, tickBoundary, rtcAlarmMatch.
(R28, R46, R60, R61, R62, R64, R65, R66, R67, R68, R81, R369) -/
def Obligations.ResetsAndBoot : Prop :=
  ∀ (s : State) (r : Req),
    (s.pow.drawing = true → s.sys.inReset = false → (modOkReads s = true ↔ s.sys.mode = .commissioning ∨ s.sys.mode = .declarer ∨ s.sys.mode = .dummy)) ∧
    (s.pow.drawing = false ∨ s.sys.inReset = true → modOkReads s = false) ∧
    (∀ p : WarmResetCommandP, (let rule : Rule := { cmd := 0x0103, len := 4 }; Accepted s r rule → ∃ t, exec (.warmResetCommand r p) s = .next t ∧ Completed s t r rule {} (fun s => { s with sys := { s.sys with warmResetRound := some (s.clk.tick / 8000 + 1 + p.delay.toNat) } }))) ∧
    (s.sys.nextMode = none → (let rule : Rule := { cmd := 0x0105, len := 0 }; Accepted s r rule → ∃ t, exec (.recommission r) s = .next t ∧ Completed s t r rule {} (fun s => { s with sys := { s.sys with nextMode := some .commissioning } }))) ∧
    (let down := fun (cause : U8) (n : Nat) (t : State) => t.sys.inReset = true ∧ t.sys.mode = .boot ∧ t.sys.resetCause = cause ∧ t.sys.bootNumber = s.sys.bootNumber ∧ t.sec.fuses = s.sec.fuses ∧ t.sec.hands = s.sec.hands ∧
        t.sec.tamper = s.sec.tamper ∧ t.sec.slots = Sec.reset.slots ∧ t.pair.claim = s.pair.claim ∧ t.upd.rec_ = s.upd.rec_ ∧ t.cfg = s.cfgNand ∧ t.cfgNand = s.cfgNand ∧ t.changes = [] ∧ t.hif = Hif.reset ∧ t.ctl = Ctl.reset ∧
        t.clk.running = false ∧ t.met.ckpts = s.met.ckpts ∧ t.rtc.time = s.rtc.time ∧ t.pow.drawing = s.pow.drawing ∧ t.pow.stackMv = s.pow.stackMv ∧ t.now = n
     (∀ n : Nat, s.pow.drawing = false ∨ n < 8 ∨ s.sys.mode = .update ∨ s.sys.mode = .standby → exec (.resetN n) s = .next s) ∧
     (s.clk.missedDeals < 2 ∨ s.sys.mode = .boot ∨ s.sys.mode = .standby ∨ s.sys.mode = .update ∨ s.sys.mode = .off → exec .roundWatchdog s = .next s) ∧
     (s.sys.restartDue = none → exec .automaticRestart s = .next s) ∧
     (∀ t0, s.sys.restartDue = some t0 → s.now < t0 → exec .automaticRestart s = .next s) ∧
     (s.sys.mode ≠ .standby ∨ s.rtc.hits.any id = false → exec .rtcAlarmMatch s = .next s) ∧
     (s.pow.stores = [] →
       (∀ n : Nat, s.pow.drawing = true → s.clk.running = false → s.sys.mode ≠ .update → s.sys.mode ≠ .standby → 8 ≤ n → ∃ t, exec (.resetN n) s = .next t ∧ down 2 s.now t) ∧
       (∀ (c : U8) (e : TickEnv), s.sys.nextReset = some c → s.pow.drawing = true → ∃ t, exec (.tickBoundary e) s = .next t ∧ down c (s.now + 1) t ∧ (c = 8 → t.sys.wakeReason = s.sys.wakeReason)) ∧
       (∀ t0, s.sys.restartDue = some t0 → t0 ≤ s.now → s.sys.mode = .failLit ∨ s.sys.mode = .quarantine → ∃ t, exec .automaticRestart s = .next t ∧ down 6 s.now t ∧ t.sys.autoRestarts.head? = some s.now)) ∧
     (∀ n : Nat, s.pow.drawing = true → s.clk.running = true → s.sys.mode ≠ .update → s.sys.mode ≠ .standby → 8 ≤ n → exec (.resetN n) s = .next { s with sys := { s.sys with nextReset := some (s.sys.nextReset.getD 2) } }) ∧
     (2 ≤ s.clk.missedDeals → s.sys.mode = .commissioning ∨ s.sys.mode = .declarer ∨ s.sys.mode = .dummy ∨ s.sys.mode = .failLit ∨ s.sys.mode = .quarantine → exec .roundWatchdog s = .next { s with sys := { s.sys with nextReset := some (s.sys.nextReset.getD 3) } }) ∧
     (s.sys.mode = .standby → s.sys.nextReset = none →
       let woken := fun (n : Nat) => { s with sys := { s.sys with wakeReason := n, wakeTell := 0, wakePort := 0, nextReset := some 8 } }
       (s.rtc.hits.any id = true → exec .rtcAlarmMatch s = .next (woken 3)) ∧
       (16000 < s.pow.mainsHighTicks → exec (.mainsReturn true) s = .next (woken 1)))) ∧
    (∀ e : BootEnv,
      (s.pow.drawing = true ∨ e.vinMv ≤ 18500 → exec (.powerOn e) s = .next s) ∧
      (s.pow.drawing = false ∨ s.sys.inReset = false → exec (.resetRelease e) s = .next s) ∧
      (∀ ok : Bool, s.sys.mode ≠ .standby ∨ s.pow.mainsHighTicks ≤ 16000 ∨ ok = false → exec (.mainsReturn ok) s = .next s) ∧
      (let up := fun (t : State) => t.sys.bootNumber = s.sys.bootNumber + 1 ∧ t.sys.straps = e.straps ∧ t.sys.bootCheckFailed = e.failed ∧ t.sys.inReset = false ∧ t.sys.booted = true ∧ t.sys.mode = .boot ∧ t.clk.running = true ∧ t.met.running = true ∧ t.clk.afeStart = s.now ∧
          t.pow.mainsOk = e.mainsOk ∧ t.pow.stackMv = e.vhuMv ∧ (e.rtcOk = true → rtcInvalid s = false → t.clk.tick % 8000 = 0 ∧ t.eth.servo.lock = 1) ∧
          (rtcInvalid s = true → t.clk.tick = s.met.alive.tick + 8000 ∧ t.clk.epoch = s.clk.epoch + 1 ∧ t.eth.servo.lock = 0)
       s.upd.rec_.state = 0 → bestCopy s ≠ none →
        (s.pow.drawing = false → 18500 < e.vinMv → ∃ t, exec (.powerOn e) s = .next t ∧ up t ∧ t.sys.resetCause = 1 ∧ t.pow.drawing = true) ∧
        (s.pow.drawing = true → s.sys.inReset = true → s.sys.mode = .boot → s.upd.writing = false → s.upd.anteWait = false → ∃ t, exec (.resetRelease e) s = .next t ∧ up t ∧ t.sys.resetCause = s.sys.resetCause ∧ t.sys.wakeReason = s.sys.wakeReason))) ∧
    (let due := s.sys.mode = .boot ∧ s.sys.booted = true ∧ s.pow.drawing = true ∧ s.clk.running = true ∧ s.clk.tick % 8000 = 0 ∧ s.clk.afeStart + 1600 ≤ s.now
     let barred := s.sys.bootCheckFailed ≠ 0 ∨ s.sec.tamper.latched ≠ 0 ∨ lifecycle s = 0 ∨ lifecycle s = 3
     let unset := lifecycle s = 1 ∨ commissioned s.cfg = false ∨ ∃ p, s.sys.storedSlot = some p ∧ p ≠ s.sys.straps
     let ends := fun (m : Mode) => ∃ t, exec .bootEnd s = .next t ∧ t.sys.mode = m
     let late := s.sys.mode = .boot ∧ s.sys.booted = true ∧ s.pow.drawing = true ∧ s.clk.running = true ∧ s.clk.tick % 8000 ≠ 0 ∧ s.clk.afeStart + 1600 + s.clk.tick % 8000 ≤ s.now ∧ paired s = true ∧ s.pair.wordsLost = false ∧ s.pair.partnerRole = 1
     (¬ due → ¬ late → exec .bootEnd s = .next s) ∧
     (late → s.pow.mainsOk = true → ¬ barred → ¬ unset → ends .dummy) ∧
     (due →
       (s.pow.mainsOk = false → ends .standby) ∧
       (s.pow.mainsOk = true → barred → ends .quarantine) ∧
       (s.pow.mainsOk = true → ¬ barred → unset → ends .commissioning) ∧
       (s.pow.mainsOk = true → ¬ barred → ¬ unset →
         (s.sys.straps = 0b11#2 → ends .declarer) ∧
         (paired s = true → s.pair.wordsLost = false →
           (s.pair.partnerRole = 1 → ends .dummy) ∧
           (s.pair.partnerRole = 0 → s.pair.claim ≤ s.pair.partnerClaim → exec .bootEnd s = .next s)))))

/-- The early warning below 18.0 V and its end above 18.5 V, the stop threshold with its closing checkpoint, the loss and
the breaks of mains, the charge and the test of the stack with C and ESR, miscompares, uncorrectable errors, lost
engines and items stopped in 8 ticks in a row, the lid and the radio ports: each row has its effect under its
condition and none without it (5 s of MAINS_OK are counted in samples, the model's reading, log 172). A fatal fault of
a module in service enters FAIL_LIT and restarts at the next tick boundary or after 10 s, unless three automatic
restarts lie within 3,600 s. exec answers a next state, the command having its own effect, under conditions on the
state and the operands alone, for powerFailWarning, warningClear, stopThreshold, mainsLoss, mainsBreak,
lockstepMiscompare, uncorrectableEcc, engineLost, itemStopped, stackChargeTimeout, stackChargeRetry,
stackChargeMeasure, stackTest, lidTemperature, rfMismatch. (R13, R16, R25, R42, R44, R54, R58, R66, R69, R73, R74,
R89) -/
def Obligations.SupplyStackAndFaults : Prop :=
  ∀ s : State,
    (let enters := fun (code : U16) (t : State) => s.rcd.buckets = [] → s.rcd.ring.length < 1024 → ∃ e, t.rcd.ring = e :: s.rcd.ring ∧ e.code = code ∧ e.seq = s.rcd.nextSeq
     let service := s.sys.mode = .commissioning ∨ s.sys.mode = .declarer ∨ s.sys.mode = .dummy
     let inUse := service ∨ s.sys.mode = .failLit ∨ s.sys.mode = .quarantine
     let alive := s.sys.inReset = false ∧ s.pow.drawing = true
     let recent := (s.sys.autoRestarts.filter fun t => decide (s.now < t + 28800000)).length
     let fails := fun (cause : U8) (t : State) => t.sys.mode = .failLit ∧ (paired s = true → t.sys.failSilent = true ∧ t.pair.hbo = false) ∧ (s.sys.nextReset = none → s.sys.restartDue = none →
       (recent < 3 → (if cause = 6 then t.sys.restartDue = some (s.now + 80000) ∧ t.sys.nextReset = none else t.sys.nextReset = some cause ∧ t.sys.autoRestarts.head? = some s.now)) ∧
       (3 ≤ recent → t.sys.restartDue = none ∧ t.sys.nextReset = none ∧ t.alarmOn 0x0109 = true))
     (∀ v : Nat, (s.pow.drawing = false ∨ s.pow.warning = true ∨ 18000 ≤ v → exec (.powerFailWarning v) s = .next s) ∧
       (s.pow.drawing = true → s.pow.warning = false → v < 18000 → exec (.powerFailWarning v) s = .next { s with pow := { s.pow with
         vinGood := false
         warning := true
         warnSince := s.now
         finalDone := false
         rideFlush := false
         minMv := s.pow.stackMv
         charging := false } }) ∧
       (s.pow.drawing = false ∨ s.pow.warning = false ∨ v ≤ 18500 → exec (.warningClear v) s = .next s) ∧
       (s.pow.drawing = true → s.pow.warning = true → 18500 < v → ∃ t, exec (.warningClear v) s = .next t ∧ t.pow = { s.pow with
         vinGood := true
         warning := false
         rideFlush := false
         charging := s.sys.mode != .standby
         chargeSince := s.now } ∧ enters 0x0106 t ∧ t = { s with pow := t.pow, rcd := t.rcd, fresh := t.fresh }) ∧
       (s.pow.drawing = false ∨ s.pow.warning = false ∨ (7000 < v ∧ antePasses { s with pow := { s.pow with stackMv := v - 1 } } 1620 = true) → exec (.stopThreshold v) s = .next s) ∧
       (s.pow.drawing = true → s.pow.warning = true → s.pow.stores = [] → s.met.ckpts.length = 2 → (v ≤ 7000 ∨ antePasses { s with pow := { s.pow with stackMv := v - 1 } } 1620 = false) →
         ∃ t, exec (.stopThreshold v) s = .next t ∧ t.sys.mode = .off ∧ t.pow.drawing = false ∧ t.pow.warning = false ∧ t.pair.claim = s.pair.claim ∧ t.cfg = s.cfgNand ∧ t.clk.running = false ∧
           (v < 6000 → (s.sec.fuseCut = none → t.sec.fuses = s.sec.fuses) ∧ (s.met.ckptAt = none → t.met.ckpts = s.met.ckpts) ∧ (∀ i n, s.met.ckptAt = some (i, n) → t.met.ckpts = s.met.ckpts ∨ (s.now ≤ n + 16 ∧ t.met.ckpts = updAt s.met.ckpts i fun c => { c with crcOk := false }))) ∧
           (6000 ≤ v → t.sec.fuses = s.sec.fuses ∧ (s.sys.mode ≠ .standby → t.rcd.seqExact = true) ∧ (s.met.running = true → ∃ c ∈ t.met.ckpts, c.closing = true ∧ c.reason = 0 ∧ c.tick = s.clk.tick ∧ c.sets = s.met.sets)))) ∧
     (s.pow.mainsLowTicks ≤ 40000 ∨ s.pow.vinGood = false ∨ ¬ inUse → exec .mainsLoss s = .next s) ∧
     (40000 < s.pow.mainsLowTicks → s.pow.vinGood = true → inUse → s.sys.nextMode = none → exec .mainsLoss s = .next { s with sys := { s.sys with nextMode := some .standby } }) ∧
     (∀ ms : Nat, (s.sys.mode = .standby → exec (.mainsBreak ms) s = .next { s with pow := { s.pow with mainsHighTicks := 0 } }) ∧
       (s.sys.mode ≠ .standby → ¬ inUse → exec (.mainsBreak ms) s = .next s) ∧
       (inUse → ms ≤ 1000 ∨ 5000 ≤ ms → exec (.mainsBreak ms) s = .next { s with pow := { s.pow with mainsLowTicks := 0 } }) ∧
       (inUse → 1000 < ms → ms < 5000 → ∃ t, exec (.mainsBreak ms) s = .next t ∧ t.pow = { s.pow with mainsLowTicks := 0 } ∧ enters 0x0103 t ∧ t = { s with pow := t.pow, rcd := t.rcd, fresh := t.fresh })) ∧
     (∀ v : Nat,
       (s.pow.charging = false ∨ s.now < s.pow.chargeSince + 80000 ∨ 1000 ≤ v → exec (.stackChargeTimeout v) s = .next s) ∧
       (s.pow.charging = true → s.pow.chargeSince + 80000 ≤ s.now → v < 1000 → ∃ t, exec (.stackChargeTimeout v) s = .next t ∧ t.pow = { s.pow with
         stackMv := v
         charging := false
         chargeFault := true
         chargeFaultAt := s.now } ∧ enters 0x0104 t ∧ t = { s with pow := t.pow, rcd := t.rcd, fresh := t.fresh }) ∧
       (s.pow.chargeFault = false ∨ s.pow.vinGood = false ∨ s.sys.mode = .standby ∨ s.now < s.pow.chargeFaultAt + 480000 → exec (.stackChargeRetry v) s = .next s) ∧
       (s.pow.chargeFault = true → s.pow.vinGood = true → s.sys.mode ≠ .standby → s.pow.chargeFaultAt + 480000 ≤ s.now → exec (.stackChargeRetry v) s = .next { s with pow := { s.pow with
         stackMv := v
         charging := true
         chargeSince := s.now
         chargeFault := false } })) ∧
     (∀ n : Nat, (s.pow.charging = false → exec (.stackChargeMeasure n) s = .next s) ∧
       (s.pow.charging = true → ∃ t, exec (.stackChargeMeasure n) s = .next t ∧ (t.pow.stackCmF = n / 80 ∨ t.pow.stackCmF = n / 80 + 1) ∧ (n % 80 = 0 → t.pow.stackCmF = n / 80) ∧ t.pow = { s.pow with
         seen12V := true
         stackCmF := t.pow.stackCmF } ∧ (t.pow.stackCmF < 470 → 470 ≤ s.pow.stackCmF → enters 0x0104 t) ∧ t = { s with pow := t.pow, rcd := t.rcd, fresh := t.fresh })) ∧
     (∀ m : StackMeas, (s.clk.tick % 691200000 ≠ 0 ∨ (s.sys.mode ≠ .declarer ∧ s.sys.mode ≠ .dummy) → exec (.stackTest m) s = .next s) ∧
       (s.clk.tick % 691200000 = 0 → s.sys.mode = .declarer ∨ s.sys.mode = .dummy → m.dropMv ≠ 0 → ∃ t, exec (.stackTest m) s = .next t ∧ t.pow.stackEsr = 2 * m.stepMv ∧
         (t.pow.stackCmF = 500000 / m.dropMv ∨ t.pow.stackCmF = 500000 / m.dropMv + 1) ∧ (500000 % m.dropMv = 0 → t.pow.stackCmF = 500000 / m.dropMv) ∧ t = { s with
           pow := { s.pow with
             stackCmF := t.pow.stackCmF
             stackEsr := t.pow.stackEsr }
           rcd := t.rcd
           fresh := t.fresh })) ∧
     (∀ e : Nat, ¬ alive ∨ (e ≠ 0 ∧ (e < 0x10 ∨ 0x13 < e)) → exec (.lockstepMiscompare e) s = .next s) ∧
     (alive → service → ∃ t, exec (.lockstepMiscompare 0) s = .next t ∧ fails 5 t) ∧
     (∀ cp : Nat, alive → cp ∈ slicePairs s → s.rcd.kitty.length = 6 →
       (paired s = true → service → ∃ t, exec (.lockstepMiscompare (16 + cp)) s = .next t ∧ fails 9 t ∧ cp ∈ (kindOf t 0).retired) ∧
       (paired s = false → ∃ t, exec (.lockstepMiscompare (16 + cp)) s = .next t ∧ t.sys.mode = s.sys.mode ∧ t.sys.nextReset = s.sys.nextReset ∧ cp ∈ (kindOf t 0).retired ∧ t.ctl.seats = s.ctl.seats ∧
         ∀ l ∈ s.cfg.loops, seatAt s l.output = some cp → ∀ x ∈ t.ctl.loops, x.idx = l.idx → x.held = true)) ∧
     (∀ e : EccErr, (¬ alive → exec (.uncorrectableEcc e) s = .next s) ∧
       (alive → service → e.code = true → ∃ t, exec (.uncorrectableEcc e) s = .next t ∧ fails 6 t) ∧
       (alive → e.code = false → e.mem = 1 → ∃ t, exec (.uncorrectableEcc e) s = .next t ∧ e.addr.toNat ∈ t.rcd.dramExcluded ∧ t = { s with rcd := t.rcd, fresh := t.fresh }) ∧
       (alive → e.code = false → e.mem = 0 ∨ e.mem = 2 ∨ e.mem = 3 → s.rcd.kitty.length = 6 → ∃ t, exec (.uncorrectableEcc e) s = .next t ∧ e.index ∈ (kindOf t (if e.mem = 0 then 3 else if e.mem = 2 then 4 else 5)).retired ∧ t.sys.mode = s.sys.mode) ∧
       (alive → e.code = false → e.mem = 4 → e.index < s.met.ckpts.length → e.index < 2 → ∃ t, exec (.uncorrectableEcc e) s = .next t ∧ (t.met.ckpts[e.index]?).map (·.crcOk) = some false ∧ t.sys = s.sys)) ∧
     (∀ g : Nat, (¬ alive ∨ (∃ k i, engineKind g = some (k, i) ∧ 0 < spareOf s k) → exec (.engineLost g) s = .next s) ∧
       (alive → service → g ∈ [0x00, 0x01, 0x02, 0x03, 0x04, 0x30, 0x31, 0x40, 0x41, 0x50, 0x60] → ∃ t, exec (.engineLost g) s = .next t ∧ fails 6 t)) ∧
     (∀ g i : Nat, (s.clk.running = false ∨ engineState s g ≠ 0 → exec (.itemStopped g i) s = .next s) ∧
       (s.clk.running = true → g ∈ [0x00, 0x01, 0x02, 0x03, 0x04, 0x30, 0x31, 0x40, 0x41, 0x50, 0x60] →
         (s.ctl.stops = [] → ∃ t, exec (.itemStopped g i) s = .next t ∧ t.ctl.stops = [{ engine := g, item := i, last := s.now, count := 1, first := s.clk.tick }] ∧ t.upd = { s.upd with bad := true } ∧ t.sys = s.sys ∧ enters 0x0108 t) ∧
         (∀ n, service → s.now ≠ n → s.ctl.stops = [{ engine := g, item := i, last := n, count := 7, first := s.clk.tick - 7 }] → ∃ t, exec (.itemStopped g i) s = .next t ∧ fails 6 t))) ∧
     (∀ d : Int, (s.pow.drawing = false ∨ (900 ≤ d ∧ d < 950) ∨ (950 ≤ d ∧ s.sys.lidHot = true) ∨ (d < 900 ∧ s.sys.lidHot = false) → exec (.lidTemperature d) s = .next s) ∧
       (s.pow.drawing = true → (950 ≤ d ∧ s.sys.lidHot = false) ∨ (d < 900 ∧ s.sys.lidHot = true) → ∃ t, exec (.lidTemperature d) s = .next t ∧ t.sys = { s.sys with lidHot := !s.sys.lidHot } ∧ enters 0x0107 t ∧ t = { s with sys := t.sys, rcd := t.rcd, fresh := t.fresh })) ∧
     (∀ p : Nat, ((s.sys.mode ≠ .commissioning ∧ s.sys.mode ≠ .declarer) ∨ (p ≠ 1 ∧ p ≠ 2) → exec (.rfMismatch p) s = .next s) ∧
       (s.sys.mode = .commissioning ∨ s.sys.mode = .declarer →
         (s.sys.rfReducedA = true → exec (.rfMismatch 1) s = .next s) ∧ (s.sys.rfReducedB = true → exec (.rfMismatch 2) s = .next s) ∧
         (s.sys.rfReducedA = false → ∃ t, exec (.rfMismatch 1) s = .next t ∧ t.sys = { s.sys with rfReducedA := true } ∧ enters 0x0504 t ∧ t = { s with sys := t.sys, rcd := t.rcd, fresh := t.fresh }) ∧
         (s.sys.rfReducedB = false → ∃ t, exec (.rfMismatch 2) s = .next t ∧ t.sys = { s.sys with rfReducedB := true } ∧ enters 0x0504 t ∧ t = { s with sys := t.sys, rcd := t.rcd, fresh := t.fresh }))))

/-- A tick boundary raises the tick number by one, samples inputs and MAINS_OK, takes the accumulation-mode changes and a
decided transition or reset, and ends the commissioning of a lone module, while one of a pair waits at least 200 ms
(the model's reading, log 167); while the tick generator is off only the clock of the model advances (its choice, log
6), and in UPDATE the inputs go on being sampled. A round boundary runs once per multiple of 8,000; with the deal
committed the changes of the ended round take force, without it they wait and the missed deal is counted; a commanded
reset falls due there; in BATTERY_STANDBY only the airtime accounts go on. A step gives a stretch tick of 25,000 to
50,000 TCLK and raises the epoch, and network time goes on. Suit periods fit 1,023 rounds. exec answers a next state,
the command having its own effect, under conditions on the state and the operands alone, for tickBoundary,
suitPeriodEnd, roundBoundary, stretchTick. (R28, R67, R82, R84, R85, R86, R92, R93, R143, R180, R231, R257) -/
def Obligations.TicksRoundsAndSteps : Prop :=
  ∀ (s : State) (e : TickEnv),
    (let runs := s.pow.drawing = true ∧ s.clk.running = true
     (¬ runs → (s.sys.nextReset = none ∧ s.sys.mode ≠ .update) ∨ (s.sys.nextReset ≠ none ∧ s.pow.drawing = false) → exec (.tickBoundary e) s = .next { s with
       now := s.now + 1
       clk := { s.clk with
         prevStart := s.clk.tclk
         tclk := s.clk.tclk + s.clk.stretchTcl
         stretchTcl := 25000 } }) ∧
     (¬ runs → s.sys.nextReset = none → s.sys.mode = .update → ∃ t, exec (.tickBoundary e) s = .next t ∧ t.now = s.now + 1 ∧ t.clk.tick = s.clk.tick ∧ t.outs.di = e.di ∧ t.outs.vled = Int.ofNat e.vledMv ∧ t.pow.mainsOk = e.mainsOk ∧ t.pow.stackMv = e.vhuMv ∧ t.sys = s.sys) ∧
     (∀ c, s.sys.nextReset = some c → s.pow.drawing = true → ∃ t, exec (.tickBoundary e) s = .next t ∧ t.sys.inReset = true ∧ t.sys.resetCause = c ∧ t.sys.mode = .boot ∧ t.sys.nextReset = none ∧ t.now = s.now + 1 ∧ t.hif = Hif.reset ∧ t.clk.running = false ∧ t.sec.slots = Sec.reset.slots) ∧
     (runs → s.sys.nextReset = none → s.sys.arbDue = false → ∃ t, exec (.tickBoundary e) s = .next t ∧ t.now = s.now + 1 ∧ t.clk.tick = s.clk.tick + 1 ∧ t.clk.epoch = s.clk.epoch ∧ t.clk.tclk = s.clk.tclk + s.clk.stretchTcl ∧ t.clk.prevStart = s.clk.tclk ∧ t.clk.poll = 0 ∧ t.clk.stretchTcl = 25000 ∧
       t.clk.ticksInRound = s.clk.ticksInRound + 1 ∧ t.pow.mainsOk = e.mainsOk ∧ t.pow.stackMv = e.vhuMv ∧ t.pow.mainsLowTicks = (if e.mainsOk = true then 0 else s.pow.mainsLowTicks + 1) ∧
       t.pow.mainsHighTicks = (if e.mainsOk = true then s.pow.mainsHighTicks + 1 else 0) ∧ (∀ c ∈ t.changes, isMode0206 c = false) ∧
       (s.sec.debugTok = none → (s.sys.nextMode = none → t.sys.mode = s.sys.mode) ∧ (∀ m, s.sys.nextMode = some m → t.sys.mode = m ∧ (m = .update → t.clk.running = false)) ∧ (t.sys.mode ≠ .standby → t.outs.di = e.di ∧ t.outs.vled = Int.ofNat e.vledMv))) ∧
     (runs → s.sys.nextReset = none → s.sys.nextMode = none → s.sec.debugTok = none → s.sys.arbDue = true → s.sys.mode = .commissioning → paired s = false → ∃ t, exec (.tickBoundary e) s = .next t ∧ t.sys.mode = .declarer ∧ t.clk.tick = s.clk.tick + 1 ∧ t.sys.arbDue = false ∧ t.cfg.comm.isSome = true) ∧
     (runs → s.sys.nextReset = none → s.sys.nextMode = none → s.sec.debugTok = none → s.sys.arbDue = true → s.sys.mode = .commissioning → paired s = true → s.now + 1 < s.sys.arbSince + 1600 → ∃ t, exec (.tickBoundary e) s = .next t ∧ t.sys.mode = .commissioning ∧ t.sys.arbDue = true) ∧
     (¬ runs ∨ s.clk.tick % 8000 ≠ 0 ∨ s.clk.ticksInRound = 0 → exec (.roundBoundary e) s = .next s) ∧
     (runs → s.clk.tick % 8000 = 0 → s.clk.ticksInRound ≠ 0 → s.sys.mode = .standby → ∃ t, exec (.roundBoundary e) s = .next t ∧ t = { s with
       clk := { s.clk with ticksInRound := 0 }
       mesh := { s.mesh with
         duty := t.mesh.duty
         dutyAt := s.clk.tick / 8000 }
       rcd := t.rcd
       fresh := t.fresh } ∧ ∀ port sub, (∃ a ∈ s.mesh.duty, a.port = port ∧ a.sub = sub) → (dutyAcc t port sub).sums = (0 :: (dutyAcc s port sub).sums).take 3600) ∧
     (runs → s.clk.tick % 8000 = 0 → s.clk.ticksInRound ≠ 0 → s.sys.mode ≠ .standby →
       (s.sys.warmResetRound.all (fun r => decide (s.clk.tick / 8000 < r)) = true → ∃ t, exec (.roundBoundary e) s = .next t ∧ t.now = s.now ∧ t.clk.tick = s.clk.tick ∧ t.clk.epoch = s.clk.epoch ∧ t.clk.ticksInRound = 0 ∧ t.clk.dealConfirmed = e.dealOk ∧
         t.clk.missedDeals = (if e.dealOk = true then 0 else s.clk.missedDeals + 1) ∧ (e.dealOk = false → t.changes = s.changes ∧ t.cfg.loops = s.cfg.loops) ∧
         (e.dealOk = true → ∀ c ∈ t.changes, c ∈ s.changes ∧ (s.clk.tick / 8000 - 1 < c.round ∨ isMode0206 c = true))) ∧
       (∀ r, s.sys.warmResetRound = some r → r ≤ s.clk.tick / 8000 → ∃ t, exec (.roundBoundary e) s = .next t ∧ t.sys.inReset = true ∧ t.sys.resetCause = 4 ∧ t.sys.mode = .boot ∧ t.sys.warmResetRound = none ∧ t.hif = Hif.reset)) ∧
     (¬ runs ∨ s.clk.stepDue = false ∨ s.clk.stepPending = 0 → exec (.stretchTick e) s = .next s) ∧
     (runs → s.clk.stepDue = true → s.clk.stepPending ≠ 0 → s.clk.stretchTcl = 25000 → 0 ≤ 125000 * Int.ofNat s.clk.tick + s.clk.stepPending → ∃ t, exec (.stretchTick e) s = .next t ∧ t.clk.epoch = s.clk.epoch + 1 ∧ t.clk.stretch = true ∧
       25000 ≤ t.clk.stretchTcl ∧ t.clk.stretchTcl ≤ 50000 ∧ netNs s - 2 ≤ netNs t ∧ netNs t ≤ netNs s + 2 ∧ 125000 * Int.ofNat s.clk.tick + s.clk.stepPending ≤ 125000 * Int.ofNat t.clk.tick ∧ 125000 * Int.ofNat t.clk.tick < 125000 * Int.ofNat s.clk.tick + s.clk.stepPending + 125000 ∧
       t.clk.stepPending = s.clk.stepLate ∧ t.clk.stepLate = 0 ∧ t.clk.stepDue = false ∧ t.sys.mode = s.sys.mode ∧ t.cfg = s.cfg ∧ t.outs = s.outs ∧ t.ctl = s.ctl)) ∧
    (s.clk.tick < 8184000 → exec .suitPeriodEnd s = .next s) ∧
    (8184000 ≤ s.clk.tick → ∃ t, exec .suitPeriodEnd s = .next t ∧ t = { s with met := t.met, rcd := t.rcd, fresh := t.fresh } ∧ t.met.suitFeeders.length = s.met.suitFeeders.length ∧ t.met.lanterns = s.met.lanterns ∧
      ∀ f ∈ t.met.suitFeeders, ∀ x ∈ f.rounds, s.clk.tick / 8000 - s.clk.tick / 8000 % 1023 ≤ x.round)
end

