-- ==== Sys2Proof/Laws/State.lean ====
section
/-!
SUPPORT. What one named update of the state leaves alone: one lemma per update, a clause per field.
-/

namespace Sys2Proof.Machine

open Sys2Proof

@[simp] theorem State.mapPending_fields (s : State) (f : List Instr → List Instr) :
    (s.mapPending f).pending = f s.pending ∧
    (s.mapPending f).fresh = s.fresh ∧
    (s.mapPending f).now = s.now ∧
    (s.mapPending f).out = s.out ∧
    (s.mapPending f).sys = s.sys ∧
    (s.mapPending f).pow = s.pow ∧
    (s.mapPending f).clk = s.clk ∧
    (s.mapPending f).hif = s.hif ∧
    (s.mapPending f).met = s.met ∧
    (s.mapPending f).ctl = s.ctl ∧
    (s.mapPending f).outs = s.outs ∧
    (s.mapPending f).mesh = s.mesh ∧
    (s.mapPending f).eth = s.eth ∧
    (s.mapPending f).rtc = s.rtc ∧
    (s.mapPending f).sch = s.sch ∧
    (s.mapPending f).pair = s.pair ∧
    (s.mapPending f).rcd = s.rcd ∧
    (s.mapPending f).sec = s.sec ∧
    (s.mapPending f).upd = s.upd ∧
    (s.mapPending f).cfg = s.cfg ∧
    (s.mapPending f).cfgNand = s.cfgNand ∧
    (s.mapPending f).changes = s.changes := by
  simp [State.mapPending]

@[simp] theorem State.mapFresh_fields (s : State) (f : Nat → Nat) :
    (s.mapFresh f).pending = s.pending ∧
    (s.mapFresh f).fresh = f s.fresh ∧
    (s.mapFresh f).now = s.now ∧
    (s.mapFresh f).out = s.out ∧
    (s.mapFresh f).sys = s.sys ∧
    (s.mapFresh f).pow = s.pow ∧
    (s.mapFresh f).clk = s.clk ∧
    (s.mapFresh f).hif = s.hif ∧
    (s.mapFresh f).met = s.met ∧
    (s.mapFresh f).ctl = s.ctl ∧
    (s.mapFresh f).outs = s.outs ∧
    (s.mapFresh f).mesh = s.mesh ∧
    (s.mapFresh f).eth = s.eth ∧
    (s.mapFresh f).rtc = s.rtc ∧
    (s.mapFresh f).sch = s.sch ∧
    (s.mapFresh f).pair = s.pair ∧
    (s.mapFresh f).rcd = s.rcd ∧
    (s.mapFresh f).sec = s.sec ∧
    (s.mapFresh f).upd = s.upd ∧
    (s.mapFresh f).cfg = s.cfg ∧
    (s.mapFresh f).cfgNand = s.cfgNand ∧
    (s.mapFresh f).changes = s.changes := by
  simp [State.mapFresh]

@[simp] theorem State.mapNow_fields (s : State) (f : Nat → Nat) :
    (s.mapNow f).pending = s.pending ∧
    (s.mapNow f).fresh = s.fresh ∧
    (s.mapNow f).now = f s.now ∧
    (s.mapNow f).out = s.out ∧
    (s.mapNow f).sys = s.sys ∧
    (s.mapNow f).pow = s.pow ∧
    (s.mapNow f).clk = s.clk ∧
    (s.mapNow f).hif = s.hif ∧
    (s.mapNow f).met = s.met ∧
    (s.mapNow f).ctl = s.ctl ∧
    (s.mapNow f).outs = s.outs ∧
    (s.mapNow f).mesh = s.mesh ∧
    (s.mapNow f).eth = s.eth ∧
    (s.mapNow f).rtc = s.rtc ∧
    (s.mapNow f).sch = s.sch ∧
    (s.mapNow f).pair = s.pair ∧
    (s.mapNow f).rcd = s.rcd ∧
    (s.mapNow f).sec = s.sec ∧
    (s.mapNow f).upd = s.upd ∧
    (s.mapNow f).cfg = s.cfg ∧
    (s.mapNow f).cfgNand = s.cfgNand ∧
    (s.mapNow f).changes = s.changes := by
  simp [State.mapNow]

@[simp] theorem State.mapOut_fields (s : State) (f : List Out → List Out) :
    (s.mapOut f).pending = s.pending ∧
    (s.mapOut f).fresh = s.fresh ∧
    (s.mapOut f).now = s.now ∧
    (s.mapOut f).out = f s.out ∧
    (s.mapOut f).sys = s.sys ∧
    (s.mapOut f).pow = s.pow ∧
    (s.mapOut f).clk = s.clk ∧
    (s.mapOut f).hif = s.hif ∧
    (s.mapOut f).met = s.met ∧
    (s.mapOut f).ctl = s.ctl ∧
    (s.mapOut f).outs = s.outs ∧
    (s.mapOut f).mesh = s.mesh ∧
    (s.mapOut f).eth = s.eth ∧
    (s.mapOut f).rtc = s.rtc ∧
    (s.mapOut f).sch = s.sch ∧
    (s.mapOut f).pair = s.pair ∧
    (s.mapOut f).rcd = s.rcd ∧
    (s.mapOut f).sec = s.sec ∧
    (s.mapOut f).upd = s.upd ∧
    (s.mapOut f).cfg = s.cfg ∧
    (s.mapOut f).cfgNand = s.cfgNand ∧
    (s.mapOut f).changes = s.changes := by
  simp [State.mapOut]

@[simp] theorem State.mapSys_fields (s : State) (f : Sys → Sys) :
    (s.mapSys f).pending = s.pending ∧
    (s.mapSys f).fresh = s.fresh ∧
    (s.mapSys f).now = s.now ∧
    (s.mapSys f).out = s.out ∧
    (s.mapSys f).sys = f s.sys ∧
    (s.mapSys f).pow = s.pow ∧
    (s.mapSys f).clk = s.clk ∧
    (s.mapSys f).hif = s.hif ∧
    (s.mapSys f).met = s.met ∧
    (s.mapSys f).ctl = s.ctl ∧
    (s.mapSys f).outs = s.outs ∧
    (s.mapSys f).mesh = s.mesh ∧
    (s.mapSys f).eth = s.eth ∧
    (s.mapSys f).rtc = s.rtc ∧
    (s.mapSys f).sch = s.sch ∧
    (s.mapSys f).pair = s.pair ∧
    (s.mapSys f).rcd = s.rcd ∧
    (s.mapSys f).sec = s.sec ∧
    (s.mapSys f).upd = s.upd ∧
    (s.mapSys f).cfg = s.cfg ∧
    (s.mapSys f).cfgNand = s.cfgNand ∧
    (s.mapSys f).changes = s.changes := by
  simp [State.mapSys]

@[simp] theorem State.mapPow_fields (s : State) (f : Power → Power) :
    (s.mapPow f).pending = s.pending ∧
    (s.mapPow f).fresh = s.fresh ∧
    (s.mapPow f).now = s.now ∧
    (s.mapPow f).out = s.out ∧
    (s.mapPow f).sys = s.sys ∧
    (s.mapPow f).pow = f s.pow ∧
    (s.mapPow f).clk = s.clk ∧
    (s.mapPow f).hif = s.hif ∧
    (s.mapPow f).met = s.met ∧
    (s.mapPow f).ctl = s.ctl ∧
    (s.mapPow f).outs = s.outs ∧
    (s.mapPow f).mesh = s.mesh ∧
    (s.mapPow f).eth = s.eth ∧
    (s.mapPow f).rtc = s.rtc ∧
    (s.mapPow f).sch = s.sch ∧
    (s.mapPow f).pair = s.pair ∧
    (s.mapPow f).rcd = s.rcd ∧
    (s.mapPow f).sec = s.sec ∧
    (s.mapPow f).upd = s.upd ∧
    (s.mapPow f).cfg = s.cfg ∧
    (s.mapPow f).cfgNand = s.cfgNand ∧
    (s.mapPow f).changes = s.changes := by
  simp [State.mapPow]

@[simp] theorem State.mapClk_fields (s : State) (f : Clock → Clock) :
    (s.mapClk f).pending = s.pending ∧
    (s.mapClk f).fresh = s.fresh ∧
    (s.mapClk f).now = s.now ∧
    (s.mapClk f).out = s.out ∧
    (s.mapClk f).sys = s.sys ∧
    (s.mapClk f).pow = s.pow ∧
    (s.mapClk f).clk = f s.clk ∧
    (s.mapClk f).hif = s.hif ∧
    (s.mapClk f).met = s.met ∧
    (s.mapClk f).ctl = s.ctl ∧
    (s.mapClk f).outs = s.outs ∧
    (s.mapClk f).mesh = s.mesh ∧
    (s.mapClk f).eth = s.eth ∧
    (s.mapClk f).rtc = s.rtc ∧
    (s.mapClk f).sch = s.sch ∧
    (s.mapClk f).pair = s.pair ∧
    (s.mapClk f).rcd = s.rcd ∧
    (s.mapClk f).sec = s.sec ∧
    (s.mapClk f).upd = s.upd ∧
    (s.mapClk f).cfg = s.cfg ∧
    (s.mapClk f).cfgNand = s.cfgNand ∧
    (s.mapClk f).changes = s.changes := by
  simp [State.mapClk]

@[simp] theorem State.mapHif_fields (s : State) (f : Hif → Hif) :
    (s.mapHif f).pending = s.pending ∧
    (s.mapHif f).fresh = s.fresh ∧
    (s.mapHif f).now = s.now ∧
    (s.mapHif f).out = s.out ∧
    (s.mapHif f).sys = s.sys ∧
    (s.mapHif f).pow = s.pow ∧
    (s.mapHif f).clk = s.clk ∧
    (s.mapHif f).hif = f s.hif ∧
    (s.mapHif f).met = s.met ∧
    (s.mapHif f).ctl = s.ctl ∧
    (s.mapHif f).outs = s.outs ∧
    (s.mapHif f).mesh = s.mesh ∧
    (s.mapHif f).eth = s.eth ∧
    (s.mapHif f).rtc = s.rtc ∧
    (s.mapHif f).sch = s.sch ∧
    (s.mapHif f).pair = s.pair ∧
    (s.mapHif f).rcd = s.rcd ∧
    (s.mapHif f).sec = s.sec ∧
    (s.mapHif f).upd = s.upd ∧
    (s.mapHif f).cfg = s.cfg ∧
    (s.mapHif f).cfgNand = s.cfgNand ∧
    (s.mapHif f).changes = s.changes := by
  simp [State.mapHif]

@[simp] theorem State.mapMet_fields (s : State) (f : Meter → Meter) :
    (s.mapMet f).pending = s.pending ∧
    (s.mapMet f).fresh = s.fresh ∧
    (s.mapMet f).now = s.now ∧
    (s.mapMet f).out = s.out ∧
    (s.mapMet f).sys = s.sys ∧
    (s.mapMet f).pow = s.pow ∧
    (s.mapMet f).clk = s.clk ∧
    (s.mapMet f).hif = s.hif ∧
    (s.mapMet f).met = f s.met ∧
    (s.mapMet f).ctl = s.ctl ∧
    (s.mapMet f).outs = s.outs ∧
    (s.mapMet f).mesh = s.mesh ∧
    (s.mapMet f).eth = s.eth ∧
    (s.mapMet f).rtc = s.rtc ∧
    (s.mapMet f).sch = s.sch ∧
    (s.mapMet f).pair = s.pair ∧
    (s.mapMet f).rcd = s.rcd ∧
    (s.mapMet f).sec = s.sec ∧
    (s.mapMet f).upd = s.upd ∧
    (s.mapMet f).cfg = s.cfg ∧
    (s.mapMet f).cfgNand = s.cfgNand ∧
    (s.mapMet f).changes = s.changes := by
  simp [State.mapMet]

@[simp] theorem State.mapCtl_fields (s : State) (f : Ctl → Ctl) :
    (s.mapCtl f).pending = s.pending ∧
    (s.mapCtl f).fresh = s.fresh ∧
    (s.mapCtl f).now = s.now ∧
    (s.mapCtl f).out = s.out ∧
    (s.mapCtl f).sys = s.sys ∧
    (s.mapCtl f).pow = s.pow ∧
    (s.mapCtl f).clk = s.clk ∧
    (s.mapCtl f).hif = s.hif ∧
    (s.mapCtl f).met = s.met ∧
    (s.mapCtl f).ctl = f s.ctl ∧
    (s.mapCtl f).outs = s.outs ∧
    (s.mapCtl f).mesh = s.mesh ∧
    (s.mapCtl f).eth = s.eth ∧
    (s.mapCtl f).rtc = s.rtc ∧
    (s.mapCtl f).sch = s.sch ∧
    (s.mapCtl f).pair = s.pair ∧
    (s.mapCtl f).rcd = s.rcd ∧
    (s.mapCtl f).sec = s.sec ∧
    (s.mapCtl f).upd = s.upd ∧
    (s.mapCtl f).cfg = s.cfg ∧
    (s.mapCtl f).cfgNand = s.cfgNand ∧
    (s.mapCtl f).changes = s.changes := by
  simp [State.mapCtl]

@[simp] theorem State.mapOuts_fields (s : State) (f : Outs → Outs) :
    (s.mapOuts f).pending = s.pending ∧
    (s.mapOuts f).fresh = s.fresh ∧
    (s.mapOuts f).now = s.now ∧
    (s.mapOuts f).out = s.out ∧
    (s.mapOuts f).sys = s.sys ∧
    (s.mapOuts f).pow = s.pow ∧
    (s.mapOuts f).clk = s.clk ∧
    (s.mapOuts f).hif = s.hif ∧
    (s.mapOuts f).met = s.met ∧
    (s.mapOuts f).ctl = s.ctl ∧
    (s.mapOuts f).outs = f s.outs ∧
    (s.mapOuts f).mesh = s.mesh ∧
    (s.mapOuts f).eth = s.eth ∧
    (s.mapOuts f).rtc = s.rtc ∧
    (s.mapOuts f).sch = s.sch ∧
    (s.mapOuts f).pair = s.pair ∧
    (s.mapOuts f).rcd = s.rcd ∧
    (s.mapOuts f).sec = s.sec ∧
    (s.mapOuts f).upd = s.upd ∧
    (s.mapOuts f).cfg = s.cfg ∧
    (s.mapOuts f).cfgNand = s.cfgNand ∧
    (s.mapOuts f).changes = s.changes := by
  simp [State.mapOuts]

@[simp] theorem State.mapMesh_fields (s : State) (f : Mesh → Mesh) :
    (s.mapMesh f).pending = s.pending ∧
    (s.mapMesh f).fresh = s.fresh ∧
    (s.mapMesh f).now = s.now ∧
    (s.mapMesh f).out = s.out ∧
    (s.mapMesh f).sys = s.sys ∧
    (s.mapMesh f).pow = s.pow ∧
    (s.mapMesh f).clk = s.clk ∧
    (s.mapMesh f).hif = s.hif ∧
    (s.mapMesh f).met = s.met ∧
    (s.mapMesh f).ctl = s.ctl ∧
    (s.mapMesh f).outs = s.outs ∧
    (s.mapMesh f).mesh = f s.mesh ∧
    (s.mapMesh f).eth = s.eth ∧
    (s.mapMesh f).rtc = s.rtc ∧
    (s.mapMesh f).sch = s.sch ∧
    (s.mapMesh f).pair = s.pair ∧
    (s.mapMesh f).rcd = s.rcd ∧
    (s.mapMesh f).sec = s.sec ∧
    (s.mapMesh f).upd = s.upd ∧
    (s.mapMesh f).cfg = s.cfg ∧
    (s.mapMesh f).cfgNand = s.cfgNand ∧
    (s.mapMesh f).changes = s.changes := by
  simp [State.mapMesh]

@[simp] theorem State.mapEth_fields (s : State) (f : Eth → Eth) :
    (s.mapEth f).pending = s.pending ∧
    (s.mapEth f).fresh = s.fresh ∧
    (s.mapEth f).now = s.now ∧
    (s.mapEth f).out = s.out ∧
    (s.mapEth f).sys = s.sys ∧
    (s.mapEth f).pow = s.pow ∧
    (s.mapEth f).clk = s.clk ∧
    (s.mapEth f).hif = s.hif ∧
    (s.mapEth f).met = s.met ∧
    (s.mapEth f).ctl = s.ctl ∧
    (s.mapEth f).outs = s.outs ∧
    (s.mapEth f).mesh = s.mesh ∧
    (s.mapEth f).eth = f s.eth ∧
    (s.mapEth f).rtc = s.rtc ∧
    (s.mapEth f).sch = s.sch ∧
    (s.mapEth f).pair = s.pair ∧
    (s.mapEth f).rcd = s.rcd ∧
    (s.mapEth f).sec = s.sec ∧
    (s.mapEth f).upd = s.upd ∧
    (s.mapEth f).cfg = s.cfg ∧
    (s.mapEth f).cfgNand = s.cfgNand ∧
    (s.mapEth f).changes = s.changes := by
  simp [State.mapEth]

@[simp] theorem State.mapRtc_fields (s : State) (f : Rtc → Rtc) :
    (s.mapRtc f).pending = s.pending ∧
    (s.mapRtc f).fresh = s.fresh ∧
    (s.mapRtc f).now = s.now ∧
    (s.mapRtc f).out = s.out ∧
    (s.mapRtc f).sys = s.sys ∧
    (s.mapRtc f).pow = s.pow ∧
    (s.mapRtc f).clk = s.clk ∧
    (s.mapRtc f).hif = s.hif ∧
    (s.mapRtc f).met = s.met ∧
    (s.mapRtc f).ctl = s.ctl ∧
    (s.mapRtc f).outs = s.outs ∧
    (s.mapRtc f).mesh = s.mesh ∧
    (s.mapRtc f).eth = s.eth ∧
    (s.mapRtc f).rtc = f s.rtc ∧
    (s.mapRtc f).sch = s.sch ∧
    (s.mapRtc f).pair = s.pair ∧
    (s.mapRtc f).rcd = s.rcd ∧
    (s.mapRtc f).sec = s.sec ∧
    (s.mapRtc f).upd = s.upd ∧
    (s.mapRtc f).cfg = s.cfg ∧
    (s.mapRtc f).cfgNand = s.cfgNand ∧
    (s.mapRtc f).changes = s.changes := by
  simp [State.mapRtc]

@[simp] theorem State.mapSch_fields (s : State) (f : Sch → Sch) :
    (s.mapSch f).pending = s.pending ∧
    (s.mapSch f).fresh = s.fresh ∧
    (s.mapSch f).now = s.now ∧
    (s.mapSch f).out = s.out ∧
    (s.mapSch f).sys = s.sys ∧
    (s.mapSch f).pow = s.pow ∧
    (s.mapSch f).clk = s.clk ∧
    (s.mapSch f).hif = s.hif ∧
    (s.mapSch f).met = s.met ∧
    (s.mapSch f).ctl = s.ctl ∧
    (s.mapSch f).outs = s.outs ∧
    (s.mapSch f).mesh = s.mesh ∧
    (s.mapSch f).eth = s.eth ∧
    (s.mapSch f).rtc = s.rtc ∧
    (s.mapSch f).sch = f s.sch ∧
    (s.mapSch f).pair = s.pair ∧
    (s.mapSch f).rcd = s.rcd ∧
    (s.mapSch f).sec = s.sec ∧
    (s.mapSch f).upd = s.upd ∧
    (s.mapSch f).cfg = s.cfg ∧
    (s.mapSch f).cfgNand = s.cfgNand ∧
    (s.mapSch f).changes = s.changes := by
  simp [State.mapSch]

@[simp] theorem State.mapPair_fields (s : State) (f : Pair → Pair) :
    (s.mapPair f).pending = s.pending ∧
    (s.mapPair f).fresh = s.fresh ∧
    (s.mapPair f).now = s.now ∧
    (s.mapPair f).out = s.out ∧
    (s.mapPair f).sys = s.sys ∧
    (s.mapPair f).pow = s.pow ∧
    (s.mapPair f).clk = s.clk ∧
    (s.mapPair f).hif = s.hif ∧
    (s.mapPair f).met = s.met ∧
    (s.mapPair f).ctl = s.ctl ∧
    (s.mapPair f).outs = s.outs ∧
    (s.mapPair f).mesh = s.mesh ∧
    (s.mapPair f).eth = s.eth ∧
    (s.mapPair f).rtc = s.rtc ∧
    (s.mapPair f).sch = s.sch ∧
    (s.mapPair f).pair = f s.pair ∧
    (s.mapPair f).rcd = s.rcd ∧
    (s.mapPair f).sec = s.sec ∧
    (s.mapPair f).upd = s.upd ∧
    (s.mapPair f).cfg = s.cfg ∧
    (s.mapPair f).cfgNand = s.cfgNand ∧
    (s.mapPair f).changes = s.changes := by
  simp [State.mapPair]

@[simp] theorem State.mapRcd_fields (s : State) (f : Rec → Rec) :
    (s.mapRcd f).pending = s.pending ∧
    (s.mapRcd f).fresh = s.fresh ∧
    (s.mapRcd f).now = s.now ∧
    (s.mapRcd f).out = s.out ∧
    (s.mapRcd f).sys = s.sys ∧
    (s.mapRcd f).pow = s.pow ∧
    (s.mapRcd f).clk = s.clk ∧
    (s.mapRcd f).hif = s.hif ∧
    (s.mapRcd f).met = s.met ∧
    (s.mapRcd f).ctl = s.ctl ∧
    (s.mapRcd f).outs = s.outs ∧
    (s.mapRcd f).mesh = s.mesh ∧
    (s.mapRcd f).eth = s.eth ∧
    (s.mapRcd f).rtc = s.rtc ∧
    (s.mapRcd f).sch = s.sch ∧
    (s.mapRcd f).pair = s.pair ∧
    (s.mapRcd f).rcd = f s.rcd ∧
    (s.mapRcd f).sec = s.sec ∧
    (s.mapRcd f).upd = s.upd ∧
    (s.mapRcd f).cfg = s.cfg ∧
    (s.mapRcd f).cfgNand = s.cfgNand ∧
    (s.mapRcd f).changes = s.changes := by
  simp [State.mapRcd]

@[simp] theorem State.mapSec_fields (s : State) (f : Sec → Sec) :
    (s.mapSec f).pending = s.pending ∧
    (s.mapSec f).fresh = s.fresh ∧
    (s.mapSec f).now = s.now ∧
    (s.mapSec f).out = s.out ∧
    (s.mapSec f).sys = s.sys ∧
    (s.mapSec f).pow = s.pow ∧
    (s.mapSec f).clk = s.clk ∧
    (s.mapSec f).hif = s.hif ∧
    (s.mapSec f).met = s.met ∧
    (s.mapSec f).ctl = s.ctl ∧
    (s.mapSec f).outs = s.outs ∧
    (s.mapSec f).mesh = s.mesh ∧
    (s.mapSec f).eth = s.eth ∧
    (s.mapSec f).rtc = s.rtc ∧
    (s.mapSec f).sch = s.sch ∧
    (s.mapSec f).pair = s.pair ∧
    (s.mapSec f).rcd = s.rcd ∧
    (s.mapSec f).sec = f s.sec ∧
    (s.mapSec f).upd = s.upd ∧
    (s.mapSec f).cfg = s.cfg ∧
    (s.mapSec f).cfgNand = s.cfgNand ∧
    (s.mapSec f).changes = s.changes := by
  simp [State.mapSec]

@[simp] theorem State.mapUpd_fields (s : State) (f : Upd → Upd) :
    (s.mapUpd f).pending = s.pending ∧
    (s.mapUpd f).fresh = s.fresh ∧
    (s.mapUpd f).now = s.now ∧
    (s.mapUpd f).out = s.out ∧
    (s.mapUpd f).sys = s.sys ∧
    (s.mapUpd f).pow = s.pow ∧
    (s.mapUpd f).clk = s.clk ∧
    (s.mapUpd f).hif = s.hif ∧
    (s.mapUpd f).met = s.met ∧
    (s.mapUpd f).ctl = s.ctl ∧
    (s.mapUpd f).outs = s.outs ∧
    (s.mapUpd f).mesh = s.mesh ∧
    (s.mapUpd f).eth = s.eth ∧
    (s.mapUpd f).rtc = s.rtc ∧
    (s.mapUpd f).sch = s.sch ∧
    (s.mapUpd f).pair = s.pair ∧
    (s.mapUpd f).rcd = s.rcd ∧
    (s.mapUpd f).sec = s.sec ∧
    (s.mapUpd f).upd = f s.upd ∧
    (s.mapUpd f).cfg = s.cfg ∧
    (s.mapUpd f).cfgNand = s.cfgNand ∧
    (s.mapUpd f).changes = s.changes := by
  simp [State.mapUpd]

@[simp] theorem State.mapCfg_fields (s : State) (f : Cfg → Cfg) :
    (s.mapCfg f).pending = s.pending ∧
    (s.mapCfg f).fresh = s.fresh ∧
    (s.mapCfg f).now = s.now ∧
    (s.mapCfg f).out = s.out ∧
    (s.mapCfg f).sys = s.sys ∧
    (s.mapCfg f).pow = s.pow ∧
    (s.mapCfg f).clk = s.clk ∧
    (s.mapCfg f).hif = s.hif ∧
    (s.mapCfg f).met = s.met ∧
    (s.mapCfg f).ctl = s.ctl ∧
    (s.mapCfg f).outs = s.outs ∧
    (s.mapCfg f).mesh = s.mesh ∧
    (s.mapCfg f).eth = s.eth ∧
    (s.mapCfg f).rtc = s.rtc ∧
    (s.mapCfg f).sch = s.sch ∧
    (s.mapCfg f).pair = s.pair ∧
    (s.mapCfg f).rcd = s.rcd ∧
    (s.mapCfg f).sec = s.sec ∧
    (s.mapCfg f).upd = s.upd ∧
    (s.mapCfg f).cfg = f s.cfg ∧
    (s.mapCfg f).cfgNand = s.cfgNand ∧
    (s.mapCfg f).changes = s.changes := by
  simp [State.mapCfg]

@[simp] theorem State.mapCfgNand_fields (s : State) (f : Cfg → Cfg) :
    (s.mapCfgNand f).pending = s.pending ∧
    (s.mapCfgNand f).fresh = s.fresh ∧
    (s.mapCfgNand f).now = s.now ∧
    (s.mapCfgNand f).out = s.out ∧
    (s.mapCfgNand f).sys = s.sys ∧
    (s.mapCfgNand f).pow = s.pow ∧
    (s.mapCfgNand f).clk = s.clk ∧
    (s.mapCfgNand f).hif = s.hif ∧
    (s.mapCfgNand f).met = s.met ∧
    (s.mapCfgNand f).ctl = s.ctl ∧
    (s.mapCfgNand f).outs = s.outs ∧
    (s.mapCfgNand f).mesh = s.mesh ∧
    (s.mapCfgNand f).eth = s.eth ∧
    (s.mapCfgNand f).rtc = s.rtc ∧
    (s.mapCfgNand f).sch = s.sch ∧
    (s.mapCfgNand f).pair = s.pair ∧
    (s.mapCfgNand f).rcd = s.rcd ∧
    (s.mapCfgNand f).sec = s.sec ∧
    (s.mapCfgNand f).upd = s.upd ∧
    (s.mapCfgNand f).cfg = s.cfg ∧
    (s.mapCfgNand f).cfgNand = f s.cfgNand ∧
    (s.mapCfgNand f).changes = s.changes := by
  simp [State.mapCfgNand]

@[simp] theorem State.mapChanges_fields (s : State) (f : List Change → List Change) :
    (s.mapChanges f).pending = s.pending ∧
    (s.mapChanges f).fresh = s.fresh ∧
    (s.mapChanges f).now = s.now ∧
    (s.mapChanges f).out = s.out ∧
    (s.mapChanges f).sys = s.sys ∧
    (s.mapChanges f).pow = s.pow ∧
    (s.mapChanges f).clk = s.clk ∧
    (s.mapChanges f).hif = s.hif ∧
    (s.mapChanges f).met = s.met ∧
    (s.mapChanges f).ctl = s.ctl ∧
    (s.mapChanges f).outs = s.outs ∧
    (s.mapChanges f).mesh = s.mesh ∧
    (s.mapChanges f).eth = s.eth ∧
    (s.mapChanges f).rtc = s.rtc ∧
    (s.mapChanges f).sch = s.sch ∧
    (s.mapChanges f).pair = s.pair ∧
    (s.mapChanges f).rcd = s.rcd ∧
    (s.mapChanges f).sec = s.sec ∧
    (s.mapChanges f).upd = s.upd ∧
    (s.mapChanges f).cfg = s.cfg ∧
    (s.mapChanges f).cfgNand = s.cfgNand ∧
    (s.mapChanges f).changes = f s.changes := by
  simp [State.mapChanges]

end Sys2Proof.Machine
end

