-- ==== Sys2Proof/Laws/Mailbox.lean ====
section
/-!
SUPPORT. What the shared operations of the mailbox do, said once: a channel updated, a message placed, a request served.
-/

namespace Sys2Proof.Machine

open Sys2Proof

/-! Channels -/

theorem chan_onChan_ne (s : State) (f : Chan → Chan) {m n : Nat} (h : m ≠ n) : chan (s.onChan n f) m = chan s m := by
  simp only [chan, State.onChan, State.mapHif, updAt, List.getD_eq_getElem?_getD, List.getElem?_modify]
  simp [Ne.symm h]

theorem chan_onChan (s : State) (f : Chan → Chan) {n : Nat} (h : n < s.hif.chans.length) :
    chan (s.onChan n f) n = f (chan s n) := by
  simp [chan, State.onChan, State.mapHif, updAt, List.getD_eq_getElem?_getD, h]

theorem lt_of_owner (s : State) {n : Nat} (h : (chan s n).owner ≠ 0) : n < s.hif.chans.length := by
  by_cases c : n < s.hif.chans.length
  · exact c
  · exact absurd (by simp [chan, List.getD_eq_getElem?_getD, List.getElem?_eq_none (Nat.le_of_not_lt c), Chan.reset]) h

/-! One operation of the mailbox: only the mailbox and the record of what was sent may differ -/

/-- The parts of a state beside the mailbox and the record of what was sent. -/
structure SameBut (s t : State) : Prop where
  rest : t = { s with hif := t.hif, out := t.out }

theorem SameBut.refl (s : State) : SameBut s s := ⟨rfl⟩

theorem SameBut.trans {s t u : State} (h : SameBut s t) (k : SameBut t u) : SameBut s u := by
  obtain ⟨h⟩ := h
  obtain ⟨k⟩ := k
  refine ⟨?_⟩
  rw [k, h]

theorem sameBut_onChan (s : State) (n : Nat) (f : Chan → Chan) : SameBut s (s.onChan n f) := ⟨rfl⟩

theorem sameBut_mapHif (s : State) (f : Hif → Hif) : SameBut s (s.mapHif f) := ⟨rfl⟩

theorem sameBut_emit (s : State) (o : Out) : SameBut s (s.emit o) := ⟨rfl⟩

theorem sameBut_irq (s : State) (b : Nat) (q : Bool) : SameBut s (s.irq b q) := by
  unfold State.irq
  cases q
  · simp only [Bool.false_eq_true, if_false]
    split
    · exact (sameBut_mapHif s _).trans (sameBut_emit _ _)
    · exact sameBut_mapHif s _
  · exact .refl s

theorem irq_chans (s : State) (b : Nat) (q : Bool) : (s.irq b q).hif.chans = s.hif.chans := by
  unfold State.irq
  cases q
  · simp only [Bool.false_eq_true, if_false]
    split <;> rfl
  · rfl

theorem irq_remotes (s : State) (b : Nat) (q : Bool) : (s.irq b q).hif.remotes = s.hif.remotes := by
  unfold State.irq
  cases q
  · simp only [Bool.false_eq_true, if_false]
    split <;> rfl
  · rfl

theorem irq_ops (s : State) (b : Nat) (q : Bool) : (s.irq b q).hif.ops = s.hif.ops := by
  unfold State.irq
  cases q
  · simp only [Bool.false_eq_true, if_false]
    split <;> rfl
  · rfl

theorem chan_irq (s : State) (b : Nat) (q : Bool) (m : Nat) : chan (s.irq b q) m = chan s m := by
  simp only [chan, irq_chans]

/-- What placing a message does: the ring of its channel moves by the slots it takes and nothing else of any channel
changes but RSP_CI, the operations stay, and beside the mailbox only the record of what was sent grows (05 R107). -/
theorem place_does (s : State) (n : Nat) (m : Msg) (ho : (chan s n).owner ≠ 0)
    (hs : ∀ x ∈ s.hif.remotes, x.ch = n → x.txSeq < 2 ^ 32) :
    SameBut s (place s n m) ∧ (place s n m).hif.ops = s.hif.ops ∧ (∀ k, k ≠ n → chan (place s n m) k = chan s k) ∧
    ∃ ci, chan (place s n m) n = { chan s n with
      rspPi := (chan s n).rspPi + BitVec.ofNat 16 (slotsOf (msgBytes n m).length)
      rspCi := ci } := by
  have hn := lt_of_owner s ho
  let s1 := s.mapHif fun h => { h with window := ringWrite h.window (rspBase n) (chan s n).rspPi.toNat (msgBytes n m) }
  let s2 := s1.onChan n fun c => { c with rspPi := c.rspPi + BitVec.ofNat 16 (slotsOf (msgBytes n m).length) }
  let s3 := s2.irq n m.quiet
  have c3 : chan s3 n = { chan s n with rspPi := (chan s n).rspPi + BitVec.ofNat 16 (slotsOf (msgBytes n m).length) } := by
    show chan (State.irq _ _ _) n = _
    rw [chan_irq]
    exact chan_onChan s1 _ hn
  have o3 : ∀ k, k ≠ n → chan s3 k = chan s k := by
    intro k hk
    show chan (State.irq _ _ _) k = _
    rw [chan_irq]
    exact chan_onChan_ne s1 _ hk
  have l3 : n < s3.hif.chans.length := by
    apply lt_of_owner
    rw [c3]
    exact ho
  have b3 : SameBut s s3 := ((sameBut_mapHif s _).trans (sameBut_onChan _ n _)).trans (sameBut_irq _ _ _)
  have p3 : s3.hif.ops = s.hif.ops := irq_ops _ _ _
  have r3 : s3.hif.remotes = s.hif.remotes := irq_remotes _ _ _
  have e : place s n m = (if (chan s n).owner = 3 then
    let s := s3.onChan n fun c => { c with rspCi := c.rspPi }
    match s.hif.remotes.find? (fun r => r.ch == n) with
    | none => s
    | some r =>
      if 2 ^ 32 ≤ r.txSeq then freeChan s n
      else
        let s := s.mapHif fun h => { h with remotes := h.remotes.map fun x => if x.ch == n then { x with txSeq := x.txSeq + 1 } else x }
        s.emit (.remote r.sid (r.txSeq + 1) (msgBytes n m) (datagramBytes r.sid r.keys (r.txSeq + 1) (msgBytes n m)))
  else if (chan s n).owner = 4 then
    let s := s3.onChan n fun c => { c with rspCi := c.rspPi }
    s.emit (.service (msgBytes n m))
  else s3) := rfl
  have s4 : chan (s3.onChan n fun c => { c with rspCi := c.rspPi }) n = { chan s3 n with rspCi := (chan s3 n).rspPi } := chan_onChan s3 _ l3
  have fin : ∀ t, t.hif.chans = (s3.onChan n fun c => { c with rspCi := c.rspPi }).hif.chans → (∀ k, k ≠ n → chan t k = chan s k) ∧
      ∃ ci, chan t n = { chan s n with
        rspPi := (chan s n).rspPi + BitVec.ofNat 16 (slotsOf (msgBytes n m).length)
        rspCi := ci } := by
    intro t ht
    have hc : ∀ k, chan t k = chan (s3.onChan n fun c => { c with rspCi := c.rspPi }) k := fun k => by simp only [chan, ht]
    refine ⟨fun k hk => ?_, (chan s3 n).rspPi, ?_⟩
    · rw [hc, chan_onChan_ne s3 _ hk, o3 k hk]
    · rw [hc, s4, c3]
  rw [e]
  split
  · simp only
    split
    · exact ⟨b3.trans (sameBut_onChan _ _ _), p3, (fin _ rfl).1, (fin _ rfl).2⟩
    · rename_i r hr
      have : r.txSeq < 2 ^ 32 := by
        have h1 := List.mem_of_find?_eq_some hr
        have h2 := List.find?_some hr
        exact hs r (by rw [← r3]; exact h1) (by simpa using h2)
      rw [if_neg (by omega)]
      exact ⟨((b3.trans (sameBut_onChan _ _ _)).trans (sameBut_mapHif _ _)).trans (sameBut_emit _ _), p3, (fin _ rfl).1, (fin _ rfl).2⟩
  · split
    · exact ⟨(b3.trans (sameBut_onChan _ _ _)).trans (sameBut_emit _ _), p3, (fin _ rfl).1, (fin _ rfl).2⟩
    · exact ⟨b3, p3, o3, (chan s n).rspCi, by rw [c3]⟩

/-- The check `accepts` is `Accepted`. -/
theorem accepted_of_accepts {s : State} {r : Req} {k : Rule} (h : accepts s r k = true) : Accepted s r k := by
  unfold accepts at h
  cases hi : cmdInfo k.cmd with
  | none => simp [hi] at h
  | some i =>
    simp only [hi, Bool.and_eq_true, decide_eq_true_eq, beq_iff_eq, Option.isNone_iff_eq_none, Bool.not_eq_true', List.all_eq_true,
      Bool.or_eq_true, bne_iff_ne, ne_eq, Bool.and_eq_false_iff] at h
    obtain ⟨⟨⟨⟨⟨⟨⟨⟨⟨⟨h1, h2⟩, h3⟩, h4⟩, ⟨⟨h5, h6⟩, h7⟩, h8⟩, h9⟩, h10⟩, h11⟩, h12⟩, h13⟩, h14⟩ := h
    refine ⟨h1, h2, h3, h4, by rw [hi]; rfl, ?_, ?_, h9, h10, h11, ?_, h12, ?_, h13, ?_⟩
    · intro j hj
      rw [hi] at hj
      cases hj
      exact h5
    · intro j hj
      rw [hi] at hj
      cases hj
      exact h6
    · intro j hj
      rw [hi] at hj
      cases hj
      rintro ⟨a, b⟩
      rcases h7 with h7 | h7
      · simp [a] at h7
      · exact b (by simpa using h7)
    · intro j hj
      rw [hi] at hj
      cases hj
      rintro ⟨a, b⟩
      rcases h8 with h8 | h8
      · simp [a] at h8
      · simp [b] at h8
    · intro x hx hc
      rcases h14 x hx with h | h
      · exact absurd hc h
      · exact h

/-! The service of a request -/

/-- The channel with the request's id taken as its last (05 R112). -/
def idTaken (s : State) (r : Req) : State := s.onChan r.ch.toNat fun c => { c with lastId := r.txn, hasId := true }

theorem length_msgBytes (n : Nat) (m : Msg) : (msgBytes n m).length = 28 + m.data.length := by
  have le_len : ∀ k v, (le k v).length = k := by
    intro k
    induction k with
    | zero => intro v; rfl
    | succ k ih => intro v; simp [le, ih]
  simp only [msgBytes, List.length_append, le_len]
  omega

/-- A request that passes every check is served: its id is taken, its command's work is done, and its answer is placed
(05 R111, R112). -/
theorem gmp_of_accepted {s : State} {r : Req} {k : Rule} (h : Accepted s r k) (body : OpTok → State → State × Reply) :
    gmp s r k body =
      (let x := body (tokOf s r k.cmd) (idTaken s r)
       let t := answer x.1 r k.cmd (tokOf s r k.cmd) x.2
       if (chan t r.ch.toNat).closing then freeChan t r.ch.toNat else t) := by
  have ho : (chan s r.ch.toNat).owner ≠ 0 := by
    have := h.read
    simp only [readable, Bool.and_eq_true, bne_iff_ne] at this
    exact this.1.2
  have hc : chan (idTaken s r) r.ch.toNat = { chan s r.ch.toNat with lastId := r.txn, hasId := true } := chan_onChan s _ (lt_of_owner s ho)
  have ht : tokOf (idTaken s r) r k.cmd = tokOf s r k.cmd := by simp only [tokOf, hc]
  obtain ⟨i, hi⟩ := Option.isSome_iff_exists.1 h.known
  have hk : checked (idTaken s r) r k body = body (tokOf s r k.cmd) (idTaken s r) := by
    have e1 : headerBad (idTaken s r) r = none := h.header
    have e2 : ¬ (chan s r.ch.toNat).priv < k.priv.getD i.priv := Nat.not_lt.2 (h.privileged i hi)
    have e3 := h.legal i hi
    have e4 := h.unlocked i hi
    have e5 := h.room i hi
    simp only [checked, e1, hi, hc, h.length, h.fields, h.token, h.unspent, ht]
    rw [if_neg e2]
    have e3' : (k.legal.getD (i.states.contains (idTaken s r).sys.mode && lifecycleAllows (idTaken s r) k.cmd)) = true := e3
    rw [e3']
    simp only [Bool.not_true, Bool.false_eq_true, if_false, ne_eq, not_true_eq_false]
    have e4' : ¬ (i.locked = true ∧ (idTaken s r).sec.tamper.latched ≠ 0) := e4
    have e5' : ¬ (i.later = true ∧ 32 ≤ opsOn (idTaken s r) r.ch.toNat) := e5
    rw [if_neg e4', if_neg e5']
  unfold gmp
  dsimp only
  rw [show readable s r.ch.toNat = true from h.read, if_neg (by simp), if_neg (by have := h.framed; omega), h.fresh]
  show (let t := tokOf (idTaken s r) r k.cmd
        let (s', p) := checked (idTaken s r) r k body
        let s' := answer s' r k.cmd t p
        if (chan s' r.ch.toNat).closing then freeChan s' r.ch.toNat else s') = _
  simp only [ht, hk]

/-- The answer to a request, where the command's work left its channel as it was (05 R107, R112, R116, R121). -/
theorem answer_does {s x : State} {r : Req} {cmd : Nat} (p : Reply)
    (ho : (chan s r.ch.toNat).owner ≠ 0) (hs : ∀ y ∈ s.hif.remotes, y.ch = r.ch.toNat → y.txSeq < 2 ^ 32)
    (hx : x.hif = (idTaken s r).hif) (hn : x.now = s.now) (hl : x.sys.compatRunning = s.sys.compatRunning) :
    SameBut x (answer x r cmd (tokOf s r cmd) p) ∧ Answered s (answer x r cmd (tokOf s r cmd) p) r cmd p ∧
      (chan (answer x r cmd (tokOf s r cmd) p) r.ch.toNat).closing = (chan s r.ch.toNat).closing := by
  have hc : chan (idTaken s r) r.ch.toNat = { chan s r.ch.toNat with lastId := r.txn, hasId := true } := chan_onChan s _ (lt_of_owner s ho)
  have hcx : chan x r.ch.toNat = { chan s r.ch.toNat with lastId := r.txn, hasId := true } := by
    rw [← hc]; simp only [chan, hx]
  have hox : ∀ m, m ≠ r.ch.toNat → chan x m = chan s m := by
    intro m hm
    have : chan x m = chan (idTaken s r) m := by simp only [chan, hx]
    rw [this]
    exact chan_onChan_ne s _ hm
  have hlv : levelOf x r = levelOf s r := by simp only [levelOf, hl]
  let m := rspMsg x r cmd p
  let e : CacheEntry := { txn := r.txn, cmd := m.cmd, compat := m.compat, status := m.status, info := m.info, detail := m.detail, data := m.data, placed := x.now, notice := none }
  let s1 := x.onChan r.ch.toNat fun c => { c with cache := (e :: c.cache.filter (fun y => y.txn != r.txn)).take 64 }
  let s2 := if p.status = stAccepted ∨ p.status = stAnte then s1.mapHif fun h => { h with ops := h.ops ++ [tokOf s r cmd] } else s1
  have hans : answer x r cmd (tokOf s r cmd) p = place s2 r.ch.toNat m := rfl
  have hlx : r.ch.toNat < x.hif.chans.length := lt_of_owner x (by rw [hcx]; exact ho)
  have c1 : chan s1 r.ch.toNat = { chan x r.ch.toNat with cache := (e :: (chan x r.ch.toNat).cache.filter (fun y => y.txn != r.txn)).take 64 } := chan_onChan x _ hlx
  have c2 : ∀ k, chan s2 k = chan s1 k := by intro k; simp only [s2]; split <;> rfl
  have b2 : SameBut x s2 := by
    refine SameBut.trans (t := s1) ⟨rfl⟩ ?_
    simp only [s2]
    split
    · exact sameBut_mapHif _ _
    · exact .refl _
  have r2 : s2.hif.remotes = s.hif.remotes := by
    have : s1.hif.remotes = s.hif.remotes := by show x.hif.remotes = _; rw [hx]; rfl
    simp only [s2]; split <;> exact this
  have o2 : s2.hif.ops = if p.status = stAccepted ∨ p.status = stAnte then s.hif.ops ++ [tokOf s r cmd] else s.hif.ops := by
    have : s1.hif.ops = s.hif.ops := by show x.hif.ops = _; rw [hx]; rfl
    simp only [s2]; split
    · show s1.hif.ops ++ _ = _; rw [this]
    · exact this
  have ho2 : (chan s2 r.ch.toNat).owner ≠ 0 := by rw [c2, c1, hcx]; exact ho
  obtain ⟨pb, pops, pother, ci, pc⟩ := place_does s2 r.ch.toNat m ho2 (by rw [r2]; exact hs)
  rw [hans]
  refine ⟨b2.trans pb, ⟨?_, ?_, ?_, ?_, ?_⟩, ?_⟩
  · rw [pc, c2, c1]
    simp only [List.take_succ_cons, List.head?_cons, e, m, rspMsg, hlv, hn]
  · rw [pc, c2, c1, hcx]
  · rw [pc, c2, c1, hcx, length_msgBytes]
    simp only [m, rspMsg]
    split <;> rfl
  · rw [pops, o2]
  · intro k hk
    rw [pother k hk, c2]
    show chan (x.onChan r.ch.toNat _) k = _
    rw [chan_onChan_ne x _ hk, hox k hk]
  · rw [pc, c2, c1, hcx]

/-- A served request whose command's work leaves the mailbox alone: it answers, and beside the mailbox and the record of what
was sent the state is what the work made of it. -/
theorem completes_of {i : Instr} {s x : State} {r : Req} {k : Rule} {p : Reply} {body : OpTok → State → State × Reply}
    (h : Accepted s r k) (he : exec i s = .next (gmp s r k body)) (hb : body (tokOf s r k.cmd) (idTaken s r) = (x, p))
    (hx : x.hif = (idTaken s r).hif) (hn : x.now = s.now) (hl : x.sys.compatRunning = s.sys.compatRunning) :
    ∃ t, exec i s = .next t ∧ Answered s t r k.cmd p ∧ t = { x with hif := t.hif, out := t.out } := by
  have ho : (chan s r.ch.toNat).owner ≠ 0 := by
    have := h.read
    simp only [readable, Bool.and_eq_true, bne_iff_ne] at this
    exact this.1.2
  obtain ⟨a, b, c⟩ := answer_does (cmd := k.cmd) p ho h.sends hx hn hl
  refine ⟨answer x r k.cmd (tokOf s r k.cmd) p, ?_, b, a.rest⟩
  rw [he, gmp_of_accepted h]
  simp only [hb, c, h.stays]
  rfl

end Sys2Proof.Machine
end

