-- ==== Sys2Proof/Laws/Records.lean ====
section
/-!
SUPPORT. What the shared operations of the recorder and of the stores do, said once: an event and an alarm change the
recorder's state, the alarms and the source of free values; a store is queued, and nothing else changes.
-/

namespace Sys2Proof.Machine

open Sys2Proof

/-- Only the recorder and the source of free values may differ (15 R413 to R415). -/
structure RecordsOnly (s t : State) : Prop where
  rest : t = { s with rcd := t.rcd, fresh := t.fresh }

/-- Only the recorder, the list of active alarms and the source of free values may differ (15 R420). -/
structure AlarmsOnly (s t : State) : Prop where
  rest : t = { s with rcd := t.rcd, fresh := t.fresh, sys := { s.sys with alarms := t.sys.alarms } }

theorem RecordsOnly.refl (s : State) : RecordsOnly s s := ⟨rfl⟩

theorem RecordsOnly.trans {s t u : State} (h : RecordsOnly s t) (k : RecordsOnly t u) : RecordsOnly s u := by
  obtain ⟨h⟩ := h
  obtain ⟨k⟩ := k
  refine ⟨?_⟩
  rw [k, h]

theorem AlarmsOnly.refl (s : State) : AlarmsOnly s s := ⟨rfl⟩

theorem AlarmsOnly.trans {s t u : State} (h : AlarmsOnly s t) (k : AlarmsOnly t u) : AlarmsOnly s u := by
  obtain ⟨h⟩ := h
  obtain ⟨k⟩ := k
  refine ⟨?_⟩
  rw [k, h]

theorem RecordsOnly.alarms {s t : State} (h : RecordsOnly s t) : AlarmsOnly s t := by
  obtain ⟨h⟩ := h
  refine ⟨?_⟩
  rw [h]

theorem recordsOnly_mapRcd (s : State) (f : Rec → Rec) : RecordsOnly s (s.mapRcd f) := ⟨rfl⟩

theorem recordsOnly_enterRec (s : State) (code kind : Nat) (d : List Byte) : RecordsOnly s (enterRec s code kind d) := ⟨rfl⟩

theorem recordsOnly_enterOrDrop (s : State) (code kind : Nat) (d : List Byte) : RecordsOnly s (enterOrDrop s code kind d) := by
  unfold enterOrDrop
  split
  · exact recordsOnly_mapRcd _ _
  · exact recordsOnly_enterRec _ _ _ _

theorem recordsOnly_event (s : State) (code : Nat) (d : List Byte) (kind : Nat) : RecordsOnly s (s.event code d kind) := by
  unfold State.event
  split
  · exact recordsOnly_enterOrDrop _ _ _ _
  · simp only []
    split
    · exact (recordsOnly_mapRcd s _).trans (recordsOnly_enterOrDrop _ _ _ _)
    · split
      · exact recordsOnly_mapRcd _ _
      · exact (recordsOnly_mapRcd s _).trans (recordsOnly_enterOrDrop _ _ _ _)

theorem recordsOnly_score (s : State) (typ : Nat) (d : List Byte) : RecordsOnly s (s.score typ d) := ⟨rfl⟩

/-- The first scorecard entry of a tick stands first, numbered; every entry asks for a flush (15 R413, R417, R418). -/
theorem score_does (s : State) (typ : Nat) (d : List Byte) :
    (s.rcd.scoreAt ≠ some s.now → (s.score typ d).rcd.score.head?.map (fun e => (e.typ, e.entry, e.data)) = some (typ, s.rcd.scoreNext, d)) ∧
      (s.score typ d).rcd.scoreNext = s.rcd.scoreNext + 1 ∧ (s.score typ d).rcd.flushTrig = some (s.rcd.flushTrig.getD s.now) ∧
      (s.score typ d).rcd.ring = s.rcd.ring := by
  refine ⟨fun h => ?_, rfl, rfl, rfl⟩
  simp [State.score, State.mapRcd, State.trigFlush, h, placeScore]

/-- An event of a code with a full bucket enters a ring with room first, with the next sequence number (15 R411, R415). -/
theorem event_enters (s : State) (code : Nat) (d : List Byte) (kind : Nat) (hr : s.rcd.ring.length < 1024) (hb : s.rcd.buckets = []) :
    ∃ e, (s.event code d kind).rcd.ring = e :: s.rcd.ring ∧ e.code = BitVec.ofNat 16 code ∧ e.seq = s.rcd.nextSeq ∧ e.kind = kind ∧
      e.data = padTo 48 d ∧ (s.event code d kind).rcd.nextSeq = s.rcd.nextSeq + 1 := by
  have hf : ringFull s = false := by simp [ringFull]; omega
  unfold State.event
  split
  · simp [enterOrDrop, hf, enterRec, State.mapRcd, State.bump]
  · have hg : ∀ f : Rec → Rec, (f s.rcd).ring = s.rcd.ring → ringFull (s.mapRcd f) = false := by
      intro f h
      simp [ringFull, State.mapRcd, h]
      omega
    simp only [hb, List.find?_nil]
    unfold enterOrDrop
    rw [if_neg (by simp [hg])]
    simp [enterRec, State.mapRcd, State.bump]

theorem alarmsOnly_raise (s : State) (code : Nat) (d : List Byte) (inst : Nat) : AlarmsOnly s (s.raise code d inst) := by
  unfold State.raise
  split
  · exact .refl s
  · simp only []
    exact AlarmsOnly.trans ⟨rfl⟩ (recordsOnly_event _ _ _ _).alarms

theorem alarmsOnly_clearAlarm (s : State) (code : Nat) (d : List Byte) (inst : Nat) : AlarmsOnly s (s.clearAlarm code d inst) := by
  unfold State.clearAlarm
  split
  · simp only []
    exact AlarmsOnly.trans ⟨rfl⟩ (recordsOnly_event _ _ _ _).alarms
  · exact .refl s

theorem sys_of_recordsOnly {s t : State} (h : RecordsOnly s t) : t.sys = s.sys := by
  rw [h.rest]

/-- An alarm that is raised is active, and no other changes (15 R420). -/
theorem alarms_raise (s : State) (code : Nat) (d : List Byte) (inst : Nat) :
    (s.raise code d inst).sys.alarms = if s.alarmOn code inst then s.sys.alarms else alarmKey code inst :: s.sys.alarms := by
  unfold State.raise
  split
  · rfl
  · simp only []
    rw [sys_of_recordsOnly (recordsOnly_event _ _ _ _)]
    rfl

/-- An alarm that is cleared is no longer active, and no other changes (15 R420). -/
theorem alarms_clearAlarm (s : State) (code : Nat) (d : List Byte) (inst : Nat) :
    (s.clearAlarm code d inst).sys.alarms = s.sys.alarms.filter fun a => a != alarmKey code inst := by
  unfold State.clearAlarm
  split
  · simp only []
    rw [sys_of_recordsOnly (recordsOnly_event _ _ _ _)]
    rfl
  · rename_i h
    refine (List.filter_eq_self.2 fun a ha => ?_).symm
    rw [bne_iff_ne]
    rintro rfl
    exact h (by simpa [State.alarmOn] using ha)

/-- A store is queued behind the others; it runs when its ante passes, none of its kind is deferred and no warning
stands (03 R72, R73). -/
theorem requestStore_does (s : State) (k : StoreKind) (mj : Nat) (p : StorePurpose) (t : Option OpTok) :
    requestStore s k mj p t = { s with pow := { s.pow with stores := s.pow.stores ++
      [{ kind := k, mj := mj, purpose := p, tok := t, since := s.now, running := antePasses s mj && !deferredKind s k && !s.pow.warning }] } } := rfl

/-- An admitted change waits behind the others and is answered ACCEPTED (04 R92). -/
theorem admitChange_does (s : State) (t : OpTok) (i : Instr) (d : List Byte) :
    admitChange s t i d = ({ s with changes := s.changes ++ [{ tok := t, what := i, round := changeRound s }] }, { status := stAccepted, data := d }) := rfl

end Sys2Proof.Machine
end

