-- ==== Sys2Proof/Laws/Window.lean ====
section
/-!
SUPPORT. The host window: a read after a write, and every operation keeps its canonical form (05 R103).
-/

namespace Sys2Proof.Machine

open Sys2Proof

/-- The canonical form, said over all cells: addresses strictly rising, none equal to 0. -/
theorem Window.wf_iff (w : List Host.Cell) :
    Window.wf w = true ↔ w.Pairwise (fun c d => c.1 < d.1) ∧ ∀ c ∈ w, c.2 ≠ 0 := by
  induction w with
  | nil => simp [Window.wf]
  | cons c r ih =>
    cases r with
    | nil => simp [Window.wf]
    | cons d r =>
      have h : Window.wf (c :: d :: r) = true ↔ c.2 ≠ 0 ∧ c.1 < d.1 ∧ Window.wf (d :: r) = true := by
        simp [Window.wf, and_assoc]
      rw [h, ih]
      constructor
      · rintro ⟨h0, hcd, hp, hz⟩
        refine ⟨List.pairwise_cons.2 ⟨fun x hx => ?_, hp⟩, ?_⟩
        · rcases List.mem_cons.1 hx with rfl | hx
          · exact hcd
          · exact Nat.lt_trans hcd ((List.pairwise_cons.1 hp).1 x hx)
        · intro x hx
          rcases List.mem_cons.1 hx with rfl | hx
          · exact h0
          · exact hz x hx
      · rintro ⟨hp, hz⟩
        have := List.pairwise_cons.1 hp
        exact ⟨hz c (by simp), this.1 d (by simp), this.2, fun x hx => hz x (List.mem_cons_of_mem _ hx)⟩

/-- The cells of a write lie in its range and are not 0. -/
theorem mem_cellsFrom {a : Nat} {b : List Byte} {c : Host.Cell} (h : c ∈ cellsFrom a b) : a ≤ c.1 ∧ c.1 < a + b.length ∧ c.2 ≠ 0 := by
  induction b generalizing a with
  | nil => simp [cellsFrom] at h
  | cons x r ih =>
    simp only [cellsFrom] at h
    split at h
    · obtain ⟨h1, h2, h3⟩ := ih h
      exact ⟨by omega, by simp; omega, h3⟩
    · rcases List.mem_cons.1 h with rfl | h
      · exact ⟨Nat.le_refl _, by simp, by assumption⟩
      · obtain ⟨h1, h2, h3⟩ := ih h
        exact ⟨by omega, by simp; omega, h3⟩

theorem pairwise_cellsFrom (a : Nat) (b : List Byte) : (cellsFrom a b).Pairwise (fun c d => c.1 < d.1) := by
  induction b generalizing a with
  | nil => simp [cellsFrom]
  | cons x r ih =>
    simp only [cellsFrom]
    split
    · exact ih _
    · refine List.pairwise_cons.2 ⟨fun d hd => ?_, ih _⟩
      have := (mem_cellsFrom hd).1
      show a < d.1
      omega

/-- A write keeps the canonical form. -/
theorem winWrite_wf {w : List Host.Cell} (h : Window.wf w = true) (a : Nat) (b : List Byte) : Window.wf (winWrite w a b) = true := by
  obtain ⟨hp, hz⟩ := (Window.wf_iff w).1 h
  refine (Window.wf_iff _).2 ⟨?_, ?_⟩
  · unfold winWrite
    refine List.pairwise_append.2 ⟨List.pairwise_append.2 ⟨hp.filter _, pairwise_cellsFrom a b, ?_⟩, hp.filter _, ?_⟩
    · intro c hc d hd
      have := (mem_cellsFrom hd).1
      have := of_decide_eq_true (List.mem_filter.1 hc).2
      omega
    · intro c hc d hd
      have hd := of_decide_eq_true (List.mem_filter.1 hd).2
      rcases List.mem_append.1 hc with hc | hc
      · have := of_decide_eq_true (List.mem_filter.1 hc).2
        omega
      · have := (mem_cellsFrom hc).2.1
        omega
  · intro c hc
    unfold winWrite at hc
    rcases List.mem_append.1 hc with hc | hc
    · rcases List.mem_append.1 hc with hc | hc
      · exact hz c (List.mem_filter.1 hc).1
      · exact (mem_cellsFrom hc).2.2
    · exact hz c (List.mem_filter.1 hc).1

/-- A message in a ring keeps the canonical form. -/
theorem ringWrite_wf {w : List Host.Cell} (h : Window.wf w = true) (base i : Nat) (b : List Byte) : Window.wf (ringWrite w base i b) = true := by
  unfold ringWrite
  simp only []
  split
  · exact winWrite_wf h _ _
  · exact winWrite_wf (winWrite_wf h _ _) _ _

/-- The first cell of a written range, by its address. -/
theorem find_cellsFrom (a : Nat) (b : List Byte) (x : Nat) :
    winRead (cellsFrom a b) x = if a ≤ x ∧ x < a + b.length then b.getD (x - a) 0 else 0 := by
  induction b generalizing a with
  | nil => simp [cellsFrom, winRead]
  | cons y r ih =>
    have hr := ih (a + 1)
    have cons0 : y = 0 → cellsFrom a (y :: r) = cellsFrom (a + 1) r := fun h => if_pos h
    have cons1 : y ≠ 0 → cellsFrom a (y :: r) = (a, y) :: cellsFrom (a + 1) r := fun h => if_neg h
    by_cases hx : x = a
    · subst hx
      rw [if_pos (by simp)]
      by_cases hy : y = 0
      · rw [cons0 hy, hr, if_neg (by omega)]
        simp [hy]
      · rw [cons1 hy]
        simp [winRead]
    · have hs : winRead (cellsFrom a (y :: r)) x = winRead (cellsFrom (a + 1) r) x := by
        by_cases hy : y = 0
        · rw [cons0 hy]
        · rw [cons1 hy]
          simp only [winRead, List.find?_cons, show (a == x) = false from by simpa using Ne.symm hx]
      rw [hs, hr]
      by_cases h : a + 1 ≤ x ∧ x < a + 1 + r.length
      · have h' : a ≤ x ∧ x < a + (y :: r).length := by simp; omega
        have e : x - a = x - (a + 1) + 1 := by omega
        rw [if_pos h, if_pos h', e]
        simp
      · have h' : ¬ (a ≤ x ∧ x < a + (y :: r).length) := by simp; omega
        rw [if_neg h, if_neg h']

/-- A byte after a write: the byte written, or the byte before. -/
theorem winRead_winWrite (w : List Host.Cell) (a : Nat) (b : List Byte) (x : Nat) :
    winRead (winWrite w a b) x = if a ≤ x ∧ x < a + b.length then b.getD (x - a) 0 else winRead w x := by
  have app : ∀ l r : List Host.Cell, (∀ c ∈ l, c.1 ≠ x) → winRead (l ++ r) x = winRead r x := by
    intro l r h
    have n : l.find? (fun c => c.1 == x) = none := List.find?_eq_none.2 (by simpa using h)
    simp only [winRead, List.find?_append, n, Option.none_or]
  have app' : ∀ l r : List Host.Cell, (∀ c ∈ r, c.1 ≠ x) → winRead (l ++ r) x = winRead l x := by
    intro l r h
    have n : r.find? (fun c => c.1 == x) = none := List.find?_eq_none.2 (by simpa using h)
    simp only [winRead, List.find?_append, n, Option.or_none]
  have keep : ∀ p : Nat → Bool, p x = true → winRead (w.filter fun c => p c.1) x = winRead w x := by
    intro p hp
    simp only [winRead, List.find?_filter]
    have : (fun c : Host.Cell => decide (p c.1 = true ∧ (c.1 == x) = true)) = fun c => c.1 == x := by
      funext c
      by_cases h : c.1 = x <;> simp [h, hp]
    rw [this]
  unfold winWrite
  by_cases h1 : x < a
  · rw [if_neg (by omega), app', app']
    · exact keep (fun y => decide (y < a)) (by simpa using h1)
    · exact fun c hc => by have := (mem_cellsFrom hc).1; omega
    · exact fun c hc => by have := of_decide_eq_true (List.mem_filter.1 hc).2; omega
  · by_cases h2 : x < a + b.length
    · rw [if_pos ⟨by omega, h2⟩, app', app]
      · rw [find_cellsFrom, if_pos ⟨by omega, h2⟩]
      · exact fun c hc => by have := of_decide_eq_true (List.mem_filter.1 hc).2; omega
      · exact fun c hc => by have := of_decide_eq_true (List.mem_filter.1 hc).2; omega
    · rw [if_neg (by omega), app]
      · exact keep (fun y => decide (a + b.length ≤ y)) (by simpa using h2)
      · intro c hc
        rcases List.mem_append.1 hc with hc | hc
        · have := of_decide_eq_true (List.mem_filter.1 hc).2; omega
        · have := (mem_cellsFrom hc).2.1; omega

/-- A write reads back. -/
theorem winBytes_winWrite (w : List Host.Cell) (a : Nat) (b : List Byte) : winBytes (winWrite w a b) a b.length = b := by
  apply List.ext_getElem (by simp [winBytes])
  intro k h1 h2
  simp only [winBytes, List.getElem_map, List.getElem_range, winRead_winWrite]
  rw [if_pos ⟨by omega, by omega⟩]
  simp [h2]

end Sys2Proof.Machine
end

