-- ==== Sys2Proof/Tests/Slice0.lean ====
section
/-!
SUPPORT. Tests of the model: ill-formed commands that the check refuses, single steps whose results come from the spec's
tables and examples, and for each statement with hypotheses a state and operands that meet them (`met_<statement>`; the
requests that pass every check stand in `accepted_<statement>`). A verdict of a cryptographic constant without a body cannot
be evaluated; there the witness is of the condition on the verdict.
-/

namespace Sys2Proof.Tests

open Sys2Proof Sys2Proof.Machine

/-! States and requests -/

/-- A module with its lifecycle DEPLOYED in a state of 01 Table 1.7, its ticks running and a host with privilege 4 on channel 0. -/
def serving (m : Mode) : State := { State.reset with
  sys := { Sys.reset with mode := m, inReset := false, booted := true }
  pow := { Power.reset with drawing := true, vinGood := true, mainsOk := true, stackMv := 12000 }
  clk := { Clock.reset with running := true }
  sec := { Sec.reset with fuses := { Sec.reset.fuses with lifecycle := 3, rootHash := [[1], [2], [3], [4]] } }
  hif := { Hif.reset with chans := Hif.reset.chans.set 0 { Chan.reset with owner := 1, priv := 4 } } }

/-- The declarer of a lone module. -/
abbrev decl : State := serving .declarer

/-- A request on channel 0 with `n` bytes of payload. -/
def rq (n : Nat) : Req := { ch := 0, txn := 1, len := BitVec.ofNat 16 n, chan := 0, flags := 0, compat := 0, rsv := 0 }

/-- The state that a command answers. -/
def after (i : Instr) (s : State) : State :=
  match exec i s with
  | .next t => t
  | _ => s

/-- The status that channel 0 holds last. -/
def said (s : State) : Option Nat := (chan s 0).cache.head?.map (·.status.toNat)

/-- Channel 0 changed. -/
def chan0 (s : State) (f : Chan → Chan) : State := s.onChan 0 f

/-! A module in service with one of each object -/

/-- A command with a payload read from its bytes. -/
def cmd (n : Nat) (b : List Byte) : Instr := (requestOf n (rq b.length) b).getD .servicePortConnect

/-- The lantern 5 of feeder 0, lanterns 6 and 7, the sensor 9, a stage, a demand loop on it, a string, a chain of two blocks,
group 1 of lantern 5, and an RS-485 stage of contactor class. -/
def objects : List Instr := [
  cmd 0x0501 (le 4 0x01000005 ++ List.replicate 8 1 ++ le 2 500 ++ [0, 1, 0, 0, 0, 0]),
  cmd 0x0501 (le 4 0x01000006 ++ List.replicate 8 2 ++ le 2 500 ++ [0, 1, 0, 0, 0, 0]),
  cmd 0x0501 (le 4 0x02000009 ++ List.replicate 8 3 ++ le 2 0x8000 ++ [0, 1, 0, 0, 0, 0]),
  cmd 0x0401 [0, 3, 3, 1], cmd 0x0404 ([0, 0] ++ le 2 350 ++ le 2 40000 ++ le 2 60), cmd 0x0404 ([1, 0] ++ le 2 350 ++ le 2 40000 ++ le 2 60), cmd 0x0406 ([0, 0] ++ le 2 2),
  cmd 0x0301 (le 4 0x05000000 ++ [1, 3] ++ le 2 2 ++ le 2 0 ++ le 2 0 ++ le 4 2000 ++ le 4 5000 ++ le 4 0 ++ le 2 1 ++ le 2 0),
  cmd 0x0701 (le 4 0x03000001 ++ [0, 0] ++ le 2 1 ++ le 4 0x01000005)]

def withObjects (s : State) : State :=
  let c := objects.foldl (fun c i => cfgOf i c) s.cfg
  let t := syncLoops (syncStages { s with cfg := c, cfgNand := c }) []
  { t with ctl := { t.ctl with seats := (seatsOf t c).2 }, pow := { t.pow with stores := [] } }

/-- The declarer of a lone module with these objects. -/
def city : State := withObjects decl

/-- The same module in COMMISSIONING. -/
def cityComm : State := withObjects (serving .commissioning)

theorem city_objects : (city.cfg.nodes.length, city.cfg.stages.length, city.cfg.loops.length, city.cfg.strings.length, city.ctl.loops.length, city.outs.stages.length) = (3, 1, 1, 2, 1, 1) ∧
    ((city.cfg.groups.find? fun g => g.1 == 1).map (·.2)) = some [0x01000005] ∧ expectOf city 0 = 2 ∧ city.ctl.seats.length = 1 := by decide

/-- The same module with schedule 0 for group 1. -/
def sched : State :=
  let c := cfgOf (cmd 0x0703 (le 4 0x04000000 ++ le 2 24 ++ le 2 0 ++ (le 4 0x03000001 ++ [0, 0, 1, 0] ++ le 4 90000000 ++ le 4 180000000) ++ ([1, 0] ++ le 2 0 ++ le 2 10000 ++ le 2 0))) city.cfg
  { city with cfg := c, cfgNand := c }

/-- The upper module of a pair, its partner's words heard. -/
def pairIn (m : Mode) : State :=
  let s := serving m
  { s with sys := { s.sys with straps := 0b10 }, pair := { s.pair with wordsLost := false } }

/-- An open update session of channel 0 with a whole image of 8,192 bytes. -/
def updSess : UpdSess := { id := 1, hash := List.replicate 48 1, size := 8192, data := [], received := 8192, last := 0, holder := tokOf decl (rq 0) 0x0B01, members := [tokOf decl (rq 0) 0x0B01] }

def updating : State := { decl with upd := { decl.upd with sess := some updSess, phase := 1 } }

/-- A symmetric key and its confirmed stage. -/
def aesKey : Hand := { typ := 1, mask := 1, usage := 0, expiry := 0, header := 1, key := List.replicate 16 0, expired := false }

def stage (n : U16) : Stage := { id := n, hand := 1, key := aesKey, confirmed := true, since := 0, holder := tokOf decl (rq 0) 0x0A03, nonce := [] }

def staging : State := { decl with sec := { decl.sec with stages := [stage 1] } }

/-- A module in PROVISIONING. -/
def provisioning : State :=
  let s := serving .commissioning
  { s with sec := { s.sec with fuses := { s.sec.fuses with lifecycle := 1 } } }

/-- A blank module whose first channel the service port holds. -/
def blank : State :=
  let s := serving .quarantine
  (chan0 s fun c => { c with owner := 4, priv := 0 }).mapSec fun c => { c with fuses := { c.fuses with lifecycle := 0 } }

def replica : Replica := { seg := 7, owner := [], version := 1, addr := [], items := [] }

def peered : State := { decl with mesh := { decl.mesh with replicas := [replica] } }

/-! Witnesses: the mailbox -/

theorem met_EmptyQueueIdles : State.reset.pending = [] := rfl

theorem met_EveryStepKeepsTheWindowCanonical : Window.wf decl.hif.window = true ∧
    (match step { decl with pending := [.registerWrite { bus := .pcie, bar2 := true, addr := 0x1FFFF, write := true, data := [7], len := 0 }] } with | .next _ => true | _ => false) = true := by decide

/-- A poll that consumes one request of channel 0. -/
theorem met_EveryStepKeepsTheRequestRings : decl.hif.chans.length = 8 ∧ (∀ n, n < 8 → ((chan decl n).reqPi - (chan decl n).reqCi).toNat ≤ 64) ∧
    (match step { decl with pending := [.doorbellPoll] } with | .next _ => true | _ => false) = true := by decide

set_option maxRecDepth 100000 in
/-- A message that passes the end of its ring: its bytes go on at the start. -/
theorem met_RingLayout : slotsOf 4096 = 4 ∧ slotsOf 1024 = 1 ∧ slotsOf 1025 = 2 ∧ winRead (ringWrite [] 0 63 (List.replicate 1024 0 ++ [9])) 0 = 9 := by decide

theorem met_RequestDecodesToItself : (Instr.removeLoop (rq 4) { loop := 0x02000000 }).wf = true ∧
    (requestParts (Instr.removeLoop (rq 4) { loop := 0x02000000 })).isSome = true := by decide

/-- Each clause of the checking order: a stale id, a bad header field, an unknown code, too low a privilege, an illegal state, a
wrong length, a bad field, a tamper latched. -/
theorem met_CheckingOrder :
    (readable decl 0 = true ∧ (chan decl 0).closing = false ∧ decl.hif.remotes = []) ∧
    idCheck (chan0 decl fun c => { c with hasId := true, lastId := 1 }) (chan (chan0 decl fun c => { c with hasId := true, lastId := 1 }) 0) 1 = .stale ∧
    idCheck decl (chan decl 0) 1 = .accept ∧ headerBad decl { rq 0 with rsv := 1 } = some 0x0C ∧ headerBad decl (rq 0) = none ∧
    cmdInfo 0x0FFF = none ∧ (cmdInfo 0x0103).any (fun i => decide (1 < i.priv)) = true ∧
    (cmdInfo 0x0105).any (fun i => i.states.contains Mode.failLit == false) = true ∧ lifecycleAllows (serving .failLit) 0x0105 = true ∧
    (rq 3).len.toNat ≠ 4 ∧ firstBad [(0x10, false)] = some 0x10 ∧
    ((cmdInfo 0x0A02).any (fun i => i.locked) = true ∧ { decl.sec.tamper with latched := 1 }.latched ≠ 0) := by decide

/-- Ids at both ends of the window of R120, cached and not. -/
theorem met_TransactionIdRule :
    let c : Chan := { chan decl 0 with hasId := true, lastId := 0xFFFFFFFF }
    let e : CacheEntry := { txn := 5, cmd := 0, compat := 1, status := 0, info := 0, detail := 0, data := [], placed := 0, notice := none }
    (1 ≤ (0#32 - c.lastId).toNat ∧ (0#32 - c.lastId).toNat ≤ 0x7FFFFFFF) ∧ (0x7FFFFFFE#32 - c.lastId).toNat = 0x7FFFFFFF ∧
    (0x7FFFFFFF#32 - c.lastId).toNat = 0x80000000 ∧ (c.lastId - c.lastId).toNat = 0 ∧
    (479999 < e.placed + secs 60 ∧ e.placed + secs 60 ≤ 480000) ∧
    (readable decl 0 = true ∧ (chan decl 0).closing = false) := by decide

/-- A cached id, without a notice and with one. -/
theorem met_DuplicateAnswersTheCachedResponse :
    let m : Msg := { txn := 1, cmd := 0x0301, notice := true, quiet := false, compat := 1, status := 0, info := 0, detail := 0, data := [] }
    let e (n : Option Msg) : CacheEntry := { txn := 1, cmd := 0x0301, compat := 1, status := 1, info := 0, detail := 0, data := [], placed := 0, notice := n }
    let s (n : Option Msg) : State := chan0 decl fun c => { c with hasId := true, lastId := 1, cache := [e n] }
    idCheck (s none) (chan (s none) 0) 1 = .dup (e none) ∧ idCheck (s (some m)) (chan (s (some m)) 0) 1 = .dup (e (some m)) ∧
    readable (s none) 0 = true ∧ 4 ≤ rspFree (chan (s none) 0) ∧
    (readable (chan0 (s (some m)) fun c => { c with rspPi := 60 }) 0 = true ∧ rspFree (chan (place (chan0 (s (some m)) fun c => { c with rspPi := 60 }) 0 m) 0) < 4) := by decide

theorem accepted_SessionCommands :
    (accepts decl (rq 4) { cmd := 0x0110, len := 4, fields := (0x10, decide ((4#8).toNat ≤ 4)) :: rsv3 0x11 0 } &&
    accepts decl (rq 356) { cmd := 0x0111, len := 4 + (256#16).toNat + 96, fields := [(0x12, (0#16) == 0)] } &&
    accepts decl (rq 4) { cmd := 0x0112, len := 4, fields := (0x10, decide ((3#8).toNat < (chan decl 0).priv)) :: rsv3 0x11 0 }) = true := by decide

/-- A challenge at its last instant and past it, a verdict that is accepted and one that is not. -/
theorem met_SessionCommands :
    let h : Challenge := { priv := 3, bytes := [], at_ := 0 }
    (chan (chan0 decl fun c => { c with challenge := some h }) 0).challenge = some h ∧ (80000 ≤ h.at_ + secs 10 ∧ h.at_ + secs 10 < 80001) ∧
    (chan decl 0).challenge = none := by decide

theorem accepted_ChannelCloseEndsTheSession : accepts decl (rq 0) { cmd := 0x0113, len := 0 } = true := by decide

/-- Channel 0 is held by the host's PCI Express, channel 7 is free. -/
theorem met_ChannelOwnership : ready decl = true ∧ decl.hif.chans.length = 8 ∧ (chan decl 7).owner = 0 ∧ (chan decl 0).owner = busCode .pcie ∧
    ((chan decl 0).owner ≠ 0 ∧ (chan decl 0).owner ≠ busCode .qspi) := by decide

/-- A ring filled to 64 slots and one further, across the wrap of the index. -/
theorem met_IndexWrites :
    let c : Chan := { chan decl 0 with reqPi := 0xFFF0, reqCi := 0xFFE0, rspPi := 4, rspCi := 0xFFFF }
    (0x0020#16 - c.reqCi).toNat = 64 ∧ (0x0021#16 - c.reqCi).toNat = 65 ∧ (c.reqPi - c.reqCi).toNat ≤ 64 ∧ (0xFFEF#16 - c.reqCi).toNat < (c.reqPi - c.reqCi).toNat ∧
    (4#16 - c.rspCi).toNat ≤ (c.rspPi - c.rspCi).toNat ∧ (c.rspPi - c.rspCi).toNat < (5#16 - c.rspCi).toNat ∧ c.owner = busCode .pcie ∧ c.owner ≠ busCode .qspi := by decide

/-! Witnesses: the buses, the rings and the remote carriers -/

theorem met_HostRegisterAccess : ready decl = true ∧ ready State.reset = false ∧ decl.hif.chans.length = 8 ∧ (chan decl 0).owner = busCode .pcie ∧
    ((0xFFC#20).toNat % 4 = 0 ∧ (0xFFC#20).toNat < 0x1000 ∧ 0xFFC#20 ≠ 0x014#20 ∧ 0xFFC#20 ≠ 0x020#20) ∧ (0xFFE#20).toNat % 4 ≠ 0 := by decide

/-- The last two bytes of channel 0's area, written by its holder and by the other bus; the first byte of channel 1's. -/
theorem met_WindowAccess :
    let a (b : Bus) : BusAccess := { bus := b, bar2 := true, addr := 0x1FFFE, write := true, data := [7, 8], len := 0 }
    ((a .pcie).addr.toNat + (a .pcie).data.length ≤ 0x20000 * 1 ∧ (chan decl 0).owner = busCode (a .pcie).bus) ∧ (chan decl 0).owner ≠ busCode (a .qspi).bus ∧
    Window.wf decl.hif.window = true ∧ decl.hif.chans.length = 8 ∧ (0x20000#20).toNat / 0x20000 = 1 ∧
    (match exec (.registerWrite (a .pcie)) decl with | .next t => winRead t.hif.window 0x1FFFF | _ => 0) = 8 := by decide

/-- Table 5.3: the first and last word of the map, the first byte of the window and its last, reserved space between. -/
theorem met_QuadSpiAccess : ((0xFFC#24).toNat % 4 = 0 ∧ (0xFFC#24).toNat < 0x1000 ∧ 0xFFC#24 ≠ 0x14#24) ∧ 0x100000 ≤ (0x100000#24).toNat ∧ (0x1FFFFF#24).toNat + 1 ≤ 0x200000 ∧
    (0x1000 ≤ (0x1000#24).toNat ∧ (0x1000#24).toNat + 0xFF000 ≤ 0x100000) ∧ (0x39#8 ≠ 0x38#8 ∧ 0x39#8 ≠ 0x3B#8) := by decide

theorem met_PerstReleasesPciChannels : decl.hif.chans.length = 8 ∧ (∀ r ∈ decl.hif.remotes, (chan decl r.ch).owner = 3) ∧ (chan decl 0).owner = 1 ∧ (chan decl 1).owner ≠ 1 := by decide

/-- Identity, asked for by a request in the ring: its CRC is that of its 16 bytes. -/
def ringed (len : Nat) (crc : U32) : State :=
  let s := { decl with hif := { decl.hif with window := ringWrite [] 0 0 (le 4 1 ++ le 2 0x0101 ++ le 2 len ++ le 8 0 ++ le 4 crc.toNat) } }
  chan0 s fun c => { c with reqPi := 1 }

set_option maxRecDepth 100000 in
theorem met_PollServesTheHeadOfEachRing :
    (decl.clk.running = true ∧ decl.sys.inReset = false ∧ 15 < 16 ∧ decl.sec.endOwner = false) ∧
    (readable decl 0 = true ∧ readable decl 1 = false ∧ ((chan decl 0).reqPi - (chan decl 0).reqCi).toNat = 0) ∧
    (let s := ringed 0 (crc32 (le 4 1 ++ le 2 0x0101 ++ le 2 0 ++ le 8 0))
     readable s 0 = true ∧ 0 < ((chan s 0).reqPi - (chan s 0).reqCi).toNat ∧ said (after .doorbellPoll s) = some 0) ∧
    (let s := ringed 0 0
     num (ringRead s.hif.window 0 0 20) 16 4 ≠ (crc32 ((ringRead s.hif.window 0 0 20).take 16)).toNat) ∧
    (let s := ringed 4077 0
     4076 < (reqOf 0 (ringRead s.hif.window 0 0 16)).len.toNat) ∧
    (let s := ringed 1005 0
     (reqOf 0 (ringRead s.hif.window 0 0 16)).len.toNat ≤ 4076 ∧ ((chan s 0).reqPi - (chan s 0).reqCi).toNat < slotsOf (20 + 1005)) := by decide

def opTok : OpTok := { ch := 0, transport := 1, session := 0, txn := 9, cmd := 0x0301, quiet := false }

theorem met_NoticesAndCache :
    let s := { decl with hif := { decl.hif with ops := [opTok] } }
    let m := noticeMsg s opTok {}
    s.hif.ops.find? (fun t => t.ch == 0 && t.session == 0 && t.txn == 9) = some opTok ∧ opOpen s opTok = false ∧ sessionHolds s opTok = true ∧
    ((chan s 0).waiting = [] ∧ 4 ≤ rspFree (chan s 0)) ∧ rspFree (chan (chan0 s fun c => { c with rspPi := 61 }) 0) < 4 ∧
    (chan (chan0 s fun c => { c with waiting := [m] }) 0).waiting = [m] ∧
    (chan (chan0 s fun c => { c with challenge := some { priv := 0, bytes := [], at_ := 0 } }) 0).challenge = some { priv := 0, bytes := [], at_ := 0 } ∧ 0 + secs 10 ≤ 80000 := by decide

def hello (peer : Bool) : HsReq := { addr := [1], udp := 7, port := 1, peer := peer, chainOk := true, root := 0, cred := 3, ownerOk := true, priv := 4, expiry := 0xFFFFFFFF, share := [], nonce := [] }

/-- A handshake taken, its proof at the last instant and one instant too late, a channel to inherit. -/
theorem met_RemoteHandshake :
    (remoteServed decl = true ∧ rootGood decl 0 = true ∧ notExpired decl 0xFFFFFFFF = true ∧ lifecycle decl = 2 ∧ decl.hif.handshakes.length < 4 ∧
      (highestFree decl).isSome = true ∧ decl.hif.handshakes.length < freeSlots decl) ∧
    (let s := after (.remoteHandshakeRequest (hello false)) decl
     (s.hif.handshakes.find? fun x => x.sid == decl.hif.sidNext && x.addr == [1]).any (fun h => !h.peer && decide (16000 ≤ h.since + secs 2) && decide (h.since + secs 2 ≤ 16000)) = true ∧
       freeSlot s = some 24 ∧ remoteChannel s 3 = some (7, none)) ∧
    (let e : Ended := { cred := 3, ch := 5, lastId := 8, cache := [], at_ := 0 }
     remoteChannel { decl with hif := { decl.hif with ended := [e] } } 3 = some (5, some e)) := by decide

/-- A session on channel 7, last heard at instant 0, whose highest SEQ is 100. -/
def remote : State :=
  let s := { decl with hif := { decl.hif with remotes := [{ ch := 7, sid := 2, addr := [1], cred := 3, rxHi := 100, rxSeen := [100], txSeq := 0, last := 0, slots := [24], keys := ⟨[], [], [], []⟩ }] } }
  s.onChan 7 fun c => { c with owner := 3 }

theorem met_RemoteDatagrams : remote.hif.chans.length = 8 ∧
    (remote.hif.remotes.find? fun r => r.sid == 2).isSome = true ∧
    (let r := remote.hif.remotes.headD { ch := 0, sid := 0, addr := [], cred := 0, rxHi := 0, rxSeen := [], txSeq := 0, last := 0, slots := [], keys := ⟨[], [], [], []⟩ }
     r.ch < 8 ∧ (36#64).toNat + 64 ≤ r.rxHi ∧ r.rxHi < (37#64).toNat + 64 ∧ (37#64).toNat ∉ r.rxSeen ∧ (100#64).toNat ∈ r.rxSeen ∧
     ((chan remote r.ch).reqPi - (chan remote r.ch).reqCi).toNat + slotsOf 4096 ≤ 64 ∧ r.last + secs 900 ≤ 7200000) ∧
    (({ remote with now := 7200000 } : State).hif.remotes.find? fun r => r.sid == 2 && decide (r.last + secs 900 ≤ 7200000)).isSome = true ∧
    (let s := { remote with clk := { remote.clk with tick := 8000 * 946685000 }, eth := { remote.eth with servo := { remote.eth.servo with lock := 1 } } }
     notExpired s (chan s 7).credExpiry = false) := by decide

def ipFrag (off : Nat) (more : Bool) (n : Nat) : IpFrag := { key := 1, off := off, more := more, data := List.replicate n 0, body := { sid := 2, seq := 101, authOk := true, addr := [1], body := [] } }

theorem met_ReassemblyAndServicePort :
    (4124 < (ipFrag 4120 false 5).off + (ipFrag 4120 false 5).data.length) ∧ ((ipFrag 0 false 4).data.length ≤ 4124 ∧ decl.hif.reasms.length < 16) ∧
    ((ipFrag 4120 true 4).off + (ipFrag 4120 true 4).data.length ≤ 4124) ∧
    (let s := after (.ipFragment (ipFrag 8 true 8)) decl
     (s.hif.reasms.find? fun x => x.key == 1 && decide (x.since + secs 2 ≤ 16000)).isSome = true) ∧
    (ready decl = true ∧ decl.hif.chans.length = 8 ∧ highestFree decl = some 7) ∧
    (let s := { decl with hif := { decl.hif with usbUp := true } }
     let t := s.onChan 7 fun c => { c with owner := 4 }
     (chan t 7).owner = 4 ∧ t.hif.usbUp = true ∧ ((chan t 7).reqPi - (chan t 7).reqCi).toNat + slotsOf 4096 ≤ 64 ∧ (∀ m, m < 8 → (chan s m).owner ≠ 4)) := by decide

/-! Witnesses: metering and records -/

/-- A module that meters, at an instant and a tick. -/
def metering (now tick : Nat) : State := { city with
  now := now
  met := { city.met with running := true }
  clk := { city.clk with tick := tick } }

theorem met_EnergyRegistersLoseNothing : Reg.reset.rem = 0 ∧ (0 : Rat) < 1 ∧ setIndex (0x11#8).toNat = some 9 := by decide

theorem met_MetrologyCommands : (let s := { decl with met := { decl.met with sealOpen := true } }; s.met.sealOpen = true ∧ s.met.sealAt + 8000 * 3600 ≤ 28800000 ∧ 28799999 < s.met.sealAt + 8000 * 3600) ∧ decl.met.sealOpen = false := by decide

/-- The last strobe of a tick, a detector at its time-out, a good and a bad slot at 22.5 s, a phasor instant. -/
theorem met_SamplesAndCalibration :
    (18750 % 6250 = 0 ∧ 18750 < (metering 0 0).clk.stretchTcl) ∧
    (let s := { metering 0 0 with clk := { (metering 0 0).clk with tclk := 19975000 } }
     (s.met.zcs.getD 5 Zc.reset).lastSeen + 200000 * zcTimeoutMs s 5 ≤ s.clk.tclk + s.clk.stretchTcl) ∧
    ((nextSpare (metering 180000 0)).isSome = true ∧ (metering 180000 0).met.calSince + 180000 ≤ 180000 ∧ 2 < (metering 0 0).rcd.kitty.length) ∧
    (let m : CalMeas := { spOffset := 0, spGain := 1, usable1 := true, match1 := true, offset := 4194, gain := 1, usable2 := true, match2 := true }
     let c (n : Nat) : CalSlot := { ch := 3, spare := 40, own := 3, at_ := 180000, step := n, meas := m }
     calGood m.spOffset m.spGain = true ∧ calGood m.offset m.gain = true ∧ calGood 4195 1 = false ∧ (m.usable1 && m.match1 && m.match2) = true ∧
     (c 0).at_ + 8000 * 4 ≤ 212000 ∧ (c 1).at_ + 8000 * 6 ≤ 228000 ∧ (c 2).at_ + 8000 * 14 ≤ 292000 ∧ (c 3).at_ + 8000 * 16 ≤ 308000 ∧ 211999 < (c 0).at_ + 8000 * 4 ∧
     ({ city with met := { city.met with calSlot := some (c 2) } } : State).met.calSlot = some (c 2)) ∧
    (phasorM (metering 0 160)).isSome = true ∧ (metering 0 160).sys.mode = .declarer := by decide

/-- Windows at their full weight, the ticks of the alive mark and of the checkpoint, an interval's end. -/
theorem met_WindowsMarksAndIntervals :
    (let s := metering 0 0; windowFull { s with met := { s.met with winWeight := [40000000, 40000000] } } = true) ∧
    (metering 0 1500).clk.tick % 1000 = 500 ∧ ((metering 0 7999).clk.tick % 8000 = 7999 ∧ (metering 0 7999).met.ckpts.length = 2) ∧
    (let s := metering 0 7573478699296000
     s.clk.stretch = false ∧ s.clk.tick % 8000 = 0 ∧ utcNow { s with clk := { s.clk with tick := 8000 * (946684837 + 900) } } % 900 = 0 ∧ ∀ n ∈ lanternNodes s, refIndex n.node < 0xFF0000) := by decide

theorem met_RecordsReads : profOf (after (.intervalClose) (metering 0 (8000 * 946685737))) (setProfile 9) ≠ none ∧ objectSeat city 0x05000000 ≠ none ∧ (traceOf city 0 0).phase ≠ 3 := by decide

theorem met_StateReads : (cfgLoopOf city.cfg 0).isSome = true ∧ (stageRt city 0 3).isSome = true ∧ (nodeRec city 0x01000005).isSome = true ∧ assocOf city 0x01000005 = none := by decide

/-- A loop that the deal admits and one that no seat takes; capacities kept and passed. -/
theorem met_ConfigurationOfMeteringControlAndOutputs :
    admission city city.cfg = none ∧ (admission { city with rcd := { city.rcd with kitty := [{ Kind.reset with retired := [0, 1, 2, 3] }] } } city.cfg).isSome = true ∧
    (codedOn city.cfg 0 ≤ 512 ∧ nodesFit city.cfg = true) := by decide

set_option maxRecDepth 100000 in
theorem met_ConfigurationOfTimeSchedulesAndPair : groupsFit city.cfg = true ∧ sched.cfg.scheds.length = 1 ∧ 512 < ({ city.cfg with scheds := List.replicate 513 (sched.cfg.scheds.headD { sched := 0, group := 0, priority := 0, days := 0, lat := 0, lon := 0, dates := [], steps := [] }) } : Cfg).scheds.length ∧
    groupsFit { city.cfg with groups := List.replicate 9 (1, [0x01000005]) } = false ∧ (serving .commissioning).sys.arbTok = none ∧
    ((serving .commissioning).mapSys fun y => { y with arbTok := some (tokOf (serving .commissioning) (rq 0) 0x0104) }).sys.arbTok ≠ none := by decide

def store (k : StoreKind) (p : StorePurpose) (run : Bool) : Store := { kind := k, mj := 1080, purpose := p, tok := none, since := 0, running := run }

def stores (l : List Store) : State := { decl with now := 480001, pow := { decl.pow with stores := l } }

set_option maxRecDepth 100000 in
/-- A trigger of an earlier tick, a flush and a key store that complete, a store deferred a tick more than 60 s. -/
theorem met_FlushesAndStores :
    (let s := { decl with now := 1, rcd := { decl.rcd with flushTrig := some 0 } }
     s.rcd.flushTrig = some 0 ∧ 0 < s.now ∧ s.rcd.flushing = none ∧ flushAsked s = false) ∧
    (let s := stores [store .nand .flush true]
     firstRunning s .nand = some (store .nand .flush true) ∧ s.rcd.dropped = 0 ∧ s.rcd.flushNow = [] ∧ s.rcd.flushAgain = false ∧ s.rcd.flushToks = [] ∧ s.rcd.nand.length + s.rcd.ring.length ≤ 32768 * eventSegments s) ∧
    firstRunning (stores [store .nand (.records [(9, 1)]) true]) .nand = some (store .nand (.records [(9, 1)]) true) ∧ firstRunning (stores [store .nand .assocs true]) .nand = some (store .nand .assocs true) ∧
    (let s := stores [store .key (.key 1 aesKey) true]
     firstRunning s .key = some (store .key (.key 1 aesKey) true) ∧ 1 < s.sec.hands.length) ∧
    (let s := { stores [store .nand .assocs false] with pow := { (stores [store .nand .assocs false]).pow with seen12V := true } }
     ∃ x ∈ s.pow.stores, s.pow.seen12V = true ∧ x.running = false ∧ x.since + 8000 * 60 < s.now) ∧ decl.pow.seen12V = false := by decide

/-- Scrubs that fall due and one that does not, hits, retention figures at their limits. -/
theorem met_ScrubsRetireWhatFails :
    decl.rcd.scrubs.length = 4 ∧ scrubDue decl 0 64 = true ∧ scrubDue decl 1 86400 = true ∧ scrubDue decl 2 3600 = true ∧ scrubDue decl 3 86400 = true ∧ decl.rcd.kitty.length = 6 ∧
    scrubDue { decl with rcd := { decl.rcd with scrubs := [1, 0, 0, 0] }, clk := { decl.clk with tick := 8000 * 64 } } 0 64 = false ∧ decl.rcd.sramHits = [] ∧ decl.rcd.dramHits = [] ∧ decl.met.ckpts.length = 2 := by decide

/-! Witnesses: the control engine and the outputs -/

theorem met_DemandLoop : ∃ l ∈ city.cfg.loops, l.pvSrc = 0 ∧ setPointOf city l { LoopRt.reset with idx := 0, sp := some 10000 } = some 10000 := by decide

theorem met_LimitsAndTheLowCard : Bank.outMin { kp := 0, ki := 0, kd := 0, n1f := 0, n1q := 50, n2f := 0, n2q := 50, kff := 0, outMin := 0, outMax := 10000 } ≤ 10000 ∧ [({ u := 1, kind := 1, idx := 0 } : Candidate)] ≠ [] := by decide

def pend (t : Nat) (taken : Bool) : PendSwap := { group := 1, tok := opTok, tick := t, late := [], taken := taken }

theorem met_ControlCommands : swapPending city 1 = false ∧
    (let s := { city with ctl := { city.ctl with swaps := [pend 0 false] } }
     swapPending s 1 = true ∧ s.ctl.swaps.find? (fun x => x.group == 1 && !x.taken) = some (pend 0 false) ∧ (pend 0 false).tick ≤ s.clk.tick) ∧
    (∀ x ∈ [pend 0 true, pend 1 false], x.taken = true ∨ city.clk.tick < x.tick) ∧ city.ctl.traces.length = 4 ∧ (city.ctl.traces.getD 2 []).length = 8 := by decide

/-- An output excluded for exactly 16,000 ticks and for one less, a loop saturated for SAT_MS. -/
theorem met_ControlTicks :
    let o (n : Nat) : OutRt := { OutRt.reset with code := 3, exclTicks := n }
    let s (n : Nat) : State := { city with ctl := { city.ctl with outs := [o n] } }
    outRt (s 16000) 3 = some (o 16000) ∧ 16000 ≤ (o 16000).exclTicks ∧ (o 16000).safeRel = 0 ∧ (o 15999).exclTicks < 16000 ∧ city.clk.running = true ∧ State.reset.clk.running = false ∧
    (∃ l, cfgLoopOf city.cfg 0 = some l ∧ ∃ r ∈ city.ctl.loops, city.ctl.loops.find? (fun r => r.idx == 0) = some r ∧ satLimit l ≤ ({ r with satTicks := 100000 } : LoopRt).satTicks ∧ r.lflags.getLsbD 1 = false) := by
  refine ⟨by decide, by decide, by decide, by decide, by decide, by decide, city.cfg.loops.headD { idx := 0, kind := 0, output := 0, dEn := false, spHost := false, satAct := 0, pOnly := false, pvSrc := 0, ffSrc := 0, rampUp := 0, rampDn := 0, satMs := 0, group := 0, bankA := ⟨0, 0, 0, 0, 0, 0, 0, 0, 0, 0⟩, bankB := ⟨0, 0, 0, 0, 0, 0, 0, 0, 0, 0⟩, activeB := false }, by decide, by decide⟩

def goodPart : StagePart := { start := true, stat := 0, crc := 0 }

theorem met_ActuatorLinks :
    ((stageCfg city.cfg 0 3).any (frameSent city) = true ∧ (stageRt city 0 3).any (fun x => x.sent == none) = true) ∧
    (let s := after (.actuatorSlot 0 3) city
     (stageRt s 0 3).any (fun x => x.sent == some s.clk.tick && x.sentAt == some s.now) = true) ∧
    ((List.range 16).any fun n => replyGood { goodPart with crc := BitVec.ofNat 4 n }) = true ∧ ((List.range 16).any fun n => !replyGood { goodPart with crc := BitVec.ofNat 4 n }) = true ∧
    (let y : StageStore := { safe := 0, phase := 2, runs := 2, sentTick := 0, tok := some opTok }
     y.phase = 2 ∧ y.sentTick + 32 ≤ 32 ∧ y.runs < 3 ∧ y.tok ≠ none ∧ 3 ≤ ({ y with runs := 3 } : StageStore).runs ∧ ({ y with tok := none } : StageStore).tok = none) := by decide

theorem met_ContactorCommands : decl.outs.contactors.length = 8 ∧ (contactorOf decl 7).on = false ∧
    (contactorOf (decl.onContactor 7 fun c => { c with on := true, trips := 7 }) 7).on = true ∧ (contactorOf (decl.onContactor 7 fun c => { c with on := true, trips := 7 }) 7).trips + 1 = 8 := by decide

theorem met_StringsAndTheAdaptiveSupply : decl.outs.strings.length = 16 ∧ (∃ n, n < 16 ∧ (stringDrive city n).isSome = true ∧ (stringRt city n).tableOk = true) ∧ (stringDrive decl 15 = none ∨ (stringRt decl 15).tableMa = 0) ∧
    (stringCfg city 0).any (fun c => decide (0 + probeTicks c ≤ 8000 * 3600)) = true ∧ (stringRt (city.onString 0 fun x => { x with lowSince := some 0 }) 0).lowSince = some 0 ∧
    (2 * 174 < 350 ∧ 350 ≤ 2 * 175) ∧ ((stringCfg city 0).isSome = true ∧ (stringCfg city 1).isSome = true ∧ 3600 ≤ (city.mapOuts fun o => { o with adjRound := 3600 }).outs.adjRound) := by decide

theorem met_ChainsSensorsAndTests : ((pairIn .dummy).sys.mode = .dummy ∧ State.reset.sys.inReset = true ∧ city.sys.mode = .declarer ∧ city.pow.drawing = true ∧ city.sys.inReset = false ∧ isDealer city = false) ∧ city.outs.chains.length = 2 ∧ (city.clk.tick % 160 = 0 ∧ isDealer city = false ∧ expectOf city 1 = 0 ∧ 0 < expectOf city 0 ∧ (chainRt city 0).enum = none ∧ (chainRt city 1).enum = none ∧ city.outs.chainStores = []) ∧
    (chainRt (after .sifichainFrame city) 0).sent = true ∧ 159 % 160 ≠ 0 ∧ ({ city with outs := { city.outs with busFree := false } } : State).outs.busFree = false ∧
    maySink cityComm = true ∧ maySink (pairIn .commissioning) = true ∧ maySink ((pairIn .commissioning).mapPair fun p => { p with roleOneAt := some 0 }) = false := by decide

/-! Witnesses: the mesh and the peers -/

def frame (octets : Nat) (fc : U16) (fcsOk mic : Bool) : LernasFrame where
  port := 1
  octets := octets
  fcsType1 := false
  fcsOk := fcsOk
  fc := fc
  seq := 0
  dst := 0
  src := 1
  secFc := 1
  keyId := 1
  origin := 1
  final := 0
  hopsB := 0
  path := []
  tag := 0
  index := 0
  count := 0
  payload := []
  micOk := mic
  rssi := -60

/-- The module with its network key and a wave along the sensor 9. -/
def keyed : State := { city with
  sec := { city.sec with hands := city.sec.hands.set 1 (some aesKey) }
  cfg := { city.cfg with waves := [{ wave := 0, level := 0, kinds := 6, lead := 0, hold := 0, fadeUp := 0, fadeDn := 0, reach := 0, back := 0, vDef := 0, sensors := [(0x02000009, 0)], lanterns := [] }] } }

def presence (t : U64) : Presence := { node := 0x02000009, kind := 1, speed := 0, pos := 0, tick := t }

/-- One octet too few, a bad FCS, a reserved type, a bad MIC, each with the other checks met. -/
theorem met_LernasFramesReceived : radioHears city = true ∧ radioHears (serving .dummy) = true ∧
    ((frame 11 0 true true).octets ≤ portPsdu 1 ∧ (frame 11 0 true true).octets < 12) ∧
    (12 ≤ (frame 12 0 false true).octets ∧ (frame 12 0 false true).fcsOk = false) ∧
    (12 ≤ (frame 40 15 true true).octets ∧ (frame 40 15 true true).fcsOk = true ∧ formCause (frame 40 15 true true) = some 8) ∧
    (3 < (15#16).toNat % 8 ∧ ((0x200#16).toNat % 8 ≤ 3 ∧ (0x200#16).extractLsb' 9 2 ≠ 0) ∧ ((8#16).toNat % 8 ≤ 3 ∧ (8#16).extractLsb' 9 2 = 0 ∧ addrReserved 0xFFFD = true)) ∧
    (formCause (frame 40 8 true false) = none ∧ (frame 40 8 true false).dst = 0 ∧ (frame 40 8 true false).fc.toNat % 8 ≠ 1 ∧ (frame 40 8 true false).micOk = false) ∧
    (100 < 101 ∧ 36 + 64 ≤ 100 ∧ 37 ≤ 100 ∧ 100 < 37 + 64 ∧ (0x8000000000000001#64).getLsbD (100 - 37) = true ∧ (1#64).getLsbD (100 - 37) = false) ∧
    ((nodeRec city 0x01000005).isSome = true ∧ city.mesh.safeToks = [] ∧ city.cfg.peers = none) ∧
    (let s := { keyed with clk := { keyed.clk with tick := 80002 } }
     s.sys.mode = .declarer ∧ ((presence 1).tick ≠ 0 ∧ (presence 1).tick.toNat + 80000 < s.clk.tick) ∧ (presence 0).tick = 0 ∧ ∃ w ∈ s.cfg.waves, ∃ e ∈ w.sensors, e.1 = (presence 0).node) ∧
    ((presence 40).tick.toNat ≤ city.clk.tick + 40 ∧ city.cfg.waves = []) := by decide

def link : ConnParams := { anchor := 0, map := 0xFFFF, seed := 0, interval := 100, timeout := 10, latency := 1, rate := 0, txp := 10, psca := 30 }

def child : Assoc where
  node := 0x01000005
  short := 1
  nstate := 2
  port := 2
  hops := 1
  parent := 0
  level := 0
  ackRound := 0
  rssi := -60
  lastTick := 0
  heard := 0
  params := link
  next := none
  evCount := 0
  nbrs := []
  floors := []
  window := 0
  csca := 30
  maxPsdu := 127
  maxChild := 0
  leaving := false
  removeRec := false
  nflags := 0

def held (n m : Nat) : TxFrame := { node := 0x01000005, msg := 6, payload := [], cls := 2, seq := 1, inEvent := n, total := m, waiting := true, frag := none, origin := 0, ctrl := true }

/-- The module with the lantern 5 as its child and a frame held for it. -/
def linked (now tick : Nat) (f : TxFrame) : State := { keyed with
  now := now
  clk := { keyed.clk with tick := tick }
  mesh := { keyed.mesh with assocs := [child], txq := [f] } }

def join : JoinReq := { eui := List.replicate 8 1, home := 0, typ := 500, cap := 4, csca := 30, maxPsdu := 127, maxChild := 4, port := 1, via := 0, counter := 0, rssi := -60 }

theorem met_ConnectionsAndJoining : radioSends city = true ∧ radioSends (serving .dummy) = false ∧
    (let s := linked 0 1000 (held 0 0)
     assocOf s 0x01000005 = some child ∧ child.parent = 0 ∧ eventNow s link = some 1 ∧ listens link 1 = false ∧ child.next = none) ∧
    (eventNow (linked 0 2000 (held 0 0)) link = some 2 ∧ listens link 2 = true) ∧
    (child.heard + 80 * link.timeout ≤ 800 ∧ child.leaving = false) ∧
    ((framesFor (linked 0 0 (held 3 7)) 0x01000005).find? (fun f => f.waiting) = some (held 3 7) ∧ 3 ≤ (held 3 7).inEvent ∧ (held 3 7).msg ≠ 0 ∧ (held 3 7).total < 8 ∧
      (framesFor (linked 0 0 (held 3 8)) 0x01000005).find? (fun f => f.waiting) = some (held 3 8) ∧ 8 ≤ (held 3 8).total ∧ (held 3 8).msg ∉ [4, 5, 7, 0x10, 0x14, 0x17] ∧ (held 3 8).origin = 0 ∧ ({ held 3 8 with msg := 7 } : TxFrame).msg ∈ [4, 5, 7] ∧ ({ held 3 8 with msg := 0x10 } : TxFrame).msg = 0x10) ∧
    (let s := linked 0 4000 (held 0 0)
     s.clk.tick % 8000 = 4000 ∧ (2, s.clk.tick) ∉ s.mesh.beaconSent ∧ (netGen s).isSome = true ∧ s.mesh.secFc < 0xFFFFFFFF ∧ mayStart s 2 15 1 (beaconUs 2) = true) ∧
    (let s := { keyed with sys := { keyed.sys with mode := .standby } }
     s.clk.tick / 8000 % 16 = 0 ∧ s.mesh.standbySent ≠ some (s.clk.tick / 8000) ∧ (netGen s).isSome = true ∧ mayStart s 1 32 1 (beaconUs 1) = true) ∧
    ((joiningNode city join).any (fun n => joinAllowed city join n 0) = true ∧ join.via = 0 ∧ joiningNode city { join with home := 1 } = none) ∧
    city.pow.stores = [] ∧ city.mesh.safeToks = [] ∧ city.mesh.suitDue = [] ∧ (workLost city 2 = false ∧ workLost city 3 = false) ∧ (∀ n ∈ allNodes city, lanternUp city n = false) := by decide

def peer (up : Bool) (hs : Option Nat) (un : List (Nat × Nat)) : PeerSess := { newPeer 7 [] with up := up, hsSince := hs, sid := 1, outs := if un.isEmpty then [] else [{ seg := 7, version := 1, items := [], unacked := un }] }

def peering (p : PeerSess) (now : Nat) : State := { peered with
  now := now
  mesh := { peered.mesh with peers := [p], version := 2 } }

def part (o : List Byte) : ReplicaPart := { sess := 1, seg := 9, owner := o, version := 1, part := 0, count := 2, addr := [], items := [] }

set_option maxRecDepth 100000 in
theorem met_PeerSeatsAndAdoption : adoptFits peered 7 (adoptsWaiting peered 7) = true ∧
    adoptFits { peered with mesh := { peered.mesh with adopted := List.replicate 2049 ((city.cfg.nodes.head?).getD { node := 0, eui := [], typ := 0, feeder := 0, port := 0, cls := 0, sleepy := false, origin := 1, home := 0, short := none, joinPort := 0, prefer := 0, beacons := [] }) } } 7 [] = false ∧
    (let p := peer false (some 0) []
     let s := peering p 16000
     peerOf s 7 = some p ∧ s.now ≤ 0 + 16000 ∧ freeSlot s = some 24 ∧ s.mesh.restore = false ∧ s.upd.relay = none) ∧
    (let p := { peer true none [] with sentAt := 1, sentVer := 2 }
     peerOf (peering p 28800000) 7 = some p ∧ peersRun (peering p 0) = true ∧ p.sentVer = (peering p 0).mesh.version ∧ 28800000 < p.sentAt + 8000 * 3600) ∧
    (let p := peer true none [(0, 0)]
     let s := peering p 40000
     (∀ x ∈ s.mesh.peers ++ s.mesh.inbound, x.silent = false) ∧ p.up = true ∧ p.sentVer ≠ s.mesh.version ∧ sessionsWith s 7 = [p] ∧ p.outs = [{ seg := 7, version := 1, items := [], unacked := [(0, 0)] }] ∧ 0 + 40000 ≤ s.now ∧ (∀ o ∈ p.outs, ∀ u ∈ o.unacked, (peering p 39999).now < u.2 + 40000) ∧
     sessOf s 1 = some p ∧ p.silent = false ∧ (s.mesh.peers ++ s.mesh.inbound).find? (fun q => q.up && q.seg == p.seg) = some p ∧ (peering p 480000).mesh.inbound = [] ∧ p.lastTx + 480000 ≤ 480000 ∧ p.lastRx + 2400000 ≤ 2400000 ∧
     (part [1]).owner ≠ ownerIdOf s ∧ (part (ownerIdOf s)).owner = ownerIdOf s ∧ knownVersion s 9 = none) ∧
    (let s := { peering (peer true none []) 0 with mesh := { (peering (peer true none []) 0).mesh with replicas := [{ replica with owner := ownerIdOf peered }] } }
     replicaOf s 7 = some { replica with owner := ownerIdOf peered } ∧ (7#32) ≠ 0) := by decide
/-! Witnesses: schedules and the real-time clock -/

/-- A module with contactor group `k` only. -/
def contactors (k : Nat) (o : List Override) : State := { decl with
  cfg := { decl.cfg with groups := [(0xF008 + k, [])] }
  sch := { decl.sch with overrides := o } }

def ovr (k : Nat) : Override := { group := 0xF008 + k, level := 0, fade := 0, start := 0, remaining := none, stop := none }

def wave1 : Wave := { wave := 2, level := 8000, kinds := 6, lead := 20, hold := 300, fadeUp := 10, fadeDn := 10, reach := 50000, back := 0, vDef := 300, sensors := [], lanterns := [(0x01000005, 50000)] }

/-- R361 on a road user at 10 m/s, 50 m before the lantern: it arrives 5 s on, so LEAD and FADE_UP of 3 s put the term at round 2. -/
theorem met_LevelsOverridesAndTraffic :
    (let e := 1
     let arr : Rat := mkRat 0 8000 + mkRat (36 * (50000 - 0)) (1000 * 360)
     max (arr - mkRat wave1.lead 10 - mkRat wave1.fadeUp 10).floor.toNat e = 2 ∧ (arr + mkRat wave1.hold 10).ceil.toNat = 35) ∧
    waveSource 0xFF000002 = some wave1.wave ∧ wave1.kinds.testBit 1 = true ∧ (1#8).getLsbD 7 = false ∧ ((0 : Int) ≤ 50000 ∧ (50000 : Int) - 0 ≤ wave1.reach) ∧ ([] : List WaveTerm) = city.sch.terms ∧
    (7999 % 8000 ≠ 0 ∧ decl.clk.stretch = false) ∧
    (let s := (contactors 7 []).mapEth fun e => { e with servo := { e.servo with lock := 2 } }
     s.sys.mode = .declarer ∧ s.clk.tick % 8000 = 0 ∧ s.eth.servo.lock ≠ 0 ∧ s.cfg.groups = [(0xF008 + 7, [])] ∧ s.cfg.scheds = [] ∧ s.sch.overrides = [] ∧ (contactorOf s 7).want = false) ∧
    (let s := contactors 0 [ovr 0]
     s.eth.servo.lock = 0 ∧ s.sch.overrides = [ovr 0] ∧ (ovr 0).start ≤ s.clk.tick / 8000 ∧ (contactorOf s 0).want = false) := ⟨by decide +kernel, by decide⟩

def clock (u : Nat) : State := { decl with rtc := { decl.rtc with invalid := false, time := fieldsOfUtc u } }

def locked (tick : Nat) : State := { clock 946684837 with
  clk := { decl.clk with tick := tick }
  eth := { decl.eth with servo := { decl.eth.servo with lock := 2, lockBroken := false } } }

set_option maxRecDepth 100000 in
theorem met_RealTimeClock : decl.eth.servo.lock ≠ 2 ∧ (locked 0).eth.servo.lock = 2 ∧ decl.rtc.settings.length = 2 ∧
    (rtcInvalid (clock 6311433598) = false ∧ utcOfFields (clock 6311433598).rtc.time < 6311433599 ∧ utcOfFields (clock 6311433599).rtc.time = 6311433599 ∧ rtcInvalid (clock 6311433599) = false) ∧
    (decl.rtc.hits.length = 2 ∧ decl.rtc.alarms.length = 2 ∧ decl.rtc.frozen = false) ∧
    ((0x18#8).toNat ≤ 0x18 ∧ (0x18#8).toNat % 4 = 0 ∧ (0x00#8).toNat = 0 ∧ 0x38 ≤ (0x38#8).toNat) ∧
    (let s := locked 28800000
     s.eth.servo.lock = 2 ∧ s.clk.tick % 28800000 = 0 ∧ s.eth.servo.lockBroken = false ∧ s.sys.mode ≠ .standby ∧ s.rtc.rewriteDue = none) ∧
    (let s := { locked 8000 with rtc := { decl.rtc with rewriteDue := some 1 } }
     s.rtc.rewriteDue = some 1 ∧ 1 ≤ s.clk.tick / 8000 ∧ s.clk.tick % 8000 = 0 ∧ (locked 0).clk.tick / 8000 < 1) ∧
    (let s := (locked 7573478704000).mapEth fun e => { e with leap := 1, leapAt := 1 }
     s.clk.tick % 8000 = 0 ∧ s.eth.leap = 1 ∧ utcNow s = Int.ofNat s.eth.leapAt) ∧
    (let s := (locked 7573478704000).mapEth fun e => { e with leap := 2, leapAt := 2 }
     s.clk.tick % 8000 = 0 ∧ s.eth.leap = 2 ∧ utcNow s = Int.ofNat s.eth.leapAt - 1) ∧
    (decl.pow.vinGood = true ∧ decl.clk.tick / 8000 % 86400 = 0 ∧ decl.alarmOn 0x010B 0 = false) := by decide
/-! Witnesses: Ethernet and network time -/

/-- The bridge runs, every port is in PTP, P1 and P2 hold no frames. -/
def net : State := { decl with
  cfg := { decl.cfg with
    ports := [{ speed := 0, maxf := 1522, pflags := 0x1F }, { speed := 3, maxf := 1522, pflags := 0x1F }, { speed := 3, maxf := 2000, pflags := 0x3 }]
    ptp := { decl.cfg.ptp with ports := 7 } }
  eth := { decl.eth with refs := [{ epoch := 0, full := 0x180000000, ctr := 0x80000000 }] } }

def eframe (n : Nat) (d : Byte) (ok room : Bool) : EthFrame :=
  { port := 1, bytes := (List.replicate 5 0x02 ++ [d] ++ List.replicate 6 0x04 ++ [0x08, 0x00]).take n ++ List.replicate (n - 14) 0, fcsOk := ok, udpPort := 0, joined := false, room := room }

/-- The address of the module in these tests. -/
def mac : List Byte := [2, 2, 2, 2, 2, 2]

def netM (b : List BridgeEntry) : State := { net with eth := { net.eth with mac := mac, bridge := b } }

def pauseIn (p : Nat → Port → Port) : State := { net with eth := { net.eth with ports := [p 1 (ethPort net 1), ethPort net 2, ethPort net 3] } }

set_option maxRecDepth 100000 in
theorem met_FramesPausesAndTells : ethUp net = true ∧ ethUp (serving .boot) = false ∧ pflag net 1 0 = true ∧ pflag net 3 2 = false ∧
    ((eframe 13 7 true true).bytes.length < 14 ∧ 14 ≤ (eframe 63 7 true true).bytes.length ∧ (eframe 63 7 true true).bytes.length ≤ 63 ∧ 1522 < (eframe 1523 7 true true).bytes.length ∧ (eframe 64 7 false true).fcsOk = false ∧
      neverForwarded (netM []) (eframe 63 2 true true) = true ∧ toModule (netM []) (eframe 63 2 true true) = true ∧ toModule net { eframe 63 7 true true with port := 3 } = false ∧ bridged net 3 = false) ∧
    (let f := eframe 64 7 true true
     64 ≤ f.bytes.length ∧ f.bytes.length ≤ 1522 ∧ etherType f.bytes = 0x0800 ∧ toModule (netM []) f = false ∧ bridged (netM []) 1 = true ∧ neverForwarded (netM []) f = false ∧ cut f.bytes 6 6 ≠ f.bytes.take 6 ∧
       (ethPort (netM []) 2).pauseUntil = none ∧ (netM [{ mac := f.bytes.take 6, port := 1, seen := 0 }]).now = 0 ∧ (eframe 64 2 true true).bytes.take 6 = mac) ∧
    (pflag net 1 3 = true ∧ pflag net 1 1 = true ∧ net.eth.ports.length = 3 ∧ (ethPort net 1).pauseIgnore ≤ 0 ∧ (ethPort net 1).held = [] ∧ (ethPort net 1).pauseUntil = none) ∧
    (let s := pauseIn fun _ p => { p with pauseUntil := some 5, held := [(2, [])] }
     (ethPort s 1).pauseUntil = some 5 ∧ 5 * (s.clk.tclk + 0) < 5 ∧ 5 ≤ 5 * (s.clk.tclk + 1) ∧ (ethPort s 1).held = [(2, [])] ∧ (ethPort s 1).ptpHeld = [] ∧ gateShut s 1 0 = false ∧ s.eth.ports.length = 3) ∧
    (let s := pauseIn fun _ p => { p with pauseUntil := some 600000000, held := [] }
     pauseWatchNs s 1 ≤ (ethPort s 1).wdAcc + (5 * (s.clk.tclk + 100000000) - (ethPort s 1).pauseSince)) ∧
    (pflag net 1 2 = true ∧ (portCfg net 1).speed ≠ 1 ∧ (ethPort net 1).verifyTries < 3 ∧ 3 ≤ ({ ethPort net 1 with verifyTries := 3 } : Port).verifyTries) ∧
    (let s := { serving .standby with cfg := { net.cfg with tells := [{ enable := true, check := 0x29B1, mask := [0xFF, 0x01] }] } }
     s.sys.mode = .standby ∧ matchingTell s [0x31, 0x32, 0x33, 0x34, 0x35, 0x36, 0x37, 0x38, 0x39] = some 0 ∧ s.sys.nextReset = none ∧ matchingTell s [0x31] = none) := by decide

def msg (t : Nat) (two : Bool) : PtpMsg := { port := 1, version := 2, domain := 0, source := 9, seqId := 3, twoStep := two, t := t, corr := 0, rx := 0x80000000, rxEpoch := 0 }

def slaved (v : Servo → Servo) (p : PtpPort → PtpPort) : State := { net with eth := { net.eth with
  best := some (1, 9)
  servo := v { net.eth.servo with delays := [0] }
  ptp := [p PtpPort.reset, PtpPort.reset, PtpPort.reset] } }

def announce : Announce := { port := 1, version := 2, domain := 0, source := 9, gm := 9, prio1 := 128, cls := 6, acc := 0x21, variance := 0, prio2 := 128, steps := 0, p2p := false, intervalMs := 1000, utcOffset := 37, utcValid := true, leap := 0 }

def master (steps sent : Nat) : State :=
  let s := slaved id fun p => { p with isMaster := true, sent := sent }
  { s with now := 8000, cfg := { s.cfg with ptp := { s.cfg.ptp with clock := 1, steps := steps } } }

theorem met_NetworkTime :
    (net.eth.refs = [{ epoch := 0, full := 0x180000000, ctr := 0x80000000 }] ∧ (0x80000000#32) = BitVec.ofNat 32 0x180000000 ∧ extendTs net 0x80000000 0 = some 0x180000000) ∧
    ptpTaken net (msg 0 false) = true ∧ ptpTaken net { msg 0 false with version := 1 } = false ∧
    (let s := slaved id id
     s.eth.best = some (1, 9) ∧ s.eth.servo.delays = [0] ∧ s.eth.servo.lock ≠ 2 ∧ s.eth.ptp.length = 3 ∧ (0x180000000 - (0x180000000 - 1000000 : Int)).natAbs ≤ 1000000) ∧
    (let s := slaved (fun v => { v with lock := 2, fresh := false, offset := 0, raw := [] }) id
     s.eth.servo.lock = 2 ∧ s.eth.servo.fresh = false ∧ 100000 < ((100001 : Int) - s.eth.servo.offset).natAbs ∧ s.eth.servo.raw = []) ∧
    (let s := slaved (fun v => { v with big := 2, bigs := [1000001, 1100001] }) id
     s.eth.servo.lock ≠ 2 ∧ s.eth.servo.big = 2 ∧ s.eth.servo.bigs = [1000001, 1100001] ∧ spread [1000001, 1000001, 1100001] ≤ 100000 ∧ s.clk.tick % 8000 ≠ 7999) ∧
    (let s := slaved (fun v => { v with delays := [] }) fun p => { p with sync := some (3, 5, 0) }
     (ptpPort s 1).sync = some (3, 5, 0) ∧ s.eth.servo.delays = [] ∧ 3 ≠ (4 : Nat)) ∧
    ((ptpPort net 1).isMaster = false ∧ (ptpPort (master 1 1) 1).isMaster = true ∧ (master 1 1).cfg.ptp.clock = 1 ∧ ptpTaken (master 1 1) (msg 0 false) = true) ∧
    (let s := slaved id fun p => { p with dreq := some 3, t21 := some 7 }
     (ptpPort s 1).dreq = some 3 ∧ (ptpPort s 1).p2p = false ∧ (ptpPort s 1).t21 = some 7 ∧ (ethPort s 1).tsq = [] ∧ (ptpPort s 1).reqTx = none ∧ ({ ptpPort s 1 with reqTx := some (3, 5) } : PtpPort).reqTx = some (3, 5)) ∧
    (let s := slaved id fun p => { p with dreq := some 3, p2p := true, pdelay := some (3, 1, 2, 3), reqTx := some (3, 1) }
     (ptpPort s 1).p2p = true ∧ (ptpPort s 1).reqTx = some (3, 1) ∧ (ethPort s 1).tsq = [] ∧ (ptpPort s 1).pdelay = some (3, 1, 2, 3)) ∧
    (ptpRuns net announce.port = true ∧ announce.domain = net.cfg.ptp.domain ∧ net.eth.ptp.length = 3 ∧ (∀ p ∈ net.eth.ptp, p.master = none) ∧ net.cfg.ptp.clock = 0 ∧ net.cfg.tai = none ∧ net.eth.best.map Prod.snd ≠ some announce.source) ∧
    (let s := slaved id fun p => { p with master := some 9, annMs := 1000 }
     (ptpPort s 1).master.isSome = true ∧ (ptpPort { s with now := 24000 } 1).annAt + 24 * (ptpPort s 1).annMs ≤ 24000 ∧ 23999 < (ptpPort s 1).annAt + 24 * (ptpPort s 1).annMs ∧ (ptpPort s 2).master = none ∧ (ptpPort s 3).master = none) ∧
    (let s := master 1 1
     (ethPort s 1).pauseUntil = none ∧ gateShut s 1 128 = false ∧ ptpRuns s 1 = true ∧ (ethPort s 1).tsq = [] ∧ (ptpPort s 1).sent ≠ 0 ∧ s.now < (ptpPort s 1).sent + 8000 ∧ s.cfg.ptp.steps = 1 ∧ (ptpPort (master 2 0) 1).sent + 8000 ≤ (master 2 0).now ∧ (master 2 0).cfg.ptp.steps = 2) ∧
    (let s := slaved (fun v => { v with lock := 2, accAt := 0 }) id
     s.eth.servo.lock = 2 ∧ s.eth.servo.accAt + 32000 ≤ 32000 ∧ 31999 < s.eth.servo.accAt + 32000) := by
  and_intros <;> decide
/-! Witnesses: the pair -/

/-- The upper module in DUMMY with its partner silent and its mains good; `f` sets the rest. -/
def shadow (f : Pair → Pair) : State := (pairIn .dummy).mapPair fun p => f { p with hbLost := true, wordsLost := true, p3Silent := true }

def withDealer (s : State) : State := { s with cfg := { s.cfg with dealer := 1 } }

/-- The declarer of a pair whose partner is its dummy. -/
def leading (f : Pair → Pair) : State := (pairIn .declarer).mapPair fun p => f { p with partnerRole := 2, cfgMatch := true, wordsLost := false, hbLost := false }

def asDealer : State := let s := serving .declarer; { s with sys := { s.sys with straps := 0b00 } }

def pos0 : DealerPos := { last := none, role := 0, outOk := false, granted := none, demoting := false }

theorem met_BidLinkDealerAndTakeover : bidState (serving .quarantine) = false ∧
    (let s := { pairIn .dummy with clk := { (pairIn .dummy).clk with releaseMet := true, dealConfirmed := true } }
     bidState s = true ∧ isDealer s = false ∧ s.clk.releaseMet = true ∧ s.clk.dealConfirmed = true) ∧ decl.clk.dealConfirmed = false ∧
    (let s := (pairIn .dummy).mapPair fun p => { p with hbLost := false, wordsLost := false, p3Silent := false, lastEdge := 10, lastWord := 10 }
     watches s = true ∧ s.pair.lastEdge + 4800 ≤ s.clk.tclk + 4810 ∧ s.clk.tclk + 4809 < s.pair.lastEdge + 4800 ∧ s.pair.lastWord + 4800 ≤ s.clk.tclk + 4810 ∧ s.pair.p3Silent = false) ∧
    paired (pairIn .declarer) = true ∧
    (let s := shadow id
     watches s = true ∧ s.sys.failSilent = false ∧ s.pair.deferTakeover = false ∧ bothLost s = true ∧ dealerAlive s = false ∧ takeoverCond s = true ∧ s.pow.mainsOk = true ∧ nextEpoch s ≤ 0xFFFFFF ∧ s.sys.nextMode = none) ∧
    takeoverCond (shadow fun p => { p with p3Silent := false, frameTick := some 0 }) = false ∧
    ({ shadow id with pow := { (shadow id).pow with mainsOk := false } } : State).pow.mainsOk = false ∧ 1 ∉ (shadow id).pair.refusedCauses ∧
    (let s := withDealer (shadow fun p => { p with dlrLost := false, dlrReq := false })
     bidState s = true ∧ dealerAlive s = true ∧ s.pair.dlrReq = false ∧ hasDealer s = true ∧ s.pair.dlrLost = false) ∧
    (let s := withDealer (shadow fun p => { p with dlrReq := true, dlrLost := true })
     s.pair.dlrReq = true ∧ hasDealer s = true ∧ bothLost s = true ∧ s.pair.dlrLost = true ∧ nextEpoch s ≤ 0xFFFFFF) ∧
    (let s := withDealer ((pairIn .boot).mapPair fun p => { p with dlrReq := true })
     s.sys.mode = .boot ∧ bidState s = true ∧ hasDealer s = true) ∧
    (let s := (withDealer (pairIn .declarer)).mapPair fun p => { p with partnerClaim := 0xFFFFFFFF, partnerRole := 1 }
     hasDealer s = true ∧ s.pair.claim.toNat < s.pair.partnerClaim.toNat ∧ s.pair.wordsLost = false ∧ s.sys.nextMode = none) ∧
    (let s := (pairIn .declarer).mapPair fun p => { p with claim := 0x101, partnerClaim := 0x100, partnerRole := 2 }
     let t := { s with outs := { s.outs with stages := [{ StageRt.reset with outbid := true, outbidTick := some 0 }] } }
     (∃ x ∈ t.outs.stages, x.outbid = true ∧ x.outbidTick = some 0) ∧ t.now ≤ 0 + t.clk.ticksInRound ∧ t.pair.partnerClaim.toNat < t.pair.claim.toNat ∧ t.pair.wordsLost = false ∧ t.pair.partnerRole = 2) ∧
    (let s := { decl with sys := { decl.sys with mode := .failLit } }
     let u := (pairIn .failLit).mapPair fun p => { p with hbLost := true, wordsLost := true, p3Silent := true }
     let v := (pairIn .quarantine).mapPair fun p => { p with hbLost := true, wordsLost := true, p3Silent := false, frameTick := some 0 }
     watches s = false ∧ (watches u = true ∧ u.sys.mode = .failLit ∧ u.sys.failSilent = false ∧ u.pair.deferTakeover = false ∧ bothLost u = true ∧ dealerAlive u = false ∧ takeoverCond u = true ∧ u.pow.mainsOk = true ∧ 3 ∉ u.pair.refusedCauses) ∧
       watches v = true ∧ v.sys.mode = .quarantine ∧ bothLost v = true ∧ dealerAlive v = false ∧ takeoverCond v = false) ∧
    (let s := { asDealer with pair := { asDealer.pair with dlrWords := [pos0, { pos0 with last := some 0, role := 1, outOk := true }] } }
     isDealer s = true ∧ s.sys.mode = .declarer ∧ pos0.demoting = false ∧ pos0.granted = none ∧ pos0.last = none ∧ s.clk.tclk + 4799 < 0 + 4800) := by
  and_intros <;> decide

def tickFrame : TickState := { ct := 0, claim := 5, tick := 0, epoch := 0, stageLive := 0, digest := 0, caps := [], outs := [], loops := [] }

def roundFrame (swap : Bool) (part count : Nat) (l : List Section) : RoundData := { swap := swap, full := false, round := 0, part := part, count := count, claim := 5, sections := l }

def msgNode : List Byte := requestBytes (.nodeLevel (rq 16) { node := 0x01000005, level := 5000, fade := 0, atTick := 0 })

set_option maxRecDepth 100000 in
theorem met_PairStateTransferAndSwaps :
    (let s := leading id
     s.pair.swapRound = none ∧ s.pair.swapRan = false ∧ 42 ≤ (portCfg s 3).maxf ∧ paired s = true ∧ s.pair.wordsLost = false ∧ s.pair.partnerRole = 2 ∧ s.pair.cfgMatch = true ∧ accepts s (rq 0) { cmd := 0x0802, len := 0 } = true) ∧
    (pairIn .declarer).pair.partnerRole ≠ 2 ∧ (leading fun p => { p with swapRound := some 4 }).pair.swapRound = some 4 ∧ (leading fun p => { p with swapRan := true }).pair.swapRan = true ∧ decl.pair.autoTicks < 16 ∧
    (let s := { leading (fun p => { p with autoTicks := 16 }) with cfg := city.cfg }
     s.sys.mode = .declarer ∧ s.cfg.stages ≠ [] ∧ 16 ≤ s.pair.autoTicks ∧ s.pair.hbLost = false ∧ s.pair.swapRound = none ∧ s.pair.swapRan = false ∧ paired s = true ∧ s.pair.wordsLost = false ∧ s.pair.partnerRole = 2 ∧ s.pair.cfgMatch = true) ∧ 7998 % 8000 ≠ 7999 ∧
    (let s := { leading (fun p => { p with swapRound := some 0, swapAck := true, wordsLost := false }) with clk := { decl.clk with tick := 7999 } }
     s.clk.tick % 8000 = 7999 ∧ s.sys.nextMode = none ∧ s.pair.swapRound = some (s.clk.tick / 8000) ∧ s.pair.swapAck = true ∧ s.pair.wordsLost = false) ∧
    (let s := leading fun p => { p with swapRound := some 0, swapAck := false, swapHasTok := false, swapInstall := false }
     s.pair.swapAck = false ∧ s.pair.swapHasTok = false ∧ s.pair.swapInstall = false) ∧
    (let s := { shadow (fun p => { p with swapDummy := some 0, cfgMatch := true }) with clk := { decl.clk with tick := 7999 } }
     s.sys.mode = .dummy ∧ s.pair.swapDummy = some (s.clk.tick / 8000) ∧ s.pair.cfgMatch = true ∧ nextEpoch s ≤ 0xFFFFFF) ∧
    (let s := leading fun p => { p with replays := [(0, [1])] }
     paired s = true ∧ s.sys.failSilent = false ∧ s.clk.running = true ∧ workLost s 1 = false ∧ (ethPort s 3).held = [] ∧ (ethPort s 3).ptpHeld = [] ∧ s.pair.replays = [(s.clk.tick, [1])]) ∧
    (watches decl = false ∧ watches (pairIn .dummy) = true ∧ paired (pairIn .dummy) = true) ∧
    (messageOf msgNode = some (.nodeLevel (rq 16) { node := 0x01000005, level := 5000, fade := 0, atTick := 0 }) ∧ (1#64).toNat = (pairIn .dummy).clk.tick + 1) ∧
    (let f := roundFrame true 0 1 []
     f.swap = true ∧ (pairIn .dummy).pow.mainsOk = true ∧ nextEpoch { pairIn .dummy with pair := { (pairIn .dummy).pair with partnerClaim := f.claim } } ≤ 0xFFFFFF) ∧
    (roundFrame false 0 1 [.counter 1 2 3, .done]).sections = [.counter 1 2 3, .done] ∧ (pairIn .dummy).pair.streams = [] ∧ ((roundFrame false 1 2 []).part + 1 = 2 ∧ 2 ≤ (roundFrame false 1 2 []).count) ∧
    (let s := { shadow (fun p => { p with streams := [{ round := 0, full := false, count := 2, since := 0, parts := [] }] }) with now := 8000 }
     ∃ a ∈ s.pair.streams, a.since + 8000 ≤ s.now) ∧ decl.pair.streams = [] := by
  and_intros <;> decide
/-! Witnesses: updates -/

def hdr0 : ImgHdr := { hash := [], size := 8192, kind := 1, variant := 3, version := 0x01000000, rollback := 0, compatLo := 0, compatHi := 9, schema := 1, schemaFrom := 0, root := 0, expiry := 0 }

/-- An install in a phase, `f` setting the rest. -/
def installingIn (ph : Nat) (m : Mode) (f : Upd → Upd) : State :=
  let s := serving m
  { s with upd := f { s.upd with phase := ph, inst := some updSess, hdr := some hdr0 } }

def trial (f : Upd → Upd) : State := { decl with upd := f { decl.upd with phase := 6, rec_ := { decl.upd.rec_ with state := 4 } } }

def peerUp (f : Upd → Upd) : State :=
  let s := peering (peer true none []) 0
  { s with upd := f s.upd }

def relayOp : RelayOp := { tok := opTok, seg := 7, img := updSess, sess := 0 }

set_option maxRecDepth 100000 in
theorem met_UpdateInstallAndRelay : (trial id).upd.phase = 6 ∧ (decl.upd.phase ≠ 6 ∧ decl.upd.sess = none) ∧
    (updating.upd.sess = some updSess ∧ member updSess (tokOf updating (rq 0) 0x0B01) = true ∧ updSess.hash ≠ padTo 48 [2] ∧ padTo 48 updSess.hash = updSess.hash ∧ member { updSess with members := [{ opTok with transport := 2 }] } (tokOf updating (rq 0) 0x0B01) = false) ∧
    (updSess.id = 1 ∧ member updSess (tokOf updating (rq 0) 0) = true ∧ updating.upd.phase = 1 ∧ paired updating = false ∧ (installingIn 5 .declarer id).upd.phase = 5) ∧
    (let s := { updating with cfg := { updating.cfg with peers := some { seg1 := 7, addr1 := List.replicate 16 1, seg2 := 0, addr2 := [] } } }
     seatOf s (List.replicate 16 1) = some 7 ∧ s.upd.relay = none ∧ peerOf s 7 = none) ∧
    (4799999 < updSess.last + 4800000 ∧ updSess.last + 4800000 ≤ 4800000) ∧ decl.upd.inst = none ∧
    (let s := installingIn 2 .dummy id
     s.upd.inst = some updSess ∧ s.upd.hdr = some hdr0 ∧ s.pair.swapInstall = false) ∧ ((pairIn .declarer).mapPair fun p => { p with swapInstall := true }).pair.swapInstall = true ∧
    ((∃ f, firstFailed (imageChecks (installingIn 2 .dummy id) { updSess with received := 8191 } hdr0) = some f) ∧ ({ updSess with received := 8191 } : UpdSess).received < updSess.size) ∧
    (let s := installingIn 3 .dummy id
     s.upd.phase = 3 ∧ filesDone s = true ∧ s.upd.loaderInst = false) ∧ (installingIn 4 .dummy id).upd.phase = 4 ∧ decl.upd.leaving = false ∧
    (let s := installingIn 5 .dummy fun u => { u with leaving := true }
     let u := { s with pow := { s.pow with stackMv := 24000, stackCmF := 470 } }
     s.upd.leaving = true ∧ s.upd.fallBack = false ∧ s.sys.nextMode = none ∧ s.clk.tick % 8000 = 0 ∧ firstFailed ((4, 0, chainOk s hdr0) :: levelChecks s hdr0) = none ∧ antePasses u 24000 = true ∧ s.pow.warning = false ∧
     antePasses s 24000 = false ∧ (∀ x ∈ s.pow.stores, x.kind ≠ .image) ∧ (firstFailed ((4, 0, chainOk s { hdr0 with root := 5 }) :: levelChecks s hdr0)).isSome = true) ∧
    ((trial id).upd.good < 240 ∧ (trial fun u => { u with good := 240 }).upd.rec_.state = 4 ∧ 240 ≤ (trial fun u => { u with good := 240 }).upd.good) ∧
    (let s := trial fun u => { u with rec_ := { u.rec_ with windowLeft := 0 } }
     s.upd.rec_.state = 4 ∧ s.upd.rec_.windowLeft = 0 ∧ s.sys.nextReset = none) ∧ decl.upd.rec_.state ≠ 4 ∧ decl.upd.writing = false ∧
    (let s := { serving .update with upd := { decl.upd with writing := true, rec_ := { decl.upd.rec_ with state := 1 } } }
     s.upd.writing = true ∧ s.pow.stores = [] ∧ s.upd.rec_.state ≠ 6 ∧ s.upd.retried = false ∧ decl.upd.anteWait = false) ∧
    (((peerUp id).mesh.peers ++ (peerUp id).mesh.inbound).find? (fun p => p.up && p.seg == 7) = some (peer true none []) ∧ (decl.mesh.peers ++ decl.mesh.inbound).find? (fun p => p.up && p.seg == 7) = none) ∧
    ((byteAt (List.replicate 9 0 ++ [1]) 9).getLsbD 0 = true ∧ (peerUp id).upd.relay = none ∧ (peerUp fun u => { u with relay := some relayOp }).upd.relay = some relayOp ∧ relayOp.seg = (peer true none []).seg ∧
      2 < num (List.replicate 16 0 ++ [3, 0]) 16 2 ∧ (byteAt (List.replicate 20 0) 9).getLsbD 0 = false ∧ (List.replicate 19 (0 : Byte)).length ≠ 20 + num (List.replicate 19 0) 6 2) := by
  refine ⟨?_, ?_, ?_, ?_, ?_, ?_, ?_, ?_, ?_, ⟨⟨(1, 8191), rfl⟩, ?_⟩, ?_, ?_, ?_, ?_, ?_, ?_, ?_, ?_, ?_, ?_, ?_⟩ <;> decide
/-! Witnesses: keys, fuses and tamper -/

def fusing : State := { decl with now := 1, sec := { decl.sec with fuseQueue := [{ tok := none, change := .revoke 2, since := 0 }] } }

def tampered (a : BitVec 5) : State := { decl with sec := { decl.sec with tamper := { decl.sec.tamper with active := a, latched := 3 } } }

theorem met_KeysFusesAndTamper :
    ((serving .declarer).upd.phase < 2 ∧ (2 ≤ (installingIn 5 .declarer id).upd.phase ∧ (installingIn 5 .declarer id).upd.phase ≤ 6)) ∧
    (stageOf staging 1 = some (stage 1) ∧ staging.sec.stages.length < 4 ∧ (let s := { decl with sec := { decl.sec with stages := [stage 1, stage 2, stage 3, stage 4] } }; s.sec.stages = stage 1 :: [stage 2, stage 3, stage 4] ∧ 3 ≤ [stage 2, stage 3, stage 4].length)) ∧
    (stageOf staging 2 = none ∧ 4799999 < (stage 1).since + 4800000 ∧ (stage 1).since + 4800000 ≤ 4800000) ∧
    (decl.sys.mode ≠ .quarantine ∧ (3#16).extractLsb' 0 5 &&& (tampered 1).sec.tamper.latched &&& (tampered 1).sec.tamper.active = 1) ∧
    (decl.sec.debugChal = none ∧ (let s := { decl with sec := { decl.sec with debugChal := some ([1], 0) } }; s.sec.debugChal = some ([1], 0) ∧ 480000 ≤ 0 + 480000 ∧ rootGood s 0 = true)) ∧
    (decl.sec.fuseQueue = [] ∧ fusing.sec.fuseQueue = [{ tok := none, change := .revoke 2, since := 0 }] ∧ 0 < fusing.now ∧ (∃ x ∈ ({ fusing with now := 0 } : State).sec.fuseQueue, ({ fusing with now := 0 } : State).now ≤ x.since) ∧ decl.rcd.scoreAt ≠ some decl.now ∧ fusing.pow.stores = [] ∧ fusing.pow.warning = false ∧
      antePasses { fusing with pow := { fusing.pow with stackMv := 14000, stackCmF := 470 } } 675 = true ∧ antePasses { fusing with pow := { fusing.pow with stackMv := 6000 } } 675 = false) ∧
    (State.reset.pow.drawing = false ∧ decl.pow.drawing = true ∧ (tampered 1).sec.tamper.active.getLsbD 0 = true ∧ (tampered 1).sec.tamper.active.getLsbD 1 = false ∧ decl.pow.stores = [] ∧ decl.sys.nextMode = none) := by
  and_intros <;> decide
/-! Witnesses: resets, boot, the supply and ticks -/

def env : BootEnv := { straps := 0b11, failed := 0, vinMv := 18501, vhuMv := 12000, mainsOk := true, hbi := false, rtcOk := true, ringOk := true }

/-- A module with one good loader copy, `f` setting the rest. -/
def bootable (f : State → State) : State :=
  let s := { State.reset with upd := { State.reset.upd with copies := [{ valid := true, version := 1, root := 0 }, LoaderCopy.reset] } }
  f s

/-- A module at the first round boundary of BOOT, 0.2 s after the start of its analogue front end. -/
def booting (straps : U2) (life : BitVec 3) : State := { serving .boot with
  now := 1600
  sys := { (serving .boot).sys with straps := straps }
  sec := { decl.sec with fuses := { decl.sec.fuses with lifecycle := life } } }

/-- With a nominal frequency, as a commissioning-complete leaves it. -/
def commed (s : State) : State :=
  { s with cfg := { s.cfg with comm := some { segment := 1, nominal := 60, uDinA := 0, uDinB := 0 } } }

/-- A loser of the arbitration that reads the winner's ROLE 1 one tick after its round boundary. -/
def waiting : State :=
  let s := (commed (booting 0b10 3)).mapPair fun p => { p with wordsLost := false, partnerRole := 1 }
  { s with now := 1601, clk := { s.clk with tick := 8001 } }

theorem met_ResetsAndBoot : decl.sys.nextMode = none ∧ (decl.sys.inReset = false ∧ modOkReads decl = true ∧ modOkReads (serving .standby) = false) ∧
    (decl.pow.drawing = true ∧ decl.clk.running = true ∧ decl.sys.mode ≠ .update ∧ decl.sys.mode ≠ .standby ∧ 7 < 8 ∧ decl.pow.stores = [] ∧ State.reset.pow.drawing = false ∧ (serving .update).sys.mode = .update) ∧
    (let s := { serving .boot with clk := { decl.clk with running := false } }
     s.pow.drawing = true ∧ s.clk.running = false ∧ s.sys.mode ≠ .update ∧ s.sys.mode ≠ .standby ∧ s.pow.stores = []) ∧
    (let s := { decl with sys := { decl.sys with nextReset := some 8 } }
     s.sys.nextReset = some 8 ∧ s.pow.drawing = true ∧ s.pow.stores = []) ∧
    (decl.clk.missedDeals < 2 ∧ ({ decl with clk := { decl.clk with missedDeals := 2 } } : State).clk.missedDeals = 2 ∧ decl.sys.restartDue = none) ∧
    (let s := { serving .failLit with sys := { (serving .failLit).sys with restartDue := some 80000 } }
     s.sys.restartDue = some 80000 ∧ 79999 < 80000 ∧ s.sys.mode = .failLit) ∧
    (let s := { serving .standby with rtc := { decl.rtc with hits := [false, true] } }
     s.sys.mode = .standby ∧ s.rtc.hits.any id = true ∧ s.sys.nextReset = none) ∧
    (let s := bootable id
     s.pow.drawing = false ∧ 18500 < env.vinMv ∧ s.upd.rec_.state = 0 ∧ bestCopy s ≠ none ∧ rtcInvalid s = true) ∧
    (let s := bootable fun s => { s with pow := { s.pow with drawing := true }, sys := { s.sys with inReset := true }, rtc := { s.rtc with invalid := false } }
     s.pow.drawing = true ∧ s.sys.inReset = true ∧ s.sys.mode = .boot ∧ s.upd.writing = false ∧ s.upd.anteWait = false ∧ rtcInvalid s = false) ∧
    (let s := bootable fun s => { s with pow := { s.pow with drawing := true, mainsHighTicks := 16001 }, sys := { s.sys with mode := .standby, inReset := false } }
     s.sys.mode = .standby ∧ 16000 < s.pow.mainsHighTicks ∧ s.sys.nextReset = none) ∧
    (let s := commed (booting 0b11 3)
     s.sys.booted = true ∧ s.pow.drawing = true ∧ s.clk.running = true ∧ s.clk.tick % 8000 = 0 ∧ s.clk.afeStart + 1600 ≤ s.now ∧ s.pow.mainsOk = true ∧
     ¬ (s.sys.bootCheckFailed ≠ 0 ∨ s.sec.tamper.latched ≠ 0 ∨ lifecycle s = 0 ∨ lifecycle s = 3) ∧ ¬ (lifecycle s = 1 ∨ commissioned s.cfg = false) ∧ s.sys.storedSlot = none) ∧
    (lifecycle (booting 0b11 0) = 0 ∧ lifecycle (booting 0b11 1) = 1) ∧
    (let s := (commed (booting 0b10 3)).mapPair fun p => { p with wordsLost := false, partnerClaim := 0x100 }
     paired s = true ∧ s.pair.wordsLost = false ∧ s.pair.claim ≤ s.pair.partnerClaim ∧ s.pair.partnerRole = 0) ∧
    (let s := waiting
     s.sys.mode = .boot ∧ s.clk.tick % 8000 ≠ 0 ∧ s.clk.afeStart + 1600 + s.clk.tick % 8000 ≤ s.now ∧ paired s = true ∧ s.pair.wordsLost = false ∧ s.pair.partnerRole = 1) := by
  and_intros <;> decide

theorem test_waiting_loser : (after .bootEnd waiting).sys.mode = .dummy := by decide

def supply (f : Power → Power) : State := { decl with pow := f decl.pow, now := 480000 }

def ecc (m : Nat) : EccErr := { mem := m, index := 1, addr := 64, obj := 0, copyOk := true, code := false }

theorem met_SupplyStackAndFaults :
    (decl.pow.drawing = true ∧ decl.pow.warning = false ∧ 17999 < 18000 ∧ (supply fun p => { p with warning := true }).pow.warning = true ∧ decl.rcd.buckets = [] ∧ decl.rcd.ring.length < 1024) ∧
    (let s := supply fun p => { p with warning := true, stackMv := 24000, stackCmF := 470 }
     s.pow.stores = [] ∧ s.met.ckpts.length = 2 ∧ antePasses { s with pow := { s.pow with stackMv := 7001 - 1 } } 1620 = false ∧ antePasses { s with pow := { s.pow with stackMv := 24000 - 1 } } 1620 = true ∧ s.met.running = false ∧ { s with met := { s.met with running := true } }.met.running = true ∧
       s.sec.fuseCut = none ∧ s.met.ckptAt = none ∧ { s.met with ckptAt := some (1, 5) }.ckptAt = some (1, 5) ∧ s.sys.mode ≠ .standby) ∧
    (let s := supply fun p => { p with mainsLowTicks := 40001 }
     40000 < s.pow.mainsLowTicks ∧ s.pow.vinGood = true ∧ s.sys.nextMode = none ∧ decl.pow.mainsLowTicks ≤ 40000 ∧ (serving .standby).sys.mode = .standby ∧ (serving .boot).sys.mode = .boot) ∧
    (let s := supply fun p => { p with charging := true, chargeSince := 400000, chargeFault := true, chargeFaultAt := 0, stackCmF := 470 }
     s.pow.charging = true ∧ s.pow.chargeSince + 80000 ≤ s.now ∧ s.pow.chargeFault = true ∧ s.pow.chargeFaultAt + 480000 ≤ s.now ∧ 470 ≤ s.pow.stackCmF ∧ s.sys.mode ≠ .standby ∧ s.pow.vinGood = true ∧ (serving .standby).sys.mode = .standby ∧ decl.pow.charging = false ∧ decl.pow.chargeFault = false) ∧
    (decl.clk.tick % 691200000 = 0 ∧ 500 % 500 = 0 ∧ ({ dropMv := 500, stepMv := 1 } : StackMeas).dropMv ≠ 0) ∧
    (decl.sys.inReset = false ∧ State.reset.sys.inReset = true ∧ slicePairs decl ≠ [] ∧ decl.rcd.kitty.length = 6 ∧ decl.sys.nextReset = none ∧ decl.sys.restartDue = none ∧ (decl.sys.autoRestarts.filter fun t => decide (decl.now < t + 28800000)).length < 3 ∧
      paired (pairIn .declarer) = true ∧ ¬ (∃ l ∈ decl.cfg.loops, True) ∧ (∃ l ∈ city.cfg.loops, (seatAt city l.output).isSome = true)) ∧
    ((ecc 4).index < decl.met.ckpts.length ∧ (ecc 1).code = false ∧ { ecc 0 with code := true }.code = true) ∧
    ((engineKind 0x10).any (fun x => decide (0 < spareOf decl x.1)) = true ∧ engineKind 0x00 = none ∧ engineState decl 0x60 = 0 ∧ decl.ctl.stops = []) ∧
    (let s : State := { decl with now := 5, clk := { decl.clk with tick := 7 }, ctl := { decl.ctl with stops := [{ engine := 0x60, item := 1, last := 4, count := 7, first := 0 }] } }
     s.clk.running = true ∧ s.now ≠ 4 ∧ s.ctl.stops = [{ engine := 0x60, item := 1, last := 4, count := 7, first := s.clk.tick - 7 }]) ∧
    (decl.sys.lidHot = false ∧ { decl.sys with lidHot := true }.lidHot = true ∧ decl.sys.rfReducedA = false ∧ decl.sys.rfReducedB = false ∧ { decl.sys with rfReducedA := true, rfReducedB := true }.rfReducedA = true) := by
  and_intros <;> decide

def tickEnv (ok : Bool) : TickEnv := { di := 0, ai := [], mainsOk := true, vhuMv := 12000, vctMv := 0, vledMv := 0, ctOpen := 0, dealOk := ok }

def ticking (n : Nat) (f : Clock → Clock) : State := { decl with clk := f { decl.clk with tick := n, ticksInRound := 8000 } }

theorem met_TicksRoundsAndSteps :
    (State.reset.pow.drawing = false ∧ State.reset.sys.nextReset = none ∧ { decl.sys with nextReset := some 4 }.nextReset = some 4 ∧ decl.pow.drawing = true ∧ decl.clk.running = true ∧ decl.sys.nextReset = none ∧ decl.sec.debugTok = none ∧ decl.sys.nextMode = none ∧ decl.sys.arbDue = false) ∧
    (let s := { serving .update with clk := { decl.clk with running := false } }
     ¬ (s.pow.drawing = true ∧ s.clk.running = true) ∧ s.sys.nextReset = none ∧ s.sys.mode = .update ∧ State.reset.sys.mode ≠ .update) ∧
    (let s := ticking 16000 id
     s.clk.tick % 8000 = 0 ∧ s.clk.ticksInRound ≠ 0 ∧ s.sys.warmResetRound.all (fun r => decide (s.clk.tick / 8000 < r)) = true ∧ (ticking 15999 id).clk.tick % 8000 ≠ 0 ∧
     { s.sys with warmResetRound := some 2 }.warmResetRound = some 2 ∧ 2 ≤ s.clk.tick / 8000) ∧
    (let s := { ticking 16000 id with sys := { decl.sys with mode := .standby } }
     s.pow.drawing = true ∧ s.clk.running = true ∧ s.clk.tick % 8000 = 0 ∧ s.clk.ticksInRound ≠ 0 ∧ s.sys.mode = .standby) ∧
    (let s := { decl with mesh := { decl.mesh with duty := [{ port := 1, sub := 2, sums := [5], overAlarm := false }] } }
     ∃ a ∈ s.mesh.duty, a.port = 1 ∧ a.sub = 2) ∧
    (let s := (serving .commissioning).mapSys fun y => { y with arbDue := true }
     s.pow.drawing = true ∧ s.clk.running = true ∧ s.sys.nextReset = none ∧ s.sys.nextMode = none ∧ s.sec.debugTok = none ∧ s.sys.arbDue = true ∧ s.sys.mode = .commissioning ∧ paired s = false ∧ decl.sys.arbDue = false) ∧
    (let s := (serving .commissioning).mapSys fun y => { y with arbDue := true, straps := 0b10 }
     s.pow.drawing = true ∧ s.clk.running = true ∧ s.sys.nextReset = none ∧ s.sys.nextMode = none ∧ s.sec.debugTok = none ∧ s.sys.arbDue = true ∧ s.sys.mode = .commissioning ∧ paired s = true ∧ s.now + 1 < s.sys.arbSince + 1600) ∧
    (let s := ticking 16000 fun c => { c with stepDue := true, stepPending := 500000 }
     s.clk.stepDue = true ∧ s.clk.stepPending ≠ 0 ∧ s.clk.stretchTcl = 25000 ∧ 0 ≤ 125000 * Int.ofNat s.clk.tick + s.clk.stepPending ∧ decl.clk.stepDue = false) ∧
    (8183999 < 8184000 ∧ 8184000 ≤ (ticking 8184000 id).clk.tick) := by
  and_intros <;> decide
/-! Requests that pass every check, with the rules of the statements -/

theorem accepted_StatusReadsAnswer : (
    (accepts decl (rq 0) { cmd := 0x0101, len := 0 }) &&
    (accepts decl (rq 0) { cmd := 0x0102, len := 0 }) &&
    (accepts decl (rq 0) { cmd := 0x0408, len := 0 }) &&
    (accepts decl (rq 0) { cmd := 0x0902, len := 0 }) &&
    (accepts decl (rq 0) { cmd := 0x0A01, len := 0 }) &&
    (accepts decl (rq 0) { cmd := 0x0B05, len := 0 })) = true := by decide

theorem accepted_MeteringReads : (
    (let p : FeederQuantitiesP := .read ([7, 0, 0, 0]); accepts decl (rq ([7, 0, 0, 0]).length) { cmd := 0x0201, len := 4, fields := (0x10, decide (p.feeder.toNat ≤ 7)) :: rsv3 0x11 p.rsv }) &&
    (let p : EnergyRegistersP := .read ([0x11, 0, 0, 0]); accepts decl (rq ([0x11, 0, 0, 0]).length) { cmd := 0x0202, len := 4, fields := (0x10, (setIndex p.set.toNat).isSome) :: rsv3 0x11 p.rsv }) &&
    (let p : HarmonicsP := .read ([39, 63, 1, 0]); accepts decl (rq ([39, 63, 1, 0]).length) { cmd := 0x0203, len := 4, fields := [(0x10, decide (p.channel.toNat < 40)), (0x11, decide (1 ≤ p.first.toNat) && decide (p.first.toNat ≤ 63)), (0x12, decide (p.first.toNat + p.count.toNat ≤ 64)), (0x13, p.rsv == 0)] }) &&
    (let p : GapRecordsP := .read (le 8 0 ++ le 2 1 ++ le 2 0); accepts decl (rq (le 8 0 ++ le 2 1 ++ le 2 0).length) { cmd := 0x020B, len := 12, fields := [(0x1A, p.prsv == 0)] })) = true := by decide

theorem accepted_MetrologyCommands : (
    (let s : State := { decl with met := { decl.met with sealOpen := true } }; let p : CorrectionSegmentsP := .read ([39, 0, 0, 0] ++ ((List.range 8).map fun k => le 4 k ++ le 4 0x40000000 ++ le 4 5000000).flatten); accepts s (rq ([39, 0, 0, 0] ++ ((List.range 8).map fun k => le 4 k ++ le 4 0x40000000 ++ le 4 5000000).flatten).length) { cmd := 0x0204, len := 100, limit := if s.met.sealOpen then none else some (1, 1), fields := (0x10, decide (p.channel.toNat < 40)) :: (rsv3 0x11 p.rsv ++ pointChecks p.channel.toNat p.points) }) &&
    (let s : State := { decl with met := { decl.met with sealOpen := true } }; let p : AccumulationModeP := .read ([0x53, 0, 1, 0]); accepts s (rq ([0x53, 0, 1, 0]).length) { cmd := 0x0206, len := 4, limit := if s.met.sealOpen then none else some (1, 1), fields := [(0x10, (regIndex p.reg.toNat).isSome), (0x12, decide (p.mode.toNat ≤ 1)), (0x13, p.rsv == 0)] }) &&
    (let s : State := { decl with met := { decl.met with sealOpen := true } }; accepts s (rq 0) { cmd := 0x0205, len := 0, limit := if !s.met.sealOpen && lifecycle s == 2 && sealLeft s == 0 then some (1, 0) else none }) &&
    (let s : State := decl; accepts s (rq 0) { cmd := 0x0205, len := 0, limit := if !s.met.sealOpen && lifecycle s == 2 && sealLeft s == 0 then some (1, 0) else none }) &&
    (accepts decl (rq 0) { cmd := 0x0207, len := 0 }) &&
    (let p : PhasorStreamP := .read ([1, 4] ++ le 2 9 ++ List.replicate 16 0); accepts decl (rq ([1, 4] ++ le 2 9 ++ List.replicate 16 0).length) { cmd := 0x0208, len := 20, fields := [(0x10, decide (p.enable.toNat ≤ 1)), (0x11, p.ipv == 4 || p.ipv == 6)] })) = true := by decide

theorem accepted_RecordsReads : (
    (let p : SeatingReportP := .read (le 8 0 ++ le 2 1 ++ le 2 0); accepts decl (rq (le 8 0 ++ le 2 1 ++ le 2 0).length) { cmd := 0x0901, len := 12, fields := [(0x1A, p.prsv == 0)] }) &&
    (let p : EventsP := .read (le 8 0 ++ le 2 1 ++ le 2 0); accepts decl (rq (le 8 0 ++ le 2 1 ++ le 2 0).length) { cmd := 0x0903, len := 12, fields := [(0x1A, p.prsv == 0)] }) &&
    (let p : ScorecardP := .read (le 8 0 ++ le 2 1 ++ le 2 0); accepts decl (rq (le 8 0 ++ le 2 1 ++ le 2 0).length) { cmd := 0x0904, len := 12, fields := [(0x1A, p.prsv == 0)] }) &&
    (let s : State := decl; let p : IntervalProfileP := .read (le 8 0 ++ le 2 1 ++ le 2 0 ++ le 4 (setProfile 9).toNat); accepts s (rq (le 8 0 ++ le 2 1 ++ le 2 0 ++ le 4 (setProfile 9).toNat).length) { cmd := 0x0905, len := 16, fields := [(0x1A, p.prsv == 0), (0x1C, profileExists s p.obj)] }) &&
    (let s : State := city; let p : ObjectSeatP := .read (le 4 0x05000000); accepts s (rq (le 4 0x05000000).length) { cmd := 0x0906, len := 4, fields := [(0x10, (objectSeat s p.obj).isSome)] }) &&
    (let p : SuitEstimatesP := .read (le 8 0 ++ le 2 1 ++ le 2 0 ++ [7, 0, 0, 0]); accepts decl (rq (le 8 0 ++ le 2 1 ++ le 2 0 ++ [7, 0, 0, 0]).length) { cmd := 0x020A, len := 16, fields := (0x1A, p.prsv == 0) :: (0x1C, decide (p.feeder.toNat ≤ 7)) :: rsv3 0x1D p.rsv }) &&
    (let s : State := decl; let p : ReadTalonP := .read (le 8 0 ++ le 2 1 ++ le 2 0 ++ [2, 7, 0, 0]); accepts s (rq (le 8 0 ++ le 2 1 ++ le 2 0 ++ [2, 7, 0, 0]).length) { cmd := 0x0309, len := 16, fields := [(0x1A, p.prsv == 0), (0x1C, (slicePairs s).contains p.cp.toNat), (0x1D, decide (p.trace.toNat < 8)), (0x1E, p.rsv == 0)] })) = true := by decide

theorem accepted_StateReads : (
    (let s : State := city; let p : LoopStateP := .read (le 4 0x05000000); accepts s (rq (le 4 0x05000000).length) { cmd := 0x0306, len := 4, fields := [(0x10, loopRef s.cfg p.loop)] }) &&
    (let s : State := city; let p : StageStatusP := .read ([0, 3, 0, 0]); accepts s (rq ([0, 3, 0, 0]).length) { cmd := 0x0402, len := 4, fields := [(0x10, decide (p.link.toNat < 2)), (0x11, (stageCfg s.cfg p.link.toNat p.addr.toNat).isSome), (0x12, p.rsv == 0)] }) &&
    (let s : State := city; let p : NodeStatusP := .read (le 4 0x01000005); accepts s (rq (le 4 0x01000005).length) { cmd := 0x0503, len := 4, fields := [(0x10, (nodeRec s p.node).isSome)] }) &&
    (let p : AssociationsP := .read (le 8 0 ++ le 2 1 ++ le 2 0); accepts decl (rq (le 8 0 ++ le 2 1 ++ le 2 0).length) { cmd := 0x0504, len := 12, fields := [(0x1A, p.prsv == 0)] }) &&
    (let p : DutyCycleAccountsP := .read ([2, 0, 0, 0]); accepts decl (rq ([2, 0, 0, 0]).length) { cmd := 0x0506, len := 4, fields := portField p.port :: rsv3 0x11 p.rsv }) &&
    (accepts decl (rq 0) { cmd := 0x0601, len := 0 }) &&
    (let p : PortCountersP := .read ([3, 1, 0, 0]); accepts decl (rq ([3, 1, 0, 0]).length) { cmd := 0x0608, len := 4, fields := [(0x10, decide (1 ≤ p.port.toNat) && decide (p.port.toNat ≤ 3)), (0x11, decide (p.clear.toNat ≤ 1)), (0x12, p.rsv == 0)] }) &&
    (let s : State := city; let p : GroupStateP := .read ([1, 0, 0, 0]); accepts s (rq ([1, 0, 0, 0]).length) { cmd := 0x0722, len := 4, fields := [(0x10, groupIdx s p.group), (0x12, p.rsv == 0)] }) &&
    (accepts decl (rq 0) { cmd := 0x0801, len := 0 }) &&
    (accepts decl (rq 0) { cmd := 0x0A0A, len := 0 }) &&
    (accepts decl (rq (List.replicate 32 0).length) { cmd := 0x0A0C, len := 32 })) = true := by decide

theorem accepted_ConfigurationOfMeteringControlAndOutputs : (
    (let s : State := city; let p : ConfigureLoopP := .read (le 4 0x0500003F ++ [1, 3] ++ le 2 2 ++ le 2 0 ++ le 2 0 ++ le 4 800000000 ++ le 4 5000 ++ le 4 0 ++ le 2 1 ++ le 2 0); accepts s (rq (le 4 0x0500003F ++ [1, 3] ++ le 2 2 ++ le 2 0 ++ le 2 0 ++ le 4 800000000 ++ le 4 5000 ++ le 4 0 ++ le 2 1 ++ le 2 0).length) { cmd := 0x0301, len := 28, fields := loopChecks s p }) &&
    (let s : State := city; let p : RemoveLoopP := .read (le 4 0x05000000); accepts s (rq (le 4 0x05000000).length) { cmd := 0x0302, len := 4, fields := [(0x10, loopRef (planned s) p.loop)] }) &&
    (let s : State := city; let p : AssignSuitCodesP := .read ([0, 0] ++ le 2 1 ++ le 4 0x01000005 ++ le 2 0xFFFF ++ le 2 0); accepts s (rq ([0, 0] ++ le 2 1 ++ le 4 0x01000005 ++ le 2 0xFFFF ++ le 2 0).length) { cmd := 0x0209, len := 4 + 8 * p.n.toNat, fields := (0x10, decide (p.feeder.toNat ≤ 7)) :: (0x11, p.rsv == 0) :: suitChecks p.feeder.toNat 0 (planned s) p.items }) &&
    (let p : ConfigureOutputStageP := .read ([1, 15, 7, 7]); accepts decl (rq ([1, 15, 7, 7]).length) { cmd := 0x0401, len := 4, fields := stageChecks p }) &&
    (let p : ConfigureStringP := .read ([15, 0] ++ le 2 500 ++ le 2 60000 ++ le 2 3600); accepts decl (rq ([15, 0] ++ le 2 500 ++ le 2 60000 ++ le 2 3600).length) { cmd := 0x0404, len := 8, fields := stringChecks p }) &&
    (let p : ConfigureChainPortP := .read ([1, 1] ++ le 2 512); accepts decl (rq ([1, 1] ++ le 2 512).length) { cmd := 0x0406, len := 4, fields := [(0x10, decide (p.port.toNat < 2)), (0x11, decide (p.enum.toNat ≤ 1)), (0x12, decide (p.expect.toNat ≤ 512))] }) &&
    (let s : State := city; let p : SafeLevelP := .read ([1, 0] ++ le 2 10000 ++ le 4 15); accepts s (rq ([1, 0] ++ le 2 10000 ++ le 4 15).length) { cmd := 0x040A, len := 8, fields := safeChecks s p }) &&
    (let p : AddNodeP := .read (le 4 0x017FFFFF ++ List.replicate 8 1 ++ le 2 1023 ++ [7, 2, 7, 0, 0, 0]); accepts decl (rq (le 4 0x017FFFFF ++ List.replicate 8 1 ++ le 2 1023 ++ [7, 2, 7, 0, 0, 0]).length) { cmd := 0x0501, len := 20, fields := nodeChecks decl p }) &&
    (let s : State := city; let p : RemoveNodeP := .read (le 4 0x01000005); accepts s (rq (le 4 0x01000005).length) { cmd := 0x0502, len := 4, fields := [(0x10, (planned s).nodes.any fun n => n.node == p.node)] }) &&
    (let s : State := decl; let p : ConfirmRegionalProfileP := .read (le 2 1 ++ [27, 20]); accepts s (rq (le 2 1 ++ [27, 20]).length) { cmd := 0x0505, len := 4, fields := profileChecks s p })) = true := by decide

theorem accepted_ConfigurationOfTimeSchedulesAndPair : (
    (accepts decl (rq (List.replicate 40 0).length) { cmd := 0x0508, len := 40 }) &&
    (let s : State := decl; let p : ConfigurePortP := .read ([3, 3] ++ le 2 9018 ++ le 4 0); accepts s (rq ([3, 3] ++ le 2 9018 ++ le 4 0).length) { cmd := 0x0602, len := 8, fields := [(0x10, decide (1 ≤ p.port.toNat) && decide (p.port.toNat ≤ 3)), (0x11, if p.port = 1 then decide (p.speed.toNat ≤ 3) else p.speed == 0 || p.speed == 3), (0x12, (p.maxf == 1522 || p.maxf == 2000 || p.maxf == 9018) && !(p.port == 3 && p.maxf == 1522 && paired s)), (0x14, pflagsOk p.port.toNat p.pflags)] }) &&
    (let p : ConfigureIeee1588P := .read ([1, 2, 127, 7] ++ le 4 0); accepts decl (rq ([1, 2, 127, 7] ++ le 4 0).length) { cmd := 0x0603, len := 8, fields := [(0x10, decide (p.clock.toNat ≤ 1)), (0x11, p.steps == 1 || p.steps == 2), (0x12, decide (p.domain.toNat ≤ 127)), (0x13, decide (p.ports.toNat ≤ 7)), (0x14, p.rsv == 0)] }) &&
    (let p : ConfigureTellP := .read ([7, 1] ++ le 2 0 ++ List.replicate 16 1); accepts decl (rq ([7, 1] ++ le 2 0 ++ List.replicate 16 1).length) { cmd := 0x0604, len := 20, fields := [(0x10, decide (p.tell.toNat ≤ 7)), (0x11, decide (p.enable.toNat ≤ 1)), (0x14, !(p.enable == 1 && p.mask.all (· == 0)))] }) &&
    (let p : TaiUtcOffsetP := .read (le 2 38 ++ le 2 0 ++ le 8 0); accepts decl (rq (le 2 38 ++ le 2 0 ++ le 8 0).length) { cmd := 0x0605, len := 12, fields := [(0x12, p.rsv == 0)] }) &&
    (let s : State := city; let p : GroupMembersP := .read (le 4 0x0300EFFF ++ [0, 0] ++ le 2 1 ++ le 4 0x01000005); accepts s (rq (le 4 0x0300EFFF ++ [0, 0] ++ le 2 1 ++ le 4 0x01000005).length) { cmd := 0x0701, len := 8 + 4 * p.n.toNat, fields := groupChecks s p }) &&
    (let s : State := city; let p : DeleteGroupP := .read (le 4 0x03000001); accepts s (rq (le 4 0x03000001).length) { cmd := 0x0702, len := 4, fields := [(0x10, groupRef (planned s) p.group)] }) &&
    (let s : State := city; let r : Req := (rq (le 4 0x040003FF ++ le 2 24 ++ le 2 0 ++ (le 4 0x03000001 ++ [0, 0, 1, 0] ++ le 4 90000000 ++ le 4 180000000) ++ ([1, 0] ++ le 2 0 ++ le 2 10000 ++ le 2 0)).length); let p : DefineScheduleP := .read (le 4 0x040003FF ++ le 2 24 ++ le 2 0 ++ (le 4 0x03000001 ++ [0, 0, 1, 0] ++ le 4 90000000 ++ le 4 180000000) ++ ([1, 0] ++ le 2 0 ++ le 2 10000 ++ le 2 0)); let want := 16 + 8 * num p.rule 7 1 + 8 * num p.rule 6 1; accepts s r { cmd := 0x0703, len := if p.rlen.toNat = want then 8 + p.rlen.toNat else r.len.toNat + 1, fields := schedChecks s p }) &&
    (let s : State := sched; let p : DeleteScheduleP := .read (le 4 0x04000000); accepts s (rq (le 4 0x04000000).length) { cmd := 0x0704, len := 4, fields := [(0x10, refClass p.sched == 4 && (planned s).scheds.any fun c => c.sched == refIndex p.sched)] }) &&
    (let p : ZoneRulesP := .read ([4, 0, 0, 0] ++ [0x43, 0x45, 0x54, 0x30]); accepts decl (rq ([4, 0, 0, 0] ++ [0x43, 0x45, 0x54, 0x30]).length) { cmd := 0x0705, len := 4 + p.zlen.toNat, fields := (0x10, decide (1 ≤ p.zlen.toNat) && decide (p.zlen.toNat ≤ 64)) :: rsv3 0x11 p.rsv ++ [(0x14, (parseTz p.tz).isSome)] }) &&
    (let s : State := decl; let r : Req := (rq (le 2 63 ++ le 2 0 ++ le 2 0 ++ le 2 0).length); let p : ConfigureLightWaveP := .read (le 2 63 ++ le 2 0 ++ le 2 0 ++ le 2 0); let want := if p.wlen = 0 then 0 else 28 + 8 * (num p.rcd 22 1 + num p.rcd 24 2); accepts s r { cmd := 0x0706, len := if p.wlen.toNat = want then 8 + p.wlen.toNat else r.len.toNat + 1, fields := waveChecks s p }) &&
    (let p : ConfigurePairP := .read ([2, 0, 0, 0]); accepts decl (rq ([2, 0, 0, 0]).length) { cmd := 0x0803, len := 4, fields := [(0x10, decide (p.dealer.toNat ≤ 2)), (0x11, p.rsv == 0)] }) &&
    (let p : EraseSettingsP := .read (le 4 0x45524153); accepts ((serving .commissioning)) (rq (le 4 0x45524153).length) { cmd := 0x0908, len := 4, fields := [(0x10, p.confirm == 0x45524153)] }) &&
    (accepts ((serving .commissioning)) (rq 0) { cmd := 0x0104, len := 0 })) = true := by decide

theorem accepted_FlushesAndStores : (
    (accepts decl (rq 0) { cmd := 0x0907, len := 0 })) = true := by decide

theorem accepted_ControlCommands : (
    (let s : State := city; let p : ShadowCoefficientsP := .read (le 4 0x05000000 ++ List.replicate 12 0 ++ le 2 0 ++ le 2 50 ++ le 2 2000 ++ le 2 5000 ++ List.replicate 8 0 ++ le 4 10000); accepts s (rq (le 4 0x05000000 ++ List.replicate 12 0 ++ le 2 0 ++ le 2 50 ++ le 2 2000 ++ le 2 5000 ++ List.replicate 8 0 ++ le 4 10000).length) { cmd := 0x0303, len := 36, fields := shadowChecks s p }) &&
    (let s : State := city; let p : BankSwapP := .read ([1, 0, 0, 0]); accepts s (rq ([1, 0, 0, 0]).length) { cmd := 0x0304, len := 4, fields := [(0x10, s.cfg.loops.any fun l => l.group == p.group.toNat), (0x12, p.rsv == 0)] }) &&
    (let s : State := city; let p : SetPointP := .read (le 4 0x05000000 ++ le 4 10000); accepts s (rq (le 4 0x05000000 ++ le 4 10000).length) { cmd := 0x0305, len := 8, fields := setPointChecks s p }) &&
    (let s : State := city; let p : ConfigureTalonTraceP := .read ([0, 7] ++ le 2 1 ++ le 4 0x05000000 ++ le 2 1 ++ [0xFF, 100] ++ le 4 0); accepts s (rq ([0, 7] ++ le 2 1 ++ le 4 0x05000000 ++ le 2 1 ++ [0xFF, 100] ++ le 4 0).length) { cmd := 0x0307, len := 16, fields := traceChecks s p }) &&
    (let s : State := decl; let p : ArmTalonP := .read ([2, 0xFF, 0, 0]); accepts s (rq ([2, 0xFF, 0, 0]).length) { cmd := 0x0308, len := 4, fields := [(0x10, (slicePairs s).contains p.cp.toNat), (0x12, p.rsv == 0)] })) = true := by decide

theorem accepted_ContactorCommands : (
    (let s : State := decl; let p : ContactorP := .read ([7, 1, 0, 0]); accepts s (rq ([7, 1, 0, 0]).length) { cmd := 0x0403, len := 4, fields := [(0x10, decide (p.ct.toNat < 8) && (groupOf s.cfg (0xF008 + p.ct.toNat)).isNone), (0x11, decide (p.on.toNat ≤ 1)), (0x12, p.rsv == 0)] })) = true := by decide

theorem accepted_StringsAndTheAdaptiveSupply : (
    (let p : StringLevelP := .read ([15, 0] ++ le 2 10000 ++ le 2 65535 ++ le 2 0); accepts decl (rq ([15, 0] ++ le 2 10000 ++ le 2 65535 ++ le 2 0).length) { cmd := 0x0405, len := 8, fields := [(0x10, decide (p.ch.toNat < 16)), (0x11, p.rsv == 0), (0x12, decide (p.level.toNat ≤ 10000)), (0x16, p.rsv2 == 0)] })) = true := by decide

theorem accepted_ChainsSensorsAndTests : (
    (let p : ChainOutputsP := .read ([1, 0] ++ le 2 511 ++ le 2 1 ++ le 2 0 ++ List.replicate 8 0xFF); accepts decl (rq ([1, 0] ++ le 2 511 ++ le 2 1 ++ le 2 0 ++ List.replicate 8 0xFF).length) { cmd := 0x0407, len := 8 + 8 * p.n.toNat, fields := [(0x10, decide (p.port.toNat < 2)), (0x11, p.rsv == 0), (0x12, decide (p.first.toNat < 512)), (0x14, decide (p.first.toNat + p.n.toNat ≤ 512)), (0x16, p.rsv2 == 0)] }) &&
    (let s : State := cityComm; let p : TestOutputP := .read ([1, 0] ++ le 2 15 ++ le 2 10000 ++ le 2 600); accepts s (rq ([1, 0] ++ le 2 15 ++ le 2 10000 ++ le 2 600).length) { cmd := 0x0409, len := 8, fields := testChecks s p })) = true := by decide

theorem accepted_PeerSeatsAndAdoption : (
    (let s : State := peered; let p : AdoptP := .read (le 4 7 ++ [1, 0, 0, 0]); accepts s (rq (le 4 7 ++ [1, 0, 0, 0]).length) { cmd := 0x0509, len := 8, fields := adoptChecks s p.seg p.action p.rsv }) &&
    (let s : State := peered; let p : ReleaseAdoptedP := .read (le 4 7 ++ [0, 0, 0, 0]); accepts s (rq (le 4 7 ++ [0, 0, 0, 0]).length) { cmd := 0x0509, len := 8, fields := adoptChecks s p.seg p.action p.rsv })) = true := by decide

theorem accepted_LevelsOverridesAndTraffic : (
    (let s : State := city; let p : NodeLevelP := .read (le 4 0x01000005 ++ le 2 10000 ++ le 2 0 ++ le 8 0); accepts s (rq (le 4 0x01000005 ++ le 2 10000 ++ le 2 0 ++ le 8 0).length) { cmd := 0x0507, len := 16, fields := [(0x10, refClass p.node == 1 && (nodeRec s p.node).isSome), (0x14, decide (p.level.toNat ≤ 10000))] }) &&
    (let s : State := city; let p : ClearGroupOverrideP := .read ([1, 0, 0, 0]); accepts s (rq ([1, 0, 0, 0]).length) { cmd := 0x0720, len := 4, fields := [(0x10, (groupOf s.cfg p.group.toNat).isSome), (0x12, p.rsv == 0)] }) &&
    (let s : State := city; let p : GroupOverrideP := .read (le 2 1 ++ le 2 10000 ++ le 4 0 ++ le 2 0 ++ le 2 0); accepts s (rq (le 2 1 ++ le 2 10000 ++ le 4 0 ++ le 2 0 ++ le 2 0).length) { cmd := 0x0721, len := 12, fields := [(0x10, (groupOf s.cfg p.group.toNat).isSome), (0x12, decide (p.level.toNat ≤ 10000)), (0x1A, p.rsv == 0)] }) &&
    (let s : State := city; let p : TrafficEventP := .read (le 4 0 ++ [1, 0] ++ le 2 500 ++ le 4 0 ++ le 8 0); accepts s (rq (le 4 0 ++ [1, 0] ++ le 2 500 ++ le 4 0 ++ le 8 0).length) { cmd := 0x0707, len := 20, fields := [(0x10, true), (0x14, decide (1 ≤ p.kind.toNat % 16) && decide (p.kind.toNat % 16 ≤ 5) && decide (p.kind.toNat / 16 % 8 = 0)), (0x15, p.rsv == 0), (0x1C, decide (p.atTick.toNat ≤ s.clk.tick))] })) = true := by decide

theorem accepted_RealTimeClock : (
    (let p : SetRealTimeClockP := .read (le 8 6311433599); accepts decl (rq (le 8 6311433599).length) { cmd := 0x0606, len := 8, fields := [(0x10, decide (p.utc.toNat ≤ 6311433599))] }) &&
    (let p : RealTimeClockAlarmP := .read ([1, 2] ++ le 2 0 ++ le 8 6311433599); accepts decl (rq ([1, 2] ++ le 2 0 ++ le 8 6311433599).length) { cmd := 0x0607, len := 12, fields := [(0x10, decide (p.alarm.toNat ≤ 1)), (0x11, decide (p.enable.toNat ≤ 2)), (0x12, p.rsv == 0), (0x14, decide (p.utc.toNat ≤ 6311433599))] })) = true := by decide

theorem accepted_PairStateTransferAndSwaps : (
    (accepts ((pairIn .declarer)) (rq 0) { cmd := 0x0802, len := 0 })) = true := by decide

theorem accepted_UpdateInstallAndRelay : (
    (let p : OpenUpdateSessionP := .read (List.replicate 48 1 ++ le 4 25165824 ++ le 4 0); accepts updating (rq (List.replicate 48 1 ++ le 4 25165824 ++ le 4 0).length) { cmd := 0x0B01, len := 56, fields := [(0x40, decide (4097 ≤ p.size.toNat) && decide (p.size.toNat ≤ 25165824)), (0x44, p.rsv == 0)] }) &&
    (let p : ImageBlockP := .read (le 4 1 ++ le 4 8191 ++ [7]); let x := updSess; accepts updating (rq (le 4 1 ++ le 4 8191 ++ [7]).length) { cmd := 0x0B02, len := 8 + p.data.length, fields := [(0x14, decide (p.offset.toNat ≤ x.received) && decide (p.offset.toNat + p.data.length ≤ x.size))] }) &&
    (let p : InstallP := .read (le 4 1 ++ le 2 240 ++ le 2 0); accepts updating (rq (le 4 1 ++ le 2 240 ++ le 2 0).length) { cmd := 0x0B03, len := 8, fields := [(0x10, true), (0x14, p.window.toNat == 0 || (decide (5 ≤ p.window.toNat) && decide (p.window.toNat ≤ 240))), (0x16, p.rsv == 0)] }) &&
    (let s : State := updating; accepts s (rq (le 4 1).length) { cmd := 0x0B06, len := 4, fields := [(0x10, true)], limit := if loaderLeft s = 0 then some (3, 0) else none }) &&
    (accepts updating (rq (le 4 1).length) { cmd := 0x0B04, len := 4, fields := [(0x10, true)] }) &&
    (let x := updSess; accepts updating (rq (le 4 1 ++ List.replicate 16 0).length) { cmd := 0x0B07, len := 20, fields := [(0x10, x.received == x.size), (0x14, true)] })) = true := by decide

theorem accepted_KeysFusesAndTamper : (
    (let s : State := blank; let r : Req := (rq ([1, 0, 0, 0]).length); let p : LifecycleAdvanceP := .read ([1, 0, 0, 0]); accepts s r { cmd := 0x0106, len := 4 + p.tlen.toNat, fields := [(0x10, p.target.toNat == lifecycle s + 1 && (p.target.toNat != 2 || deployReady s)), (0x11, p.rsv == 0), (0x12, p.target.toNat == 3 || p.tlen == 0)] ++ (if p.target.toNat = 3 then tokenFields 0x14 p.token else []), priv := some (if p.target.toNat = 2 then 4 else if p.target.toNat = 3 then 3 else 0), legal := some (advanceLegal s p.target.toNat (chan s r.ch.toNat).owner), refuse := tokenRefused s r (p.target.toNat != 3 || tokenGood s p.token [1]) }) &&
    (let s : State := { decl with sys := { decl.sys with imageCompatHighest := 2 } }; let p : RaiseCompatibilityLevelP := .read (le 2 2 ++ le 2 0); accepts s (rq (le 2 2 ++ le 2 0).length) { cmd := 0x0107, len := 4, fields := [(0x10, decide (levelSoFar s < p.level.toNat) && decide (p.level.toNat ≤ s.sys.imageCompatHighest.toNat)), (0x12, p.rsv == 0)], limit := if compatLeft s = 0 then some (4, 0) else none }) &&
    (let s : State := decl; let r : Req := (rq ([1, 0, 0, 0]).length); let p : RevokeRootSlotP := .read ([1, 0, 0, 0]); accepts s r { cmd := 0x0A07, len := 4 + p.tlen.toNat, fields := [(0x10, revocable s p.slot.toNat), (0x11, p.rsv == 0)] ++ tokenFields 0x14 p.token, refuse := tokenRefused s r true }) &&
    (let s : State := decl; let r : Req := (rq ([0, 0, 0, 0]).length); let p : OwnershipTransferP := .read ([0, 0, 0, 0]); accepts s r { cmd := 0x0A08, len := 4 + p.tlen.toNat, fields := (0x12, p.rsv == 0) :: tokenFields 0x14 p.token, refuse := tokenRefused s r true, limit := ownerLimit s }) &&
    (let s : State := provisioning; let p : LoadKeyPlaintextP := .read ([1, 1, 1, 0] ++ le 8 0 ++ le 2 16 ++ le 2 0 ++ List.replicate 16 0); accepts s (rq ([1, 1, 1, 0] ++ le 8 0 ++ le 2 16 ++ le 2 0 ++ List.replicate 16 0).length) { cmd := 0x0A02, len := 16 + p.klen.toNat, fields := [(0x10, decide (1 ≤ p.slot.toNat) && decide (p.slot.toNat ≤ 23)), (0x11, (keyLen p.typ.toNat).isSome && fixedType p.slot.toNat p.typ.toNat), (0x12, decide (p.mask.toNat < 64) && fixedMask p.slot.toNat p.mask.toNat), (0x13, usageOk p.typ.toNat p.usage.toNat), (0x1C, keyLen p.typ.toNat == some p.klen.toNat), (0x1E, p.rsv == 0)], legal := some (s.sys.mode == .commissioning && lifecycle s == 1) }) &&
    (let p : CommitKeyP := .read (le 2 1 ++ le 2 0); let x := stage 1; accepts staging (rq (le 2 1 ++ le 2 0).length) { cmd := 0x0A05, len := 4, fields := [(0x10, x.confirmed), (0x12, p.rsv == 0)] }) &&
    (let s : State := provisioning; let p : StageKeyP := .read (List.replicate 12 0); accepts s (rq (List.replicate 12 0).length) { cmd := 0x0A03, len := 12 + p.wlen.toNat, fields := keyStageChecks s p }) &&
    (let p : ConfirmKeyP := .read (le 2 1 ++ le 2 0 ++ List.replicate 48 0); accepts staging (rq (le 2 1 ++ le 2 0 ++ List.replicate 48 0).length) { cmd := 0x0A04, len := 52, fields := [(0x10, true), (0x12, p.rsv == 0)] }) &&
    (let s : State := staging; let p : DiscardStagedKeyP := .read (le 2 1 ++ le 2 0); accepts s (rq (le 2 1 ++ le 2 0).length) { cmd := 0x0A06, len := 4, fields := [(0x10, (stageOf s p.stage).isSome), (0x12, p.rsv == 0)] }) &&
    (let p : ClearTamperLatchP := .read (le 2 31 ++ le 2 0); accepts decl (rq (le 2 31 ++ le 2 0).length) { cmd := 0x0A09, len := 4, fields := [(0x10, decide (p.sources.toNat < 32)), (0x12, p.rsv == 0)] }) &&
    (let p : DebugUnlockP := .read (le 4 63 ++ List.replicate 96 0); accepts decl (rq (le 4 63 ++ List.replicate 96 0).length) { cmd := 0x0A0B, len := 100, fields := [(0x10, decide (p.scope.toNat < 64))] })) = true := by decide

theorem accepted_ResetsAndBoot : (
    (accepts decl (rq (le 4 0).length) { cmd := 0x0103, len := 4 }) &&
    (accepts decl (rq 0) { cmd := 0x0105, len := 0 })) = true := by decide

/-! Ill-formed commands -/

/-- The command codes of 06 Tables 6.5 to 6.17. -/
def codes : List Nat :=
  [0x0101, 0x0102, 0x0103, 0x0104, 0x0105, 0x0106, 0x0107, 0x0110, 0x0111, 0x0112, 0x0113, 0x0201, 0x0202, 0x0203, 0x0204, 0x0205] ++
  [0x0206, 0x0207, 0x0208, 0x0209, 0x020A, 0x020B, 0x0301, 0x0302, 0x0303, 0x0304, 0x0305, 0x0306, 0x0307, 0x0308, 0x0309, 0x0401] ++
  [0x0402, 0x0403, 0x0404, 0x0405, 0x0406, 0x0407, 0x0408, 0x0409, 0x040A, 0x0501, 0x0502, 0x0503, 0x0504, 0x0505, 0x0506, 0x0507] ++
  [0x0508, 0x0509, 0x0601, 0x0602, 0x0603, 0x0604, 0x0605, 0x0606, 0x0607, 0x0608, 0x0701, 0x0702, 0x0703, 0x0704, 0x0705, 0x0706] ++
  [0x0707, 0x0720, 0x0721, 0x0722, 0x0801, 0x0802, 0x0803, 0x0901, 0x0902, 0x0903, 0x0904, 0x0905, 0x0906, 0x0907, 0x0908, 0x0A01] ++
  [0x0A02, 0x0A03, 0x0A04, 0x0A05, 0x0A06, 0x0A07, 0x0A08, 0x0A09, 0x0A0A, 0x0A0B, 0x0A0C, 0x0B01, 0x0B02, 0x0B03, 0x0B04, 0x0B05] ++
  [0x0B06, 0x0B07]

set_option maxRecDepth 100000 in
/-- Every request is refused by the check with a LEN that does not count its payload. -/
theorem wf_len : (codes.all fun n => (requestOf n (rq 4095) []).any fun i => !i.wf) = true := by decide

/-- One request for each list whose length a field or a table fixes, LEN counting its bytes. -/
def badLists : List Instr := [
  .lifecycleAdvance (rq 5) { target := 3, rsv := 0, tlen := 0, token := [0] },
  .sessionProve (rq 101) { clen := 0, rsv := 0, chain := [0], sig := List.replicate 96 0 }, .sessionProve (rq 99) { clen := 0, rsv := 0, chain := [], sig := List.replicate 95 0 },
  .correctionSegments (rq 4) { channel := 0, rsv := 0, points := [] }, .phasorStream (rq 4) { enable := 0, ipv := 4, port := 0, addr := [] },
  .assignSuitCodes (rq 4) { feeder := 0, rsv := 0, n := 1, items := [] }, .chainOutputs (rq 8) { port := 0, rsv := 0, first := 0, n := 1, rsv2 := 0, items := [] },
  .addNode (rq 19) { node := 0, eui := List.replicate 7 0, typ := 0, feeder := 0, port := 0, cls := 0, sleepy := 0, rsv := 0 },
  .peerSeats (rq 39) { seg1 := 0, seg2 := 0, addr1 := List.replicate 15 0, addr2 := List.replicate 16 0 }, .peerSeats (rq 39) { seg1 := 0, seg2 := 0, addr1 := List.replicate 16 0, addr2 := List.replicate 15 0 },
  .adopt (rq 8) { seg := 0, action := 0, rsv := 0 }, .releaseAdopted (rq 8) { seg := 0, action := 1, rsv := 0 },
  .configureTell (rq 19) { tell := 0, enable := 0, check := 0, mask := List.replicate 15 0 }, .groupMembers (rq 8) { group := 0, mode := 0, rsv := 0, n := 1, nodes := [] },
  .defineSchedule (rq 8) { sched := 0, rlen := 1, rsv := 0, rule := [] }, .zoneRules (rq 4) { zlen := 1, rsv := 0, tz := [] },
  .configureLightWave (rq 8) { wave := 0, rsv := 0, wlen := 1, rsv2 := 0, rcd := [] }, .loadKeyPlaintext (rq 16) { slot := 0, typ := 0, mask := 0, usage := 0, expiry := 0, klen := 1, rsv := 0, key := [] },
  .stageKey (rq 12) { hand := 0, wrapBy := 0, wlen := 1, rsv := 0, wrapped := [] }, .confirmKey (rq 51) { stage := 0, rsv := 0, proof := List.replicate 47 0 },
  .revokeRootSlot (rq 4) { slot := 0, rsv := 0, tlen := 1, token := [] }, .ownershipTransfer (rq 4) { tlen := 1, rsv := 0, token := [] }, .debugUnlock (rq 99) { scope := 0, sig := List.replicate 95 0 },
  .proveIdentity (rq 31) { nonce := List.replicate 31 0 }, .openUpdateSession (rq 55) { hash := List.replicate 47 0, size := 0, rsv := 0 }, .relayToPeer (rq 19) { session := 0, addr := List.replicate 15 0 }]

set_option maxRecDepth 100000 in
theorem wf_lists : (badLists.all fun i => !i.wf) = true := by decide

def ptpTo (n : Nat) : PtpMsg := { msg 0 false with port := n }

def handshakeOf (n k root priv : Nat) : HsReq := { addr := List.replicate n 0, udp := 0, port := k, peer := false, chainOk := true, root := root, cred := 0, ownerOk := true, priv := priv, expiry := 0, share := [], nonce := [] }

def bidWordOf (role cyc : Nat) : BidWordIn := { crcOk := true, claim := 0, role := role, p3Ok := true, swapAck := false, mains := true, cfgMatch := true, cyc := cyc }

def dealerWordOf (role cyc : Nat) : DealerWordIn := { pos := false, crcOk := true, claim := 0, role := role, outOk := true, hbOk := true, req := false, cyc := cyc }

def statusOf (level : Nat) : NodeStatus := { node := 0, level := level, flags := 0, temp := 0, beacons := [] }

set_option maxRecDepth 100000 in
/-- One event for each check, one past its last number or short of its first. -/
theorem wf_events : (([
  .registerWrite { bus := .pcie, bar2 := false, addr := 0, write := true, data := [], len := 1 }, .registerWrite { bus := .pcie, bar2 := false, addr := 0, write := false, data := [0], len := 4 },
  .qspiTransaction { instr := 0x38, addr := 0, data := [0], len := 1 }, .remoteHandshakeRequest (handshakeOf 15 1 0 0), .remoteHandshakeRequest (handshakeOf 16 0 0 0), .remoteHandshakeRequest (handshakeOf 16 4 0 0), .remoteHandshakeRequest (handshakeOf 16 1 4 0), .remoteHandshakeRequest (handshakeOf 16 1 0 5),
  .remoteHandshakeProof { sid := 0, addr := [], sigOk := true }, .remoteDatagram { sid := 0, seq := 0, authOk := true, addr := [], body := [] },
  .ipFragment { key := 0, off := 65535, more := false, data := [0], body := { sid := 0, seq := 0, authOk := true, addr := [], body := [] } },
  .lockstepMiscompare 256, .uncorrectableEcc (ecc 5), .engineLost 256, .itemStopped 256 0, .tickBoundary (tickEnv true), .roundBoundary (tickEnv true), .stretchTick (tickEnv true),
  .sampleInstant { cycle := 25000, codes := List.replicate 42 0 }, .sampleInstant { cycle := 0, codes := [] }, .zcTimeout 6, .actuatorSlot 2 0, .actuatorSlot 0 16, .statusReply 2 0 goodPart, .statusReply 0 16 goodPart,
  .safeReleaseTimer 64, .satExpiry 64, .contactorDwellEnd 8, .contactorTrip 8, .pwmPeriod { currents := [], sinkMv := List.replicate 16 0 }, .pwmPeriod { currents := List.replicate 16 0, sinkMv := [] },
  .probePulse 16 0 0, .adjShortTest [16], .chainReturnCheck 2 { lineLow := false, blocks := 0, crcOk := true }, .lightSensorResult 8 none, .lightSensorResult 0 (some []), .testHoldExpiry 5 0, .stageStoreTimeout 2 0, .stageStoreTimeout 0 16, .overrideExpiry 0xF010] : List Instr).all fun i => !i.wf) = true := by decide

set_option maxRecDepth 100000 in
/-- One message for each check of the mesh, Ethernet, the clock, the pair and the pins. -/
theorem wf_messages : (([
  .lernasFrameReceive { frame 12 0 true true with port := 0 }, .lernasFrameReceive { frame 12 0 true true with port := 3 }, .beacon 0, .beacon 3, .joinReq { join with eui := [] }, .levelAck 0 10001 0, .safeAck 0 10001, .status (statusOf 10001),
  .replica { part (List.replicate 15 0) with addr := List.replicate 16 0 }, .replica { part (List.replicate 16 0) with addr := [] }, .replica { part (List.replicate 16 0) with addr := List.replicate 16 0, part := 2 }, .replicaRequest 0 0 [],
  .frameReceive { eframe 64 7 true true with port := 0 }, .frameReceive { eframe 64 7 true true with port := 4 }, .bridgeAgeing [], .pause { port := 0, quanta := 0, at_ := 0, mbps := 0, own := true }, .pause { port := 4, quanta := 0, at_ := 0, mbps := 0, own := true },
  .pauseExpiry 0 0, .pauseExpiry 4 0, .pauseExpiry 1 25000, .pauseWatchdog 0 0, .pauseWatchdog 4 0, .pauseWatchdog 1 25000, .preemptVerify 0 true, .preemptVerify 4 true, .tsExpiry 0, .tsExpiry 4, .tellMatch 0 [], .tellMatch 3 [],
  .ptpAnnounce { announce with port := 0 }, .ptpAnnounce { announce with port := 4 }, .announceTimeout 0, .announceTimeout 4, .ptpMasterSend 0, .ptpMasterSend 4,
  .ptpSync (ptpTo 0), .ptpSync (ptpTo 4), .ptpFollowUp (ptpTo 0), .ptpFollowUp (ptpTo 4), .ptpDelayReq (ptpTo 0), .ptpDelayReq (ptpTo 4), .ptpDelayResp (ptpTo 0), .ptpDelayResp (ptpTo 4), .ptpPdelayReq (ptpTo 0), .ptpPdelayReq (ptpTo 4), .ptpPdelayResp (ptpTo 0), .ptpPdelayResp (ptpTo 4), .ptpPdelayRespFollowUp (ptpTo 0), .ptpPdelayRespFollowUp (ptpTo 4),
  .rtcShadowRead 1, .rtcFieldWrite 1 0, .heartbeatToggle 16, .bidWord (bidWordOf 8 0), .bidWord (bidWordOf 0 25000), .heartbeatLoss 25000, .bidWordsLoss 25000,
  .p3Silent 25000, .takeover 25000, .dealerGrant 25000, .dealerWordSend 16, .dealerLost 25000, .partnerHeartbeatEdge true 25000, .moduleToDealerWord (dealerWordOf 8 0), .moduleToDealerWord (dealerWordOf 0 25000), .tickStateFrame { tickFrame with outs := List.replicate 42 (0, 0) },
  .tickStateFrame { tickFrame with loops := List.replicate 65 { idx := 0, integ := 0, pvPrev := 0, sp := none, sat := 0, notches := [] } }, .roundDataFrame (roundFrame false 1 1 []), .tamper 5 true, .servicePortMessage 0 (List.replicate 4097 0), .rfMismatch 0, .rfMismatch 3] : List Instr).all fun i => !i.wf) = true := by decide

/-! Single steps whose results the spec's worked examples give -/

/-- 04, a forward step of 3.2073 ms: the stretch tick is 33,540 TCLK long and has number 14,400,000,000,026. -/
theorem test_stretchTick : let s := { decl with clk := { decl.clk with tick := 14400000000000, stepDue := true, stepPending := 3207300 } }
    (after (.stretchTick (tickEnv true)) s).clk.stretchTcl = 33540 ∧ (after (.stretchTick (tickEnv true)) s).clk.tick = 14400000000026 := by decide

/-- 10 Table 10.8. -/
theorem test_hop : ([1000, 1001, 1002, 1003].map (hopChannel 0x7FFE 0xA2D)) = [8, 11, 14, 8] := by decide

/-- 10 Table 10.1: 45 octets at 100 kbit/s last 4.56 ms, and class 2 of SB1 takes 7,105 of them in an hour. -/
theorem test_airtime : airtime 1 1 (frameLen 1 false 13) = 4560 ∧ classShare 2 * dutyBudget ⟨1, 1, 10, 24, 1000⟩ / (100 * 4560) = 7105 := by decide

/-- 11, extension across a wrap: Delay_Req B before the reference, Sync A after the wrap. -/
theorem test_extension : let s := { decl with eth := { decl.eth with refs := [{ epoch := 0, full := 1800000001000000000, ctr := 0xCF4ECA00 }] } }
    (extendTs s 0xC958E900 0, extendTs s 0x07EEA380 0) = (some 1800000000900000000, some 1800000001950000000) := by decide

/-- 03, an update after an outage: at 9.00 V the image write's ante fails and a NAND commit's passes. -/
theorem test_ante : let s := { decl with pow := { decl.pow with stackCmF := 820, stackEsr := 120, stackMv := 9000 } }
    (antePasses s 24000, antePasses s 1080) = (false, true) := by decide

/-- 06, a loop added on a low stack: the commit passes from 6.553 V on, rounded up to a millivolt. -/
theorem test_anteLimit : let s (v : Nat) := { decl with pow := { decl.pow with stackCmF := 900, stackEsr := 100, stackMv := v } }
    (antePasses (s 6553) 1080, antePasses (s 6554) 1080) = (false, true) := by decide

/-- 03, a carrier fault with no hold-up: T is 6,501 ticks and the bound of feeder 5 is 0.7720 Wh. -/
theorem test_gapBound : gapTicks 14200005500 14199999999 true = 6501 ∧ gapBound 34200 6501 = 7720 := by decide

/-- 12 Table 12.2: 30 February, 31 April and the last second of 2199. -/
theorem test_rollover : let t (sec min hour day month year : Nat) : RtcTime := { subsec := 0, sec := sec, min := min, hour := hour, wday := 0, day := day, month := month, year := year }
    let m (x : RtcTime) := (x.sec, x.min, x.hour, x.day, x.month, x.year)
    m (rollSec (t 59 59 23 30 2 4)) = (0, 0, 0, 1, 3, 4) ∧ m (rollSec (t 62 61 27 31 4 4)) = (0, 0, 0, 1, 5, 4) ∧ m (rollSec (t 59 59 23 31 12 199)) = (0, 0, 0, 1, 1, 0) := by decide

/-- 12, learning the trim: an error of 392 counts takes CAL from +12 to +9 and asks for a rewrite. -/
theorem test_trim : let s := locked (8000 * 1800000000)
    let t := after .rtcCompare { s with rtc := { s.rtc with cal := 12, csub := 392, time := fieldsOfUtc (utcNow s).toNat } }
    (t.rtc.cal, t.rtc.rewriteDue, t.rtc.eLast) = (9, some 1800000001, 392) := by decide

/-- 09 R242: 0.47 % is D = 308 and 0.48 % is 315. -/
theorem test_duty : dutyOf 470000000 = 308 ∧ dutyOf 480000000 = 315 := by decide

/-- 07, a reading pair across a wrap. -/
theorem test_display : displayOf 128847355920000 = (4294801000, 2) ∧ displayOf 129566407960000 = (71738908, 3) := by decide

/-- 07, correcting I9: between points 3 and 4 at 3.700 A. -/
theorem test_correction : let p (b : Nat) (g f : Int) : CorrPoint := { CorrPoint.reset with brk := b, gain := g, phase := f }
    interpolate { ChanCorr.reset with points := [p 0 11216518 250000, p 500 11199777 180000, p 1000 11188616 140000, p 2500 11177455 100000, p 5000 11171875 80000, p 10000 11166294 60000, p 25000 11162946 50000, p 50000 11162946 50000] } 3700 =
      ((111747766 : Rat) / 10, 90400) := by decide +kernel

/-- 13 Table 13.8, up and down rounds of the lanterns L0 to L5; L6 and L7 lie beyond REACH. -/
theorem test_cyclist : let w : Wave := { wave := 3, level := 8000, kinds := 0x3E, lead := 30, hold := 100, fadeUp := 10, fadeDn := 50, reach := 200000, back := 32000, vDef := 0, sensors := [(0x02000040, -30000)], lanterns := (List.range 8).map fun k => (BitVec.ofNat 32 (0x01000000 + k), (32000 * k : Int)) }
    let s := { decl with cfg := { decl.cfg with waves := [w] }, clk := { decl.clk with tick := 3520 } }
    ((after (.presence { node := 0x02000040, kind := 2, speed := 180, pos := 0, tick := 3200 }) s).sch.terms.map fun x => (x.up, x.down)) = [(2, 17), (8, 23), (15, 30), (21, 36), (28, 42), (34, 49)] := by decide +kernel
end Sys2Proof.Tests
end

/-! Host accesses to the register map (O18, 05 Table 5.2). Each host operation has one rule that says what it does; the
statement is assembled from them. -/

namespace Sys2Proof.Machine

open Sys2Proof

/-- An update of an existing entry of a list replaces that entry. -/
theorem updAt_eq_set {α : Type} (l : List α) (f : α → α) (d : α) {n : Nat} (h : n < l.length) :
    updAt l n f = l.set n (f (l.getD n d)) := by
  apply List.ext_getElem?
  intro k
  by_cases hk : n = k
  · subst hk
    simp only [updAt, List.getElem?_modify, List.getElem?_set, List.getD_eq_getElem?_getD, List.getElem?_eq_getElem h,
      if_true, if_pos h, Option.map_eq_map, Option.map_some, Option.getD_some]
  · simp only [updAt, List.getElem?_modify, List.getElem?_set, if_neg hk, Option.map_eq_map, Option.map_id_fun', id_eq]

theorem onChan_eq_set (s : State) (f : Chan → Chan) {n : Nat} (h : n < s.hif.chans.length) :
    s.onChan n f = { s with hif := { s.hif with chans := s.hif.chans.set n (f (chan s n)) } } := by
  simp only [State.onChan, State.mapHif, chan, updAt_eq_set _ f Chan.reset h]

/-! The rules of the single registers -/

theorem irqClear_of_ready {s : State} (hr : ready s = true) (v : U32) :
    irqClear s v = s.mapHif fun h => { h with irqStatus := h.irqStatus &&& ~~~(v.setWidth 9) } := by
  simp [irqClear, hr]

/-- The holder's write of ones clears exactly those of RESYNC, OVERRUN and FOREIGN (05 R102). -/
theorem statusWrite_of_holder {s : State} {b : Bus} {n : Nat} (hr : ready s = true)
    (ho : (chan s n).owner = busCode b) (v : U32) :
    statusWrite s b n v = s.onChan n fun c => { c with
      resync := c.resync && !v.getLsbD 6
      overrun := c.overrun && !v.getLsbD 7
      foreign := c.foreign && !v.getLsbD 8 } := by
  simp [statusWrite, hr, ho]

theorem regWrite_scratch (s : State) (b : Bus) (v : U32) :
    regWrite s b 0x020 v = s.mapHif fun h => { h with scratch := v } :=
  if_pos rfl

/-- While READY is 0 only SCRATCH takes a write (05 R101). -/
theorem regWrite_of_not_ready {s : State} (hr : ready s = false) {o : Nat} (ho : o ≠ 0x020) (b : Bus) (v : U32) :
    regWrite s b o v = s := by
  simp [regWrite, hr, ho]

/-! The rules of an access to the register map: the word it names is written or read, any other access is ignored or
reads zeros (00 R7, 05 R101). -/

/-- The access is of `n` bytes and names one aligned word of the register map. -/
def OneWord (a : BusAccess) (n : Nat) : Prop := n = 4 ∧ a.addr.toNat % 4 = 0 ∧ a.addr.toNat < 0x1000

theorem exec_registerWrite (a : BusAccess) (s : State) : exec (.registerWrite a) s = execRegisterWrite a s := rfl

theorem exec_registerWrite_of_word {a : BusAccess} (hb : a.bar2 = false) (hw : a.write = true)
    (h : OneWord a a.data.length) (s : State) :
    exec (.registerWrite a) s = .next (regWrite s a.bus a.addr.toNat (fld a.data 0 32)) := by
  unfold OneWord at h
  rw [exec_registerWrite]
  simp [execRegisterWrite, hb, hw, h]

theorem exec_registerWrite_of_not_word {a : BusAccess} (hb : a.bar2 = false) (hw : a.write = true)
    (h : ¬ OneWord a a.data.length) (s : State) :
    exec (.registerWrite a) s = .next s := by
  unfold OneWord at h
  rw [exec_registerWrite]
  simp only [execRegisterWrite, hb, hw, if_neg h, if_true, Bool.false_eq_true, if_false]

theorem exec_registerRead_of_word {a : BusAccess} (hb : a.bar2 = false) (hw : a.write = false)
    (h : OneWord a a.len) (hlo : a.addr.toNat ≠ 0x014) (s : State) :
    exec (.registerWrite a) s = .next (s.mapHif fun h => { h with rdata := le 4 (regValue s a.addr.toNat) }) := by
  unfold OneWord at h
  rw [exec_registerWrite]
  simp [execRegisterWrite, hb, hw, h, hlo]

theorem exec_registerRead_of_not_word {a : BusAccess} (hb : a.bar2 = false) (hw : a.write = false)
    (h : ¬ OneWord a a.len) (s : State) :
    exec (.registerWrite a) s = .next (s.mapHif fun h => { h with rdata := List.replicate a.len 0 }) := by
  unfold OneWord at h
  rw [exec_registerWrite]
  simp only [execRegisterWrite, hb, hw, if_neg h, Bool.false_eq_true, if_false]

/-! The clauses of O18 -/

theorem exec_irqStatusClear_of_ready {s : State} (hr : ready s = true) (v : U32) :
    exec (.irqStatusClear v) s = .next { s with hif := { s.hif with irqStatus := s.hif.irqStatus &&& ~~~(v.setWidth 9) } } :=
  congrArg Host.Outcome.next (irqClear_of_ready hr v)

theorem exec_channelStatusClear_of_holder {s : State} {b : Bus} {n : BitVec 3} (hr : ready s = true)
    (hl : s.hif.chans.length = 8) (ho : (chan s n.toNat).owner = busCode b) (v : U32) :
    exec (.channelStatusClear b n v) s = .next { s with hif := { s.hif with chans := s.hif.chans.set n.toNat { chan s n.toNat with
      resync := (chan s n.toNat).resync && !v.getLsbD 6
      overrun := (chan s n.toNat).overrun && !v.getLsbD 7
      foreign := (chan s n.toNat).foreign && !v.getLsbD 8 } } } := by
  have hn : n.toNat < s.hif.chans.length := hl ▸ n.isLt
  show Host.Outcome.next (statusWrite s b n.toNat v) = _
  rw [statusWrite_of_holder hr ho, onChan_eq_set s _ hn]

theorem exec_tickLoRead (s : State) :
    exec .tickLoRead s = .next { s with hif := { s.hif with
      tickHi := BitVec.ofNat 32 (s.clk.tick / 0x100000000)
      rdata := le 4 s.clk.tick } } := rfl

/-- SCRATCH takes a whole-word write in every state, also while READY is 0 (05 R101). -/
theorem exec_registerWrite_scratch {a : BusAccess} (hb : a.bar2 = false) (hw : a.write = true)
    (ha : a.addr = 0x020) (hd : a.data.length = 4) (s : State) :
    exec (.registerWrite a) s = .next { s with hif := { s.hif with scratch := fld a.data 0 32 } } := by
  have ho : a.addr.toNat = 0x020 := by rw [ha]; rfl
  rw [exec_registerWrite_of_word hb hw ⟨hd, by omega, by omega⟩, ho, regWrite_scratch]
  rfl

/-- While READY is 0 a write elsewhere than SCRATCH is ignored, whether it is one aligned word or not (05 R101). -/
theorem exec_registerWrite_of_not_ready {a : BusAccess} (hb : a.bar2 = false) (hw : a.write = true)
    (ha : a.addr ≠ 0x020) {s : State} (hr : ready s = false) :
    exec (.registerWrite a) s = .next s := by
  have ho : a.addr.toNat ≠ 0x020 := fun h => ha (BitVec.eq_of_toNat_eq h)
  by_cases h : OneWord a a.data.length
  · rw [exec_registerWrite_of_word hb hw h, regWrite_of_not_ready hr ho]
  · exact exec_registerWrite_of_not_word hb hw h s

/-- Settles O18: each clause is the rule of its host operation. -/
theorem hostRegisterAccess : Obligations.HostRegisterAccess := by
  intro s
  refine ⟨fun v hr => exec_irqStatusClear_of_ready hr v,
    fun b n v hr hl ho => exec_channelStatusClear_of_holder hr hl ho v,
    exec_tickLoRead s, fun a hb hw => ⟨?scratch, ?notReady, ?ignored⟩, fun a hb hw => ⟨?word, ?zeros⟩⟩
  case scratch =>
    intro ha w x y z hd
    rw [exec_registerWrite_scratch hb hw ha (by rw [hd]; rfl), hd]
  case notReady => exact fun ha hr => exec_registerWrite_of_not_ready hb hw ha hr
  case ignored =>
    intro h
    exact exec_registerWrite_of_not_word hb hw (fun k => h.elim (absurd k.1) (absurd k.2.1)) s
  case word =>
    intro hlen hal hlt ha
    have hlo : a.addr.toNat ≠ 0x014 := fun h => ha (BitVec.eq_of_toNat_eq h)
    exact exec_registerRead_of_word hb hw ⟨hlen, hal, hlt⟩ hlo s
  case zeros =>
    intro h
    exact exec_registerRead_of_not_word hb hw (fun k => h.elim (absurd k.1) (absurd k.2.1)) s

end Sys2Proof.Machine

/-! Requests that read, and requests whose change waits for a round boundary (O33, O35, O36). What a served request leaves
is said once for each shape of a command's work: a read, a change admitted, an answer without another effect. -/

namespace Sys2Proof.Machine

open Sys2Proof

/-! What a command's work reads is beside the mailbox, so it is the same once the request's id is taken. -/

@[simp] theorem planned_idTaken (s : State) (r : Req) : planned (idTaken s r) = planned s := rfl

@[simp] theorem admission_idTaken (s : State) (r : Req) (c : Cfg) : admission (idTaken s r) c = admission s c := rfl

@[simp] theorem loopSeat_idTaken (s : State) (r : Req) (c : Cfg) (o : Nat) : loopSeat (idTaken s r) c o = loopSeat s c o := rfl

section
variable {i : Instr} {s : State} {r : Req} {k : Rule} {body : OpTok → State → State × Reply}

/-- A command whose work leaves the mailbox, the instant and the compatibility level alone completes with the effect of
that work. -/
theorem completed_of_body {p : Reply} {f : State → State} {x : State} (he : exec i s = .next (gmp s r k body))
    (hb : body (tokOf s r k.cmd) (idTaken s r) = (x, p)) (hx : x.hif = (idTaken s r).hif) (hn : x.now = s.now)
    (hl : x.sys.compatRunning = s.sys.compatRunning) (hf : { x with hif := s.hif, out := s.out, fresh := s.fresh } = f s)
    (h : Accepted s r k) : ∃ t, exec i s = .next t ∧ Completed s t r k p f := by
  obtain ⟨t, ht, ha, hr⟩ := completes_of h he hb hx hn hl
  refine ⟨t, ht, ha, ?_⟩
  rw [← hf, hr]

/-- A command that is answered without another effect. -/
theorem completed_of_answer {p : Reply} (he : exec i s = .next (gmp s r k body))
    (hb : body (tokOf s r k.cmd) (idTaken s r) = (idTaken s r, p)) (h : Accepted s r k) :
    ∃ t, exec i s = .next t ∧ Completed s t r k p id :=
  completed_of_body he hb rfl rfl rfl rfl h

/-- A command that reads, and may draw free values for what it sends. -/
theorem hasRead_of_body {data : List Byte} {n : Nat} (he : exec i s = .next (gmp s r k body))
    (hb : body (tokOf s r k.cmd) (idTaken s r) = ({ idTaken s r with fresh := n }, okWith data)) (h : Accepted s r k) :
    ∃ t, exec i s = .next t ∧ HasRead s t r k data := by
  obtain ⟨t, ht, ha, hr⟩ := completes_of h he hb rfl rfl rfl
  refine ⟨t, ht, ha, ?_⟩
  rw [hr]
  rfl

/-- A command that admits its change, which then waits for its round boundary (04 R92). -/
theorem admitted_of_body {data : List Byte} (he : exec i s = .next (gmp s r k body))
    (hb : body (tokOf s r k.cmd) (idTaken s r) = admitChange (idTaken s r) (tokOf s r k.cmd) i data)
    (h : Accepted s r k) : ∃ t, exec i s = .next t ∧ Admitted i s t r k data := by
  obtain ⟨t, ht, ha, hr⟩ := completes_of h he hb rfl rfl rfl
  refine ⟨t, ht, ha, ?_, ?_⟩ <;> rw [hr] <;> rfl

/-- A command whose work is to admit its change. -/
theorem admitted_of_admitChange (he : exec i s = .next (gmp s r k fun t s => admitChange s t i)) (h : Accepted s r k) :
    ∃ t, exec i s = .next t ∧ Admitted i s t r k [] :=
  admitted_of_body he rfl h

/-- A command with a capacity that the configuration which results keeps (04 R91). -/
theorem admitted_of_capacity_kept {ok : Cfg → Bool} (he : exec i s = .next (gmp s r k fun t s => admitIf s t i ok))
    (hok : ok (cfgOf i (planned s)) = true) (h : Accepted s r k) :
    ∃ t, exec i s = .next t ∧ Admitted i s t r k [] :=
  admitted_of_body he (if_pos hok) h

/-- A command with a capacity that the configuration which results passes (04 R91). -/
theorem noSeat_of_capacity_passed {ok : Cfg → Bool} (he : exec i s = .next (gmp s r k fun t s => admitIf s t i ok))
    (hok : ok (cfgOf i (planned s)) = false) (h : Accepted s r k) :
    ∃ t, exec i s = .next t ∧ Completed s t r k noSeatCapacity id :=
  completed_of_answer he (if_neg (by simp [hok])) h

end

/-- Settles O35: each command admits its change, or where seats or a capacity decide, is refused without an effect. -/
theorem configurationOfMeteringControlAndOutputs : Obligations.ConfigurationOfMeteringControlAndOutputs := by
  intro s r
  refine ⟨fun p => ⟨?seated, ?unseated⟩, fun _ => admitted_of_admitChange rfl, fun p => ⟨?coded, ?uncoded⟩,
    fun _ => admitted_of_admitChange rfl, fun _ => admitted_of_admitChange rfl, fun _ => admitted_of_admitChange rfl,
    fun _ => admitted_of_admitChange rfl,
    fun p => ⟨fun hfit => admitted_of_capacity_kept rfl hfit, fun hfit => noSeat_of_capacity_passed rfl hfit⟩,
    fun _ => admitted_of_admitChange rfl, fun _ => admitted_of_admitChange rfl⟩
  case seated =>
    intro hadm
    exact admitted_of_body rfl (by simp [hadm])
  case unseated =>
    intro bad hadm
    exact completed_of_answer rfl (by simp [hadm])
  case coded => exact fun hcap => admitted_of_capacity_kept rfl (decide_eq_true hcap)
  case uncoded => exact fun hcap => noSeat_of_capacity_passed rfl (decide_eq_false (Nat.not_le.2 hcap))

/-! Commissioning complete, Ethernet, time, groups, schedules and the pair (O36) -/

/-- Commissioning is complete as far as the operator goes: arbitration is due from now on, for the operation `t`. -/
def arbitrationAsked (s : State) (t : OpTok) : State := s.mapSys fun y => { y with
  arbDue := true
  arbSince := s.now
  arbTok := some t }

theorem exec_commissioningComplete_of_idle {s : State} {r : Req} (harb : s.sys.arbTok = none)
    (h : Accepted s r { cmd := 0x0104, len := 0 }) :
    ∃ t, exec (.commissioningComplete r) s = .next t ∧
      Completed s t r { cmd := 0x0104, len := 0 } { status := stAccepted } fun u => arbitrationAsked u (tokOf s r 0x0104) := by
  have harb' : (idTaken s r).sys.arbTok = none := harb
  refine completed_of_body (x := arbitrationAsked (idTaken s r) (tokOf s r 0x0104)) rfl ?_ rfl rfl rfl rfl h
  simp only [harb']
  rfl

theorem exec_commissioningComplete_of_waiting {s : State} {r : Req} {held : OpTok} (harb : s.sys.arbTok = some held)
    (h : Accepted s r { cmd := 0x0104, len := 0 }) :
    ∃ t, exec (.commissioningComplete r) s = .next t ∧
      Completed s t r { cmd := 0x0104, len := 0 } { status := stBusy, detail := busyDetail held } id := by
  have harb' : (idTaken s r).sys.arbTok = some held := harb
  exact completed_of_answer rfl (by simp only [harb']; rfl) h

/-- Settles O36: each command admits its change, groups and schedules within their capacity; commissioning complete asks
for arbitration unless an earlier one waits. -/
theorem configurationOfTimeSchedulesAndPair : Obligations.ConfigurationOfTimeSchedulesAndPair := by
  intro s r
  refine ⟨fun _ => admitted_of_admitChange rfl, fun _ => admitted_of_admitChange rfl, fun _ => admitted_of_admitChange rfl,
    fun _ => admitted_of_admitChange rfl, fun _ => admitted_of_admitChange rfl,
    fun p => ⟨fun hfit => admitted_of_capacity_kept rfl hfit, fun hfit => noSeat_of_capacity_passed rfl hfit⟩,
    fun _ => admitted_of_admitChange rfl,
    fun p => ⟨fun hcap => admitted_of_capacity_kept rfl (decide_eq_true hcap),
      fun hcap => noSeat_of_capacity_passed rfl (decide_eq_false (Nat.not_le.2 hcap))⟩,
    fun _ => admitted_of_admitChange rfl, fun _ => admitted_of_admitChange rfl, fun _ => admitted_of_admitChange rfl,
    fun _ => admitted_of_admitChange rfl, fun _ => admitted_of_admitChange rfl,
    exec_commissioningComplete_of_idle, fun _ => exec_commissioningComplete_of_waiting⟩

/-! Reads of the records (O33) -/

/-- Settles O33: each command is a read of what its table names. The answers that depend on the state are a profile, an
object's seat and a trace that may be incomplete. -/
theorem recordsReads : Obligations.RecordsReads := by
  intro s r
  refine ⟨fun _ => hasRead_of_body rfl rfl, fun _ => hasRead_of_body rfl rfl, fun _ => hasRead_of_body rfl rfl,
    fun p x hx => ?profile, fun p tier engine hseat => ?seat, fun _ => hasRead_of_body rfl rfl, fun p => ?talon⟩
  case profile =>
    have hx' : profOf (idTaken s r) p.obj = some x := hx
    exact hasRead_of_body (n := s.fresh) rfl (by simp only [hx']; rfl)
  case seat =>
    have hseat' : objectSeat (idTaken s r) p.obj = some (tier, engine) := hseat
    exact hasRead_of_body (n := s.fresh) rfl (by simp only [hseat']; rfl)
  case talon =>
    exact hasRead_of_body (n := s.fresh) rfl (apply_ite (fun d => (idTaken s r, okWith d)) _ _ _).symm

/-! The doorbell poll (O22) -/

/-- A request of a command code has the meaning of its row: what the poll serves is what the command does. -/
theorem exec_eq_serve_of_requestOf {cmd : Nat} {r : Req} {b : List Byte} {i : Instr} (h : requestOf cmd r b = some i)
    (s : State) : exec i s = serve i s := by
  unfold requestOf at h
  split at h
  case h_50 =>
    -- 0x0509 adopts or releases, by ACTION
    split at h <;> (cases h; rfl)
  case h_99 =>
    -- no command has the code
    cases h
  all_goals cases h; rfl

/-- A request that a poll reads has the effect of its command. -/
theorem served_of_requestOf {cmd : Nat} {r : Req} {b : List Byte} {i : Instr} {s t : State}
    (h : requestOf cmd r b = some i) (ht : exec i s = .next t) : served i s = t := by
  rw [exec_eq_serve_of_requestOf h] at ht
  simp only [served, ht]

/-- The 16 header bytes at the head of a channel's request ring. -/
def headBytes (s : State) (n : Nat) : List Byte := ringRead s.hif.window (reqBase n) (chan s n).reqCi.toNat 16

/-- The request at the head of a channel's request ring. -/
def headReq (s : State) (n : Nat) : Req := reqOf n (headBytes s n)

/-- The command code at the head of a channel's request ring. -/
def headCmd (s : State) (n : Nat) : Nat := num (headBytes s n) 4 2

/-- The bytes that the message at the head takes, header to CRC, by its LEN. -/
def headSize (s : State) (n : Nat) : Nat := 20 + (headReq s n).len.toNat

/-- The message at the head of a channel's request ring. -/
def headMsg (s : State) (n : Nat) : List Byte := ringRead s.hif.window (reqBase n) (chan s n).reqCi.toNat (headSize s n)

/-- The CRC computed over the message at the head. -/
def headCrc (s : State) (n : Nat) : U32 := crc32 ((headMsg s n).take (headSize s n - 4))

/-- The slots of requests on a channel that the module has not read. -/
def unreadSlots (s : State) (n : Nat) : Nat := ((chan s n).reqPi - (chan s n).reqCi).toNat

/-- The message at the head has a LEN above the largest, or is longer than the slots that hold it (05 R113). -/
def HeadTooLong (s : State) (n : Nat) : Prop := 4076 < (headReq s n).len.toNat ∨ unreadSlots s n < slotsOf (headSize s n)

/-- The message at the head is taken from the ring by its slots. -/
def headTaken (s : State) (n : Nat) : State :=
  s.onChan n fun c => { c with reqCi := c.reqCi + BitVec.ofNat 16 (slotsOf (headSize s n)) }

theorem pollChan_of_idle {s : State} {n : Nat} (h : readable s n = false ∨ unreadSlots s n = 0) : pollChan s n = s :=
  if_pos (show (!readable s n || decide (unreadSlots s n = 0)) = true by simpa using h)

section
variable {s : State} {n : Nat} (hr : readable s n = true) (hu : 0 < unreadSlots s n)
include hr hu

/-- A channel that is served and has an unread request is not passed over. -/
theorem not_idle : ¬ (!readable s n || decide (unreadSlots s n = 0)) = true := by
  simp [hr, Nat.ne_of_gt hu]

/-- A message too long is answered, and the requests behind it go with it. -/
theorem pollChan_of_tooLong (h : HeadTooLong s n) :
    pollChan s n = place (s.onChan n fun c => { c with
      reqCi := c.reqPi
      resync := true }) n (rspMsg s (headReq s n) (headCmd s n) { status := 0x0101, info := 1, detail := headSize s n }) :=
  (if_neg (not_idle hr hu)).trans (if_pos h)

/-- A message with a bad CRC is taken and answered with the CRC computed. -/
theorem pollChan_of_badCrc (h : ¬ HeadTooLong s n)
    (hc : num (headMsg s n) (headSize s n - 4) 4 ≠ (headCrc s n).toNat) :
    pollChan s n = place (headTaken s n) n
      (rspMsg (headTaken s n) (headReq s n) (headCmd s n) { status := 0x0103, detail := (headCrc s n).toNat }) :=
  (if_neg (not_idle hr hu)).trans ((if_neg h).trans (if_pos hc))

/-- A whole message with a good CRC is taken, and the request it holds is served. -/
theorem pollChan_of_goodCrc (h : ¬ HeadTooLong s n)
    (hc : num (headMsg s n) (headSize s n - 4) 4 = (headCrc s n).toNat) {i : Instr}
    (hi : requestOf (headCmd s n) (headReq s n) (cut (headMsg s n) 16 (headReq s n).len.toNat) = some i) :
    pollChan s n = served i (headTaken s n) := by
  refine (if_neg (not_idle hr hu)).trans ((if_neg h).trans ((if_neg fun hne => hne hc).trans ?_))
  change (match requestOf (headCmd s n) (headReq s n) (cut (headMsg s n) 16 (headReq s n).len.toNat) with
    | some i => served i (headTaken s n)
    | none => _) = _
  rw [hi]

end

/-- A poll is counted in its tick (05 R106). -/
def pollCounted (s : State) : State := { s with clk := { s.clk with poll := s.clk.poll + 1 } }

/-- A poll that is left in its tick is counted; unless its work is lost, it treats the channels in ascending order. -/
theorem exec_doorbellPoll {s : State} (hrun : s.clk.running = true) (hreset : s.sys.inReset = false)
    (hpoll : s.clk.poll < 16) (hend : s.sec.endOwner = false) :
    exec .doorbellPoll s =
      .next (if workLost s 0 then pollCounted s else (List.range 8).foldl pollChan (pollCounted s)) := by
  have hruns : ¬ (!s.clk.running || s.sys.inReset || decide (16 ≤ s.clk.poll)) = true := by
    simp [hrun, hreset, hpoll]
  have hcount : endOldOwner (s.mapClk fun c => { c with poll := c.poll + 1 }) = pollCounted s :=
    if_neg (by simp [hend])
  show Host.Outcome.next (ite _ _ _) = _
  rw [if_neg hruns, hcount]
  rfl

/-- Settles O22: the poll's own step, then each of the four things that it does with a channel. -/
theorem pollServesTheHeadOfEachRing : Obligations.PollServesTheHeadOfEachRing := by
  intro s hrun hreset hpoll hend
  refine ⟨fun hlost => ?lost, fun hlost => ?kept, fun u n => ⟨pollChan_of_idle, ?whole, pollChan_of_tooLong⟩⟩
  case lost => rw [exec_doorbellPoll hrun hreset hpoll hend, hlost]; rfl
  case kept => rw [exec_doorbellPoll hrun hreset hpoll hend, hlost]; rfl
  case whole =>
    intro hr hu hlen hslots
    have hfits : ¬ HeadTooLong u n := not_or.2 ⟨Nat.not_lt.2 hlen, Nat.not_lt.2 hslots⟩
    exact ⟨pollChan_of_badCrc hr hu hfits, fun hc i t hi ht =>
      (pollChan_of_goodCrc hr hu hfits hc hi).trans (served_of_requestOf hi ht)⟩

end Sys2Proof.Machine

/-! Status reads (O13, 06 R144). What each table tells is beside the mailbox, so it is the same once the request's id is
taken, and the request answers the table as it stood when it came. -/

namespace Sys2Proof.Machine

open Sys2Proof

@[simp] theorem identityData_idTaken (s : State) (r : Req) : identityData (idTaken s r) = identityData s := rfl

@[simp] theorem statusData_idTaken (s : State) (r : Req) : statusData (idTaken s r) = statusData s := rfl

@[simp] theorem adviceData_idTaken (s : State) (r : Req) (k : Nat) : adviceData (idTaken s r) k = adviceData s k := rfl

@[simp] theorem securityData_idTaken (s : State) (r : Req) : securityData (idTaken s r) = securityData s := rfl

@[simp] theorem updStatusData_idTaken (s : State) (r : Req) : updStatusData (idTaken s r) = updStatusData s := rfl

/-- What the inputs are read as (06 Table 6.10). -/
def inputsData (s : State) : List Byte :=
  le 8 s.clk.tick ++ le 2 s.outs.di.toNat ++ le 2 0 ++ (s.outs.ai.map fun v => leInt 4 v).flatten

@[simp] theorem inputsData_idTaken (s : State) (r : Req) : inputsData (idTaken s r) = inputsData s := rfl

/-- The advice on the six kinds of element (15 R397). -/
def kittyData (s : State) : List Byte := ((List.range 6).map fun k => adviceData s k).flatten

@[simp] theorem kittyData_idTaken (s : State) (r : Req) : kittyData (idTaken s r) = kittyData s := by
  simp only [kittyData, adviceData_idTaken]

/-- A command whose work is to answer what `table` tells of the state, which taking the request's id does not change. -/
theorem hasRead_of_table {i : Instr} {s : State} {r : Req} {k : Rule} {table : State → List Byte}
    (he : exec i s = .next (gmp s r k fun _ u => (u, okWith (table u)))) (htable : table (idTaken s r) = table s)
    (h : Accepted s r k) : ∃ t, exec i s = .next t ∧ HasRead s t r k (table s) :=
  hasRead_of_body (n := s.fresh) he (by rw [htable]; rfl) h

/-- Settles O13: each command answers its table of the state. -/
theorem statusReadsAnswer : Obligations.StatusReadsAnswer := by
  intro s r
  refine ⟨?identity, ?status, ?inputs, ?kitty, ?security, ?update⟩
  case identity => exact hasRead_of_table rfl (identityData_idTaken s r)
  case status => exact hasRead_of_table rfl (statusData_idTaken s r)
  case inputs => exact hasRead_of_table rfl (inputsData_idTaken s r)
  case kitty => exact hasRead_of_table rfl (kittyData_idTaken s r)
  case security => exact hasRead_of_table rfl (securityData_idTaken s r)
  case update => exact hasRead_of_table rfl (updStatusData_idTaken s r)

end Sys2Proof.Machine

/-! The control engine (O39, O40, O41, 08): the demand loop, the limits and the low card, and the commands of group 0x03. -/

namespace Sys2Proof.Machine

open Sys2Proof

/-! The demand loop (08 R192) -/

/-- The valid value of a loop's FF source, if it has one (08 R194). -/
def ffInput (s : State) (l : LoopCfg) : Option Int := if l.ffSrc = 0 then none else srcValue s.ctl.cib l.ffSrc

/-- The feed-forward term of a loop, 0 without a valid FF source (08 R192, R194). -/
def ffTerm (s : State) (l : LoopCfg) : Int :=
  match ffInput s l with
  | some v => gainTerm (activeBank l).kff v
  | none => 0

/-- A bank with the integrator's and the notches' coefficients of another. -/
def bankLaidOver (x k : Bank) : Bank := { x with
  kp := k.kp
  ki := k.ki
  kd := k.kd
  n1f := k.n1f
  n1q := k.n1q
  n2f := k.n2f
  n2q := k.n2q }

/-- A loop with other coefficients of the integrator and the notches in both banks, and other D_EN and P_ONLY. -/
def loopLaidOver (l : LoopCfg) (a b : Bank) (dEn pOnly : Bool) : LoopCfg := { l with
  bankA := bankLaidOver l.bankA a
  bankB := bankLaidOver l.bankB b
  dEn := dEn
  pOnly := pOnly }

theorem limitU_bankLaidOver (l : LoopCfg) (x k : Bank) (v y : Int) : limitU l (bankLaidOver x k) v y = limitU l x v y := rfl

section
variable (l : LoopCfg) (a b : Bank) (dEn pOnly : Bool)

theorem activeBank_loopLaidOver :
    activeBank (loopLaidOver l a b dEn pOnly) = bankLaidOver (activeBank l) (if l.activeB then b else a) := by
  unfold activeBank loopLaidOver
  cases l.activeB <;> rfl

theorem ffTerm_loopLaidOver (s : State) : ffTerm s (loopLaidOver l a b dEn pOnly) = ffTerm s l := by
  unfold ffTerm
  rw [activeBank_loopLaidOver]
  rfl

theorem limitU_loopLaidOver (v y : Int) :
    limitU (loopLaidOver l a b dEn pOnly) (activeBank (loopLaidOver l a b dEn pOnly)) v y = limitU l (activeBank l) v y := by
  rw [activeBank_loopLaidOver, limitU_bankLaidOver]
  rfl

end

section
variable {s : State} {l : LoopCfg} {r : LoopRt} {sp : Int} (hpv : l.pvSrc = 0) (hsp : setPointOf s l r = some sp)
include hpv hsp

/-- A demand loop with a set-point in force is evaluated without its integrator, and its v is limited (08 R191, R192). -/
theorem evalLoop_of_demand (free : Nat) (y : Int) :
    (evalLoop s free l r y).ex = false ∧ (evalLoop s free l r y).rt = { evalDemand l r sp (ffInput s l) with
      u := (limitU l (activeBank l) (sp * unit9 + ffTerm s l) y).1
      excluded := false } := by
  unfold evalLoop
  simp only [hpv, hsp, if_true]
  exact ⟨trivial, rfl⟩

theorem evalLoop_v_of_demand (free : Nat) (y : Int) : (evalLoop s free l r y).rt.v = sp * unit9 + ffTerm s l := by
  rw [(evalLoop_of_demand hpv hsp free y).2]
  rfl

theorem evalLoop_u_of_demand (free : Nat) (y : Int) :
    (evalLoop s free l r y).rt.u = (limitU l (activeBank l) (evalLoop s free l r y).rt.v y).1 := by
  rw [evalLoop_v_of_demand hpv hsp, (evalLoop_of_demand hpv hsp free y).2]

theorem evalLoop_integ_of_demand (free : Nat) (y : Int) : (evalLoop s free l r y).rt.integ = r.integ := by
  rw [(evalLoop_of_demand hpv hsp free y).2]
  rfl

/-- What a demand loop computes does not depend on the coefficients and the options of an integrator (08 R192). -/
theorem evalLoop_loopLaidOver (free : Nat) (y : Int) (a b : Bank) (dEn pOnly : Bool) :
    (evalLoop s free (loopLaidOver l a b dEn pOnly) r y).rt.v = (evalLoop s free l r y).rt.v ∧
      (evalLoop s free (loopLaidOver l a b dEn pOnly) r y).rt.u = (evalLoop s free l r y).rt.u := by
  have hpv' : (loopLaidOver l a b dEn pOnly).pvSrc = 0 := hpv
  have hsp' : setPointOf s (loopLaidOver l a b dEn pOnly) r = some sp := hsp
  have hv : (evalLoop s free (loopLaidOver l a b dEn pOnly) r y).rt.v = (evalLoop s free l r y).rt.v := by
    rw [evalLoop_v_of_demand hpv' hsp', evalLoop_v_of_demand hpv hsp, ffTerm_loopLaidOver]
  refine ⟨hv, ?_⟩
  rw [evalLoop_u_of_demand hpv' hsp', evalLoop_u_of_demand hpv hsp, hv, limitU_loopLaidOver]

end

/-- Selection moves no integrator of a demand loop (08 R192, R196). -/
theorem settle_integ_of_demand {l : LoopCfg} (hpv : l.pvSrc = 0) (s : State) (e : LoopEval) (sel : Selection) :
    (settle s l e sel).integ = e.rt.integ :=
  if_pos hpv

theorem firstBad_eq_none_iff (l : List (Nat × Bool)) : firstBad l = none ↔ ∀ c ∈ l, c.2 = true := by
  induction l with
  | nil => simp [firstBad]
  | cons c l ih =>
    obtain ⟨o, ok⟩ := c
    cases ok <;> simp [firstBad, ih]

/-- Command 0x0305 refuses a set-point outside 0 to 10,000 for a demand loop (08 R192, R200). -/
theorem setPointChecks_range {s : State} {p : SetPointP} {l : LoopCfg} (hl : cfgLoopOf s.cfg (refIndex p.loop) = some l)
    (hpv : l.pvSrc = 0) (hok : firstBad (setPointChecks s p) = none) : 0 ≤ i32 p.sp ∧ i32 p.sp ≤ 10000 := by
  rw [firstBad_eq_none_iff, setPointChecks, hl] at hok
  have hrange := hok (0x14, _) (.tail _ (.head _))
  simpa [hpv] using hrange

/-- Settles O39: the parts are the rules of a demand loop's evaluation, of its settling and of command 0x0305. -/
theorem demandLoop : Obligations.DemandLoop := by
  intro s free l r y sp hpv hsp
  exact ⟨(evalLoop_of_demand hpv hsp free y).1, evalLoop_v_of_demand hpv hsp free y, evalLoop_u_of_demand hpv hsp free y,
    evalLoop_integ_of_demand hpv hsp free y,
    fun sel => (settle_integ_of_demand hpv s _ sel).trans (evalLoop_integ_of_demand hpv hsp free y),
    evalLoop_loopLaidOver hpv hsp free y,
    fun _ hl hok => setPointChecks_range hl hpv hok⟩

/-! The limits of an output (08 R191, R199) -/

theorem clampInt_eq_max_min {lo hi : Int} (h : lo ≤ hi) (v : Int) : clampInt v lo hi = max lo (min v hi) := by
  unfold clampInt
  split
  case isTrue hlo => omega
  case isFalse hlo => split <;> omega

/-- A value `c` brought to within the ramps of a loop about the released value `y`, a ramp of 0 meaning none. -/
def ramped (l : LoopCfg) (c y : Int) : Int :=
  if l.rampUp ≠ 0 ∧ y + 125 * (l.rampUp : Int) < c then y + 125 * (l.rampUp : Int)
  else if l.rampDn ≠ 0 ∧ c < y - 125 * (l.rampDn : Int) then y - 125 * (l.rampDn : Int)
  else c

theorem limitU_eq_ramped (l : LoopCfg) (b : Bank) (v y : Int) :
    (limitU l b v y).1 = ramped l (clampInt v (b.outMin * unit9) (b.outMax * unit9)) y := by
  simp [limitU, ramped]

theorem ramped_le {l : LoopCfg} (h : l.rampUp ≠ 0) (c y : Int) : ramped l c y ≤ y + 125 * (l.rampUp : Int) := by
  unfold ramped
  split
  · exact Int.le_refl _
  · split <;> omega

theorem le_ramped {l : LoopCfg} (h : l.rampDn ≠ 0) (c y : Int) : y - 125 * (l.rampDn : Int) ≤ ramped l c y := by
  unfold ramped
  split
  · omega
  · split <;> omega

/-! The low card (08 R195) -/

/-- A candidate stands before another, or is no different: lower u, then lower KIND, then lower LOOP index. -/
def Candidate.NotAbove (a b : Candidate) : Prop :=
  a.u < b.u ∨ (a.u = b.u ∧ (a.kind < b.kind ∨ (a.kind = b.kind ∧ a.idx ≤ b.idx)))

theorem Candidate.NotAbove.refl (a : Candidate) : a.NotAbove a := .inr ⟨rfl, .inr ⟨rfl, Nat.le_refl _⟩⟩

theorem Candidate.NotAbove.trans {a b c : Candidate} (h : a.NotAbove b) (k : b.NotAbove c) : a.NotAbove c := by
  unfold NotAbove at *
  omega

/-- The lower of two candidates is one of them and is above neither. -/
theorem lower_does (a b : Candidate) : (lower a b = a ∨ lower a b = b) ∧ (lower a b).NotAbove a ∧ (lower a b).NotAbove b := by
  unfold lower
  split
  next hu => exact ⟨.inl rfl, .refl a, .inl hu⟩
  split
  next hu' => exact ⟨.inr rfl, .inl hu', .refl b⟩
  split
  next hk => exact ⟨.inl rfl, .refl a, .inr ⟨by omega, .inl hk⟩⟩
  split
  next hk' => exact ⟨.inr rfl, .inr ⟨by omega, .inl hk'⟩, .refl b⟩
  split
  next hi => exact ⟨.inl rfl, .refl a, .inr ⟨by omega, .inr ⟨by omega, hi⟩⟩⟩
  next => exact ⟨.inr rfl, .inr ⟨by omega, .inr ⟨by omega, by omega⟩⟩, .refl b⟩

/-- The lowest of a list of candidates and one more is one of them and is above none. -/
theorem foldl_lower_does (l : List Candidate) (a : Candidate) :
    l.foldl lower a ∈ a :: l ∧ ∀ c ∈ a :: l, (l.foldl lower a).NotAbove c := by
  induction l generalizing a with
  | nil => exact ⟨.head _, fun c hc => List.mem_singleton.1 hc ▸ .refl a⟩
  | cons b l ih =>
    obtain ⟨hmem, hlow⟩ := ih (lower a b)
    obtain ⟨hone, ha, hb⟩ := lower_does a b
    rw [List.foldl_cons]
    refine ⟨?_, fun c hc => ?_⟩
    · rcases List.mem_cons.1 hmem with h | h
      · rw [h]
        rcases hone with k | k <;> simp [k]
      · simp [h]
    · have hfirst := hlow (lower a b) (.head _)
      rcases List.mem_cons.1 hc with rfl | hc
      · exact hfirst.trans ha
      · rcases List.mem_cons.1 hc with rfl | hc
        · exact hfirst.trans hb
        · exact hlow c (.tail _ hc)

/-- Settles O40: the limits are a clamp and a ramp, and the low card a fold of the lower of two. -/
theorem limitsAndTheLowCard : Obligations.LimitsAndTheLowCard := by
  refine ⟨fun l b v y hlim => ?limits, fun l hl => ?lowest⟩
  case limits =>
    have hlo : b.outMin * unit9 ≤ b.outMax * unit9 := Int.mul_le_mul_of_nonneg_right hlim (by decide)
    rw [limitU_eq_ramped, clampInt_eq_max_min hlo]
    exact ⟨rfl, fun h => ramped_le h _ y, fun h => le_ramped h _ y⟩
  case lowest =>
    cases l with
    | nil => exact absurd rfl hl
    | cons a l => exact ⟨_, (foldl_lower_does l a).1, rfl, (foldl_lower_does l a).2⟩

/-! Shadow coefficients, bank swaps and set-points (08 R190, R200, R204, R205) -/

section
variable {s : State} {r : Req}

/-- How command 0x0303 is checked (08 R190). -/
def shadowRule (s : State) (p : ShadowCoefficientsP) : Rule where
  cmd := 0x0303
  len := 36
  fields := shadowChecks s p

/-- Shadow coefficients replace the loop's shadow bank at once where no swap of its group waits (08 R190). -/
theorem exec_shadowCoefficients_of_free {p : ShadowCoefficientsP}
    (hfree : swapPending s (((cfgLoopOf s.cfg (refIndex p.loop)).map (·.group)).getD 0) = false)
    (h : Accepted s r (shadowRule s p)) :
    ∃ t, exec (.shadowCoefficients r p) s = .next t ∧
      Completed s t r (shadowRule s p) {} fun s => { s with cfg := cfgShadow p s.cfg } := by
  have hfree' : ¬ swapPending (idTaken s r) (((cfgLoopOf (idTaken s r).cfg (refIndex p.loop)).map (·.group)).getD 0) = true :=
    Bool.eq_false_iff.1 hfree
  exact completed_of_body (x := (idTaken s r).mapCfg (cfgShadow p)) rfl (if_neg hfree') rfl rfl rfl rfl h

/-- A pending swap with the coefficients of a loop behind it, if it is one of group `g` (08 Table 8.7). -/
def withLate (g i : Nat) (b : Bank) (x : PendSwap) : PendSwap :=
  if x.group == g && !x.taken then { x with late := x.late ++ [(i, b)] } else x

/-- Shadow coefficients wait behind a pending swap of their loop's group (08 Table 8.7). -/
theorem exec_shadowCoefficients_of_pending {p : ShadowCoefficientsP} {g : Nat}
    (hg : ((cfgLoopOf s.cfg (refIndex p.loop)).map (·.group)).getD 0 = g) (hpend : swapPending s g = true)
    (h : Accepted s r (shadowRule s p)) :
    ∃ t, exec (.shadowCoefficients r p) s = .next t ∧
      Completed s t r (shadowRule s p) {} fun s => { s with
        ctl := { s.ctl with swaps := s.ctl.swaps.map (withLate g (refIndex p.loop) (bankOf p)) } } := by
  subst hg
  have hpend' : swapPending (idTaken s r) (((cfgLoopOf (idTaken s r).cfg (refIndex p.loop)).map (·.group)).getD 0) = true := hpend
  exact completed_of_body (x := (idTaken s r).mapCtl _) rfl (if_pos hpend') rfl rfl rfl rfl h

theorem find_swap_of_free {g : Nat} (hfree : swapPending s g = false) :
    s.ctl.swaps.find? (fun x => x.group == g && !x.taken) = none := by
  rw [List.find?_eq_none]
  exact fun x hx => List.any_eq_false.1 hfree x hx

/-- How command 0x0304 is checked (08 R204). -/
def bankSwapRule (s : State) (p : BankSwapP) : Rule where
  cmd := 0x0304
  len := 4
  fields := [(0x10, s.cfg.loops.any fun l => l.group == p.group.toNat), (0x12, p.rsv == 0)]

/-- The swap that command 0x0304 asks for: it takes force in the next tick (08 R204). -/
def askedSwap (s : State) (r : Req) (p : BankSwapP) : PendSwap where
  group := p.group.toNat
  tok := tokOf s r 0x0304
  tick := s.clk.tick + 1
  late := []
  taken := false

/-- A bank swap is accepted for the next tick where none of its group waits (08 R204, R205). -/
theorem exec_bankSwap_of_free {p : BankSwapP} (hfree : swapPending s p.group.toNat = false)
    (h : Accepted s r (bankSwapRule s p)) :
    ∃ t, exec (.bankSwap r p) s = .next t ∧
      Completed s t r (bankSwapRule s p) { status := stAccepted, data := le 8 (s.clk.tick + 1) } fun s => { s with
        ctl := { s.ctl with swaps := s.ctl.swaps ++ [askedSwap s r p] } } := by
  have hnone : (idTaken s r).ctl.swaps.find? (fun x => x.group == p.group.toNat && !x.taken) = none := find_swap_of_free hfree
  exact completed_of_body (x := (idTaken s r).mapCtl fun c => { c with swaps := c.swaps ++ [askedSwap s r p] }) rfl
    (by simp only [hnone]; rfl) rfl rfl rfl rfl h

/-- A second bank swap for a group is BUSY, naming the first (08 R205). -/
theorem exec_bankSwap_of_pending {p : BankSwapP} {x : PendSwap}
    (hfirst : s.ctl.swaps.find? (fun x => x.group == p.group.toNat && !x.taken) = some x)
    (h : Accepted s r (bankSwapRule s p)) :
    ∃ t, exec (.bankSwap r p) s = .next t ∧ Completed s t r (bankSwapRule s p) (busyBy x.tok) id := by
  have hfirst' : (idTaken s r).ctl.swaps.find? (fun x => x.group == p.group.toNat && !x.taken) = some x := hfirst
  exact completed_of_answer rfl (by simp only [hfirst']) h

theorem loopRt_idx (s : State) (i : Nat) : (loopRt s i).idx = i := by
  unfold loopRt
  cases hfind : s.ctl.loops.find? fun r => r.idx == i with
  | none => rfl
  | some x => simpa using List.find?_some hfind

/-- One loop's runtime replaced: the others stay. -/
theorem putLoops_singleton (s : State) (x : LoopRt) :
    putLoops s [x] = s.mapCtl fun c => { c with loops := c.loops.map fun y => if y.idx = x.idx then x else y } := by
  have hone : ∀ y : LoopRt, ([x].find? fun z => z.idx == y.idx).getD y = if y.idx = x.idx then x else y := by
    intro y
    by_cases hy : y.idx = x.idx
    · simp [hy]
    · simp [hy, Ne.symm hy]
  simp only [putLoops, hone]

/-- A command answered OK waits to be replayed in the next tick where a declarer in a pair has done it, and nowhere else
(06 R140, 14 R371). -/
theorem passOn_ok (i : Instr) (s : State) (d : List Byte) :
    passOn i (s, okWith d) = (s.mapPair fun q => if paired s = true ∧ s.sys.mode = .declarer then
      { q with replays := q.replays ++ [(s.clk.tick + 1, requestBytes i)] } else q, okWith d) := by
  by_cases hpair : paired s = true ∧ s.sys.mode = .declarer
  · have hpass : (okWith d).status ≤ stAccepted ∧ paired s = true ∧ s.sys.mode = .declarer := ⟨Nat.zero_le _, hpair⟩
    simp only [passOn, if_pos hpass, if_pos hpair]
  · have hkeep : ¬ ((okWith d).status ≤ stAccepted ∧ paired s = true ∧ s.sys.mode = .declarer) := fun h => hpair h.2
    simp only [passOn, if_neg hkeep, if_neg hpair]
    rfl

/-- How command 0x0305 is checked (08 R200). -/
def setPointRule (s : State) (p : SetPointP) : Rule where
  cmd := 0x0305
  len := 8
  fields := setPointChecks s p

/-- A set-point waits for the next tick, which its answer names, and passes to a dummy (08 R200, 06 R140). -/
theorem exec_setPoint {p : SetPointP} (h : Accepted s r (setPointRule s p)) :
    ∃ t, exec (.setPoint r p) s = .next t ∧
      Completed s t r (setPointRule s p) (okWith (le 8 (s.clk.tick + 1))) fun s => { s with
        ctl := { s.ctl with loops := s.ctl.loops.map fun x =>
          if x.idx = refIndex p.loop then { loopRt s (refIndex p.loop) with spNext := some (i32 p.sp) } else x }
        pair := if paired s = true ∧ s.sys.mode = .declarer then
          { s.pair with replays := s.pair.replays ++ [(s.clk.tick + 1, requestBytes (.setPoint r p))] } else s.pair } := by
  refine completed_of_body rfl (passOn_ok _ (effSetPoint p (idTaken s r)).1 _) rfl rfl rfl ?_ h
  simp only [effSetPoint, putLoops_singleton, loopRt_idx]
  rfl

end

/-! A swap takes force (08 R204, Table 8.7, 13 R341) -/

theorem recordsOnly_foldl {α : Type} {f : State → α → State} (hf : ∀ s a, RecordsOnly s (f s a)) (l : List α) (s : State) :
    RecordsOnly s (l.foldl f s) := by
  induction l generalizing s with
  | nil => exact .refl s
  | cons a l ih => exact (hf s a).trans (ih _)

theorem recordsOnly_belowFloor (s : State) (l : LoopCfg) : RecordsOnly s (belowFloor s l) := by
  simp only [belowFloor]
  split
  · exact recordsOnly_event _ _ _ _
  · exact .refl s

/-- A loop with its banks exchanged if it is one of group `g`. -/
def swappedIn (g : Nat) (l : LoopCfg) : LoopCfg := if l.group == g then swapped l else l

/-- Each loop is found again after a swap: one of another group as it was, one of the group with its former shadow bank
active and copied to the new shadow. -/
theorem swappedIn_does (g : Nat) (l : LoopCfg) : (swappedIn g l).idx = l.idx ∧ (l.group ≠ g → swappedIn g l = l) ∧
    (l.group = g → activeBank (swappedIn g l) = (if l.activeB then l.bankA else l.bankB) ∧
      (swappedIn g l).bankA = (swappedIn g l).bankB) := by
  by_cases hg : l.group = g
  · have hs : swappedIn g l = swapped l := if_pos (beq_iff_eq.2 hg)
    rw [hs]
    refine ⟨rfl, (absurd hg ·), fun _ => ⟨?_, rfl⟩⟩
    simp [activeBank, swapped, shadowBank]
  · have hs : swappedIn g l = l := if_neg (fun h => hg (beq_iff_eq.1 h))
    exact ⟨congrArg _ hs, fun _ => hs, (absurd · hg)⟩

/-- A swap with nothing behind it exchanges the banks of its group's loops and is taken; beside the control state only
records follow. -/
theorem takeSwap_does {s : State} {x : PendSwap} (hlate : x.late = []) :
    (takeSwap s x).cfg.loops = s.cfg.loops.map (swappedIn x.group) ∧
      (takeSwap s x).ctl.swaps = s.ctl.swaps.map (fun y => if y == x then { y with taken := true } else y) ∧
      takeSwap s x = { s with
        ctl := (takeSwap s x).ctl
        cfg := { s.cfg with loops := (takeSwap s x).cfg.loops }
        rcd := (takeSwap s x).rcd
        fresh := (takeSwap s x).fresh } := by
  have hrec : ∀ u, RecordsOnly u ((u.cfg.loops.filter fun l => l.group == x.group).foldl belowFloor u) :=
    fun u => recordsOnly_foldl recordsOnly_belowFloor _ u
  simp only [takeSwap, hlate, List.foldl_nil]
  rw [(hrec _).rest]
  exact ⟨rfl, rfl, rfl⟩

section
variable {s : State}

/-- The one swap that waits takes force from its tick on. -/
theorem exec_bankSwapTakeForce_of_due {x : PendSwap} (hone : s.ctl.swaps = [x]) (hnew : x.taken = false)
    (hdue : x.tick ≤ s.clk.tick) : exec .bankSwapTakeForce s = .next (takeSwap s x) := by
  show Host.Outcome.next (List.foldl takeSwap s _) = _
  simp [hone, hnew, hdue]

/-- Swaps that are taken, or whose tick has not come, stay as they are. -/
theorem exec_bankSwapTakeForce_of_early (h : ∀ x ∈ s.ctl.swaps, x.taken = true ∨ s.clk.tick < x.tick) :
    exec .bankSwapTakeForce s = .next s := by
  have hnone : (s.ctl.swaps.filter fun x => !x.taken && decide (x.tick ≤ s.clk.tick)) = [] := by
    rw [List.filter_eq_nil_iff]
    intro x hx
    rcases h x hx with htaken | hearly
    · simp [htaken]
    · simp [Nat.not_le.2 hearly]
  show Host.Outcome.next (List.foldl takeSwap s _) = _
  rw [hnone]
  rfl

end

/-! Talon traces (08 R210, R211) -/

/-- A trace armed at instant `now`: it starts empty at the next tick with the traces of `mask` (08 R211). -/
def armed (now : Nat) (mask : U8) (t : Trace) : Trace := { t with
  phase := 1
  armTick := now + 1
  mask := mask
  samples := []
  trigTick := 0
  after := 0
  swapped := false }

/-- The traces of a slice pair that a mask chooses: those that are configured (08 R211). -/
def chosenTraces (s : State) (cp : Nat) (mask : U8) : List Nat :=
  (List.range 8).filter fun n => mask.getLsbD n && (traceOf s cp n).src != 0

theorem mem_chosenTraces {s : State} {cp n : Nat} {mask : U8} (hn : n < 8) :
    n ∈ chosenTraces s cp mask ↔ mask.getLsbD n = true ∧ (traceOf s cp n).src ≠ 0 := by
  simp [chosenTraces, hn]

theorem nodup_chosenTraces (s : State) (cp : Nat) (mask : U8) : (chosenTraces s cp mask).Nodup := List.nodup_range.filter _

section
variable {α : Type} (f : α → α) (d : α)

theorem getD_updAt_ne (l : List α) {k n : Nat} (h : n ≠ k) : (updAt l k f).getD n d = l.getD n d := by
  simp [updAt, List.getD_eq_getElem?_getD, Ne.symm h]

theorem getD_updAt_same (l : List α) {n : Nat} (hn : n < l.length) : (updAt l n f).getD n d = f (l.getD n d) := by
  simp [updAt, List.getD_eq_getElem?_getD, hn]

/-- Distinct entries of a list updated: each of them once, the others not at all. -/
theorem getD_foldl_updAt {ns : List Nat} (hns : ns.Nodup) (l : List α) {n : Nat} (hn : n < l.length) :
    (ns.foldl (fun l k => updAt l k f) l).getD n d = if n ∈ ns then f (l.getD n d) else l.getD n d := by
  induction ns generalizing l with
  | nil => rfl
  | cons k ns ih =>
    obtain ⟨hk, hns⟩ := List.nodup_cons.1 hns
    rw [List.foldl_cons, ih hns _ (by simpa [updAt] using hn)]
    by_cases hnk : n = k
    · subst hnk
      rw [getD_updAt_same f d l hn]
      simp [hk]
    · rw [getD_updAt_ne f d l hnk]
      simp [hnk]

end

/-- Traces of one slice pair armed one after the other change its list of traces and nothing else. -/
theorem foldl_onTrace_armed (cp : Nat) (mask : U8) (ns : List Nat) (s : State) :
    ns.foldl (fun u n => u.onTrace cp n (armed u.now mask)) s = s.mapCtl fun c => { c with
      traces := updAt c.traces cp fun l => ns.foldl (fun l n => updAt l n (armed s.now mask)) l } := by
  induction ns generalizing s with
  | nil =>
    have hid : updAt s.ctl.traces cp (fun l => l) = s.ctl.traces := List.modify_id cp s.ctl.traces
    simp only [List.foldl_nil, State.mapCtl, hid]
  | cons n ns ih =>
    rw [List.foldl_cons, ih]
    simp only [State.onTrace, State.mapCtl, updAt, List.modify_modify_eq, List.foldl_cons]
    rfl

/-- The traces of every slice pair once those that a mask chooses of pair `cp` are armed (08 R211). -/
def tracesArmed (s : State) (cp : Nat) (mask : U8) : List (List Trace) :=
  updAt s.ctl.traces cp fun l => (chosenTraces s cp mask).foldl (fun l n => updAt l n (armed s.now mask)) l

theorem getD_tracesArmed_ne (s : State) {cp c : Nat} (mask : U8) (hc : c ≠ cp) :
    (tracesArmed s cp mask).getD c [] = s.ctl.traces.getD c [] :=
  getD_updAt_ne _ _ _ hc

theorem getD_tracesArmed (s : State) {cp n : Nat} (mask : U8) (hcp : cp < s.ctl.traces.length) (h8 : n < 8)
    (hn : n < (s.ctl.traces.getD cp []).length) :
    ((tracesArmed s cp mask).getD cp []).getD n Trace.reset =
      if mask.getLsbD n = true ∧ (traceOf s cp n).src ≠ 0 then armed s.now mask (traceOf s cp n) else traceOf s cp n := by
  rw [tracesArmed, getD_updAt_same _ _ _ hcp, getD_foldl_updAt _ _ (nodup_chosenTraces s cp mask) _ hn]
  simp only [mem_chosenTraces h8]
  rfl

section
variable {s : State} {r : Req}

/-- How command 0x0307 is checked (08 R210). -/
def traceRule (s : State) (p : ConfigureTalonTraceP) : Rule where
  cmd := 0x0307
  len := 16
  fields := traceChecks s p

/-- A talon trace is set up idle and empty (08 R210, log 34). -/
theorem exec_configureTalonTrace {p : ConfigureTalonTraceP}
    (h : Accepted s r (traceRule s p)) :
    ∃ t, exec (.configureTalonTrace r p) s = .next t ∧
      Completed s t r (traceRule s p) {} fun s => { s with
        ctl := { s.ctl with traces := s.ctl.traces.modify p.cp.toNat fun l => l.modify p.trace.toNat fun _ => { Trace.reset with
          src := p.src.toNat
          loop := if 0x8000 ≤ p.src.toNat then 64 else refIndex p.loop
          decim := p.decim.toNat
          trig := p.trig.toNat
          pre := p.pre.toNat
          level := i32 p.level } } } :=
  completed_of_body (x := (idTaken s r).onTrace p.cp.toNat p.trace.toNat _) rfl rfl rfl rfl rfl rfl h

/-- Arming answers OK and arms the chosen traces of its slice pair. -/
theorem exec_armTalon {p : ArmTalonP}
    (h : Accepted s r { cmd := 0x0308, len := 4, fields := [(0x10, (slicePairs s).contains p.cp.toNat), (0x12, p.rsv == 0)] }) :
    ∃ t, exec (.armTalon r p) s = .next t ∧ Answered s t r 0x0308 {} ∧
      t = { s with hif := t.hif, out := t.out, ctl := { s.ctl with traces := tracesArmed s p.cp.toNat p.mask } } :=
  completes_of (x := (idTaken s r).mapCtl fun c => { c with traces := tracesArmed s p.cp.toNat p.mask }) h rfl
    (congrArg (·, ({} : Reply)) (foldl_onTrace_armed p.cp.toNat p.mask (chosenTraces s p.cp.toNat p.mask) (idTaken s r))) rfl rfl rfl

end

/-- Settles O41: each command by the rule of its work; a swap that takes force keeps every loop in its place. -/
theorem controlCommands : Obligations.ControlCommands := by
  intro s r
  refine ⟨fun p => ⟨exec_shadowCoefficients_of_free, exec_shadowCoefficients_of_pending rfl⟩,
    fun p => ⟨exec_bankSwap_of_free, fun x => exec_bankSwap_of_pending⟩, fun x hone hnew hdue hlate => ?due,
    exec_bankSwapTakeForce_of_early, fun p => exec_setPoint, fun p => exec_configureTalonTrace, fun p h => ?arm⟩
  case due =>
    obtain ⟨hloops, hswaps, hrest⟩ := takeSwap_does (s := s) hlate
    refine ⟨takeSwap s x, exec_bankSwapTakeForce_of_due hone hnew hdue, ?_, fun l hl => ?_, hrest⟩
    · simp [hswaps, hone]
    · refine ⟨swappedIn x.group l, ?_, swappedIn_does x.group l⟩
      rw [hloops]
      exact List.mem_map_of_mem hl
  case arm =>
    obtain ⟨t, ht, hans, hrest⟩ := exec_armTalon h
    have htraces : t.ctl.traces = tracesArmed s p.cp.toNat p.mask := by rw [hrest]
    refine ⟨t, ht, hans, by rw [htraces]; exact hrest, fun cp hcp => ?_, fun n hn hpairs hcp hlen => ?_⟩
    · rw [htraces]
      exact getD_tracesArmed_ne s p.mask hcp
    · rw [traceOf, htraces]
      exact getD_tracesArmed s p.mask (by omega) hn (by omega)

end Sys2Proof.Machine

/-! Outputs and the direct drive (O43 to O46, 09): contactors, actuator links, strings, chains and test outputs. -/

namespace Sys2Proof.Machine

open Sys2Proof

theorem outs_of_recordsOnly {s t : State} (h : RecordsOnly s t) : t.outs = s.outs := by
  rw [h.rest]

theorem RecordsOnly.ite {s t u : State} {c : Prop} [Decidable c] (ht : RecordsOnly s t) (hu : RecordsOnly s u) :
    RecordsOnly s (if c then t else u) := by
  split
  · exact ht
  · exact hu

/-- A command on outputs that is answered OK completes with its effect on them, and passes to a dummy (06 R140). -/
theorem completed_of_passOn {i : Instr} {s : State} {r : Req} {k : Rule} {d : List Byte} {eff : State → State × Reply}
    (g : Outs → Outs) (he : exec i s = .next (gmp s r k fun _ s => passOn i (eff s)))
    (heff : eff (idTaken s r) = ((idTaken s r).mapOuts g, okWith d)) (h : Accepted s r k) :
    ∃ t, exec i s = .next t ∧ Completed s t r k (okWith d) fun s => { s with
      outs := g s.outs
      pair := if paired s = true ∧ s.sys.mode = .declarer then
        { s.pair with replays := s.pair.replays ++ [(s.clk.tick + 1, requestBytes i)] } else s.pair } :=
  completed_of_body he ((congrArg (passOn i) heff).trans (passOn_ok i _ d)) rfl rfl rfl rfl h

/-! Contactors (09 R228, R230) -/

section
variable {s : State} {r : Req} {n : Nat}

theorem contactorOf_onContactor (f : Contactor → Contactor) (h : n < s.outs.contactors.length) :
    contactorOf (s.onContactor n f) n = f (contactorOf s n) :=
  getD_updAt_same f _ _ h

theorem contactorOf_onContactor_ne (f : Contactor → Contactor) {m : Nat} (h : m ≠ n) :
    contactorOf (s.onContactor n f) m = contactorOf s m :=
  getD_updAt_ne f _ _ h

theorem contactorOf_of_recordsOnly {t : State} (h : RecordsOnly s t) (n : Nat) : contactorOf t n = contactorOf s n := by
  simp only [contactorOf, outs_of_recordsOnly h]

/-- How command 0x0403 is checked (09 R228, 13 R339). -/
def contactorRule (s : State) (p : ContactorP) : Rule where
  cmd := 0x0403
  len := 4
  fields := [(0x10, decide (p.ct.toNat < 8) && (groupOf s.cfg (0xF008 + p.ct.toNat)).isNone), (0x11, decide (p.on.toNat ≤ 1)), (0x12, p.rsv == 0)]

/-- A contactor commanded at instant `now` (09 R230, log 36). -/
def commanded (now : Nat) (on : Bool) (c : Contactor) : Contactor := { c with
  want := on
  due := now + 1
  trips := 0
  tripped := false
  blocked := false }

/-- The dwell that a command has to wait for is the one before it. -/
theorem contactorTick_commandContactor (on : Bool) (h : n < s.outs.contactors.length) :
    contactorTick (commandContactor s n on) (contactorOf (commandContactor s n on) n) = contactorTick s (contactorOf s n) := by
  rw [commandContactor, contactorOf_onContactor _ h]
  rfl

/-- A contactor command names the tick of its effect, which the dwell before the command decides, and passes to a dummy. -/
theorem exec_contactor {p : ContactorP} (hct : p.ct.toNat < s.outs.contactors.length) (h : Accepted s r (contactorRule s p)) :
    ∃ t, exec (.contactor r p) s = .next t ∧
      Completed s t r (contactorRule s p) (okWith (le 8 (contactorTick s (contactorOf s p.ct.toNat)))) fun s => { s with
        outs := { s.outs with contactors := s.outs.contactors.modify p.ct.toNat (commanded s.now (p.on == 1)) }
        pair := if paired s = true ∧ s.sys.mode = .declarer then
          { s.pair with replays := s.pair.replays ++ [(s.clk.tick + 1, requestBytes (.contactor r p))] } else s.pair } := by
  have hnamed := contactorTick_commandContactor (s := idTaken s r) (p.on == 1) hct
  exact completed_of_passOn (fun o => { o with contactors := o.contactors.modify p.ct.toNat _ }) rfl
    (Prod.ext rfl (congrArg (fun k => okWith (le 8 k)) hnamed)) h

/-- A contactor after its `k`th trip in a row: off until the next round, from the eighth on until the next command
(09 R230). -/
def switchedOff (k : Nat) (c : Contactor) : Contactor := { c with
  on := false
  trips := k
  tripped := true
  blocked := c.blocked || decide (8 ≤ k) }

theorem exec_contactorTrip_of_off (hoff : (contactorOf s n).on = false) : exec (.contactorTrip n) s = .next s :=
  congrArg Host.Outcome.next (if_pos (by simp [hoff]))

theorem exec_contactorTrip_of_on (h8 : n < 8) (hon : (contactorOf s n).on = true) :
    ∃ t, exec (.contactorTrip n) s = .next t ∧
      RecordsOnly (s.onContactor n (switchedOff ((contactorOf s n).trips + 1))) t := by
  have hfirst := recordsOnly_event (s.onContactor n (switchedOff ((contactorOf s n).trips + 1)))
  exact ⟨_, congrArg Host.Outcome.next (if_neg (by simp [hon, h8])),
    .ite ((hfirst _ _ _).trans (recordsOnly_event _ _ _ _)) (hfirst _ _ _)⟩

end

/-- Settles O44: the answer of a command names the tick that the dwell leaves; a trip switches off what was on. -/
theorem contactorCommands : Obligations.ContactorCommands := by
  intro s r hlen
  refine ⟨fun p hct => exec_contactor (by omega), fun n => rfl, fun n _ => exec_contactorTrip_of_off, fun n h8 hon => ?trip⟩
  case trip =>
    obtain ⟨t, ht, hrec⟩ := exec_contactorTrip_of_on h8 hon
    refine ⟨t, ht, ?_, fun m hm => ?_, ?_⟩
    · rw [contactorOf_of_recordsOnly hrec, contactorOf_onContactor _ (by omega)]
      rfl
    · rw [contactorOf_of_recordsOnly hrec, contactorOf_onContactor_ne _ hm]
    · rw [hrec.rest]
      rfl

/-! Actuator links (09 R216 to R227): what a notice that is placed leaves alone, then stages by link and address -/

/-- Only the mailbox, the key slots of a session that ends with it and the records may differ (05 R116, R122). -/
structure NoticeOnly (s t : State) : Prop where
  rest : t = { s with hif := t.hif, sec := t.sec, out := t.out, rcd := t.rcd, fresh := t.fresh }

theorem NoticeOnly.refl (s : State) : NoticeOnly s s := ⟨rfl⟩

theorem NoticeOnly.trans {s t u : State} (h : NoticeOnly s t) (k : NoticeOnly t u) : NoticeOnly s u := by
  obtain ⟨h⟩ := h
  obtain ⟨k⟩ := k
  refine ⟨?_⟩
  rw [k, h]

theorem RecordsOnly.noticeOnly {s t : State} (h : RecordsOnly s t) : NoticeOnly s t := by
  refine ⟨?_⟩
  rw [h.rest]

theorem SameBut.noticeOnly {s t : State} (h : SameBut s t) : NoticeOnly s t := by
  refine ⟨?_⟩
  rw [h.rest]

theorem noticeOnly_freeChan (s : State) (n : Nat) : NoticeOnly s (freeChan s n) := by
  unfold freeChan
  cases s.hif.remotes.find? fun r => r.ch == n with
  | none => exact ⟨rfl⟩
  | some r => exact ⟨rfl⟩

theorem noticeOnly_place (s : State) (n : Nat) (m : Msg) : NoticeOnly s (place s n m) := by
  have hring : ∀ f g, SameBut s (((s.mapHif f).onChan n g).irq n m.quiet) := fun f g =>
    ((sameBut_mapHif s f).trans (sameBut_onChan _ n g)).trans (sameBut_irq _ n m.quiet)
  unfold place
  simp only []
  split
  · have hmoved := fun f g => (hring f g).trans (sameBut_onChan _ n fun c => { c with rspCi := c.rspPi })
    split
    · exact (hmoved _ _).noticeOnly
    · split
      · exact (hmoved _ _).noticeOnly.trans (noticeOnly_freeChan _ n)
      · exact (((hmoved _ _).trans (sameBut_mapHif _ _)).trans (sameBut_emit _ _)).noticeOnly
  · split
    · exact (((hring _ _).trans (sameBut_onChan _ n _)).trans (sameBut_emit _ _)).noticeOnly
    · exact (hring _ _).noticeOnly

theorem noticeOnly_finishOp (s : State) (t : OpTok) (p : Reply) : NoticeOnly s (finishOp s t p) := by
  have hended : NoticeOnly s (s.mapHif fun h => { h with ops := h.ops.erase t }) := (sameBut_mapHif s _).noticeOnly
  unfold finishOp
  split
  · exact .refl s
  · refine hended.trans ?_
    simp only []
    split
    · split
      · exact (sameBut_onChan _ _ _).noticeOnly.trans (noticeOnly_place _ _ _)
      · exact (sameBut_onChan _ _ _).noticeOnly
    · exact (recordsOnly_event _ _ _ _).noticeOnly

theorem noticeOnly_finishOpt (s : State) (t : Option OpTok) (p : Reply) : NoticeOnly s (finishOpt s t p) := by
  cases t with
  | none => exact .refl s
  | some t => exact noticeOnly_finishOp s t p

theorem noticeOnly_finishIfDone (s : State) (t : Option OpTok) (p : Reply) : NoticeOnly s (finishIfDone s t p) := by
  cases t with
  | none => exact .refl s
  | some t =>
    show NoticeOnly s (if opOpen s t = true then s else finishOp s t p)
    split
    · exact .refl s
    · exact noticeOnly_finishOp s t p

/-! Stages by link and address -/

section
variable {s t : State} {link addr : Nat} {x : StageRt}

theorem stageRt_place (h : stageRt s link addr = some x) : x.link = link ∧ x.addr = addr := by
  simpa using List.find?_some h

/-- An update of a stage that leaves its link and address. -/
def KeepsPlace (f : StageRt → StageRt) : Prop := ∀ x, (f x).link = x.link ∧ (f x).addr = x.addr

theorem stageRt_onStage {f : StageRt → StageRt} (hf : KeepsPlace f) (s : State) (link addr l a : Nat) :
    stageRt (s.onStage link addr f) l a =
      (stageRt s l a).map fun x => if x.link == link && x.addr == addr then f x else x := by
  have hplace : ((fun x : StageRt => x.link == l && x.addr == a) ∘ fun x => if x.link == link && x.addr == addr then f x else x) =
      fun x => x.link == l && x.addr == a := by
    funext x
    simp only [Function.comp]
    split <;> simp [hf x]
  simp only [stageRt, State.onStage, State.mapOuts, List.find?_map, hplace]

theorem stageRt_onStage_same {f : StageRt → StageRt} (hf : KeepsPlace f) (h : stageRt s link addr = some x) :
    stageRt (s.onStage link addr f) link addr = some (f x) := by
  simp [stageRt_onStage hf, h, stageRt_place h]

theorem stageRt_onStage_ne {f : StageRt → StageRt} (hf : KeepsPlace f) (s : State) {l a : Nat} (h : (l, a) ≠ (link, addr)) :
    stageRt (s.onStage link addr f) l a = stageRt s l a := by
  rw [stageRt_onStage hf]
  cases hx : stageRt s l a with
  | none => rfl
  | some x =>
    obtain ⟨rfl, rfl⟩ := stageRt_place hx
    have hother : ¬ (x.link == link && x.addr == addr) = true := by simpa using h
    rw [Option.map_some, if_neg hother]

theorem stageRt_of_outs (h : t.outs = s.outs) (l a : Nat) : stageRt t l a = stageRt s l a := by
  simp only [stageRt, h]

/-! The frame of a slot (09 R218) -/

theorem afresh_eq (x : StageRt) (now : Nat) : afresh x now = { x with
    silentRun := if x.sentAt.any (fun t => decide (now ≤ t + 1)) then x.silentRun else 0
    nibs := if x.sentAt.any (fun t => decide (now ≤ t + 1)) then x.nibs else [] } := by
  unfold afresh
  split <;> rfl

/-- A stage that may be served and owes no reply gets its frame in its slot. -/
theorem exec_actuatorSlot_of_served {c : StageCfg} (hc : stageCfg s.cfg link addr = some c) (hx : stageRt s link addr = some x)
    (hrun : s.clk.running = true) (hserved : frameSent s c = true) (howed : x.sent = none) :
    exec (.actuatorSlot link addr) s = .next (sendStage s link addr s.clk.tick s.now (storeFrame s x (frameValue s c)).1
      (storeFrame s x (frameValue s c)).2) := by
  show Host.Outcome.next _ = _
  simp [hc, hx, hrun, hserved, howed]

/-! What came in the reply interval of a slot (09 R216) -/

theorem exec_statusReply_of_due (hx : stageRt s link addr = some x) (hsent : x.sent = some s.clk.tick)
    (hat : x.sentAt = some s.now) (f : StagePart) :
    exec (.statusReply link addr f) s = .next (if replyGood f then replyIn s x s.clk.tick f.stat else replyMissing s x) := by
  show Host.Outcome.next _ = _
  simp [hx, hsent, hat]

/-- A stage after a missing reply: the sixteenth in a row makes it SILENT (09 R227, Table 9.5). -/
def missed (run : Nat) (now : Bool) (x : StageRt) : StageRt := { x with
  missing := min 65535 (x.missing + 1)
  silentRun := run
  silent := x.silent || now
  sent := none
  nibs := [] }

/-- A missing reply counts for its stage; nothing more is done than to record that the stage falls SILENT by it. -/
theorem replyMissing_does (s : State) (x : StageRt) :
    let now := !x.silent && decide (16 ≤ x.silentRun + 1)
    let u := s.onStage x.link x.addr (missed (x.silentRun + 1) now)
    RecordsOnly u (replyMissing s x) ∧ (now = false → replyMissing s x = u) :=
  ⟨.ite (recordsOnly_event _ _ _ _) (.refl _), fun h => if_neg (Bool.eq_false_iff.1 h)⟩

theorem exec_statusReply_of_missing (hx : stageRt s link addr = some x) (hsent : x.sent = some s.clk.tick)
    (hat : x.sentAt = some s.now) {f : StagePart} (hbad : replyGood f = false) :
    let y := missed (x.silentRun + 1) (!x.silent && decide (16 ≤ x.silentRun + 1)) x
    ∃ t, exec (.statusReply link addr f) s = .next t ∧ stageRt t link addr = some y ∧
      y.silent = (x.silent || decide (16 ≤ x.silentRun + 1)) ∧ (y.silent = x.silent → t.rcd = s.rcd) ∧
      (∀ l a, (l, a) ≠ (link, addr) → stageRt t l a = stageRt s l a) ∧
      t = { s with outs := { s.outs with stages := t.outs.stages }, rcd := t.rcd, fresh := t.fresh } := by
  obtain ⟨rfl, rfl⟩ := stageRt_place hx
  obtain ⟨hrec, hquiet⟩ := replyMissing_does s x
  have hplace : ∀ run now, KeepsPlace (missed run now) := fun _ _ _ => ⟨rfl, rfl⟩
  have hstage := stageRt_of_outs (outs_of_recordsOnly hrec)
  refine ⟨replyMissing s x, ?_, ?_, by simp only [missed]; cases x.silent <;> rfl, fun hkept => ?_, fun l a hla => ?_, ?_⟩
  · rw [exec_statusReply_of_due hx hsent hat, if_neg (by simp [hbad])]
  · rw [hstage]
    exact stageRt_onStage_same (hplace _ _) hx
  · have hsame : (x.silent || (!x.silent && decide (16 ≤ x.silentRun + 1))) = x.silent := hkept
    rw [hquiet (by revert hsame; cases x.silent <;> simp)]
    rfl
  · rw [hstage]
    exact stageRt_onStage_ne (hplace _ _) s hla
  · rw [hrec.rest]
    rfl

end

/-- What may follow the first work of a good reply: a report of the stage and the store sequence that it ends or begins. -/
structure Reported (link addr : Nat) (s t : State) : Prop where
  stage : ∀ x, stageRt s link addr = some x → ∃ y, stageRt t link addr = some y ∧ y = { x with
    report := y.report
    repAge := y.repAge
    store := y.store
    autoRound := y.autoRound }
  others : ∀ l a, (l, a) ≠ (link, addr) → stageRt t l a = stageRt s l a
  claim : t.pair.claim = s.pair.claim
  rest : t = { s with
    outs := t.outs
    pair := t.pair
    hif := t.hif
    sec := t.sec
    out := t.out
    rcd := t.rcd
    fresh := t.fresh }

section
variable {link addr : Nat} {s t u : State}

theorem Reported.trans (h : Reported link addr s t) (k : Reported link addr t u) : Reported link addr s u := by
  refine ⟨fun x hx => ?_, fun l a hla => (k.others l a hla).trans (h.others l a hla), k.claim.trans h.claim, ?_⟩
  · obtain ⟨y, hy, hxy⟩ := h.stage x hx
    obtain ⟨z, hz, hyz⟩ := k.stage y hy
    refine ⟨z, hz, ?_⟩
    rw [hyz, hxy]
  · rw [k.rest, h.rest]

theorem NoticeOnly.reported (h : NoticeOnly s t) (link addr : Nat) : Reported link addr s t := by
  have houts : t.outs = s.outs := by rw [h.rest]
  refine ⟨fun x hx => ⟨x, by rw [stageRt_of_outs houts, hx], rfl⟩, fun l a _ => stageRt_of_outs houts l a, ?_, ?_⟩ <;> rw [h.rest]

theorem Reported.ite {c : Prop} [Decidable c] (ht : Reported link addr s t) (hu : Reported link addr s u) :
    Reported link addr s (if c then t else u) := by
  split
  · exact ht
  · exact hu

theorem Reported.refl (link addr : Nat) (s : State) : Reported link addr s s := (NoticeOnly.refl s).reported link addr

theorem reported_event (link addr : Nat) (s : State) (code : Nat) (d : List Byte) : Reported link addr s (s.event code d) :=
  (recordsOnly_event s code d 0).noticeOnly.reported link addr

theorem reported_mapPair {f : Pair → Pair} (hf : ∀ p, (f p).claim = p.claim) : Reported link addr s (s.mapPair f) :=
  ⟨fun x hx => ⟨x, hx, rfl⟩, fun _ _ _ => rfl, hf _, rfl⟩

theorem reported_onStage {f : StageRt → StageRt} (hf : ∀ x, f x = { x with
      report := (f x).report
      repAge := (f x).repAge
      store := (f x).store
      autoRound := (f x).autoRound }) : Reported link addr s (s.onStage link addr f) := by
  have hplace : KeepsPlace f := fun x => by rw [hf x]; exact ⟨rfl, rfl⟩
  exact ⟨fun x hx => ⟨f x, stageRt_onStage_same hplace hx, hf x⟩, fun l a h => stageRt_onStage_ne hplace s h, rfl, rfl⟩

/-- A report is kept; its store sequence ends, or a wrong safe level begins one (09 R217, R224). -/
theorem reported_reportIn (s : State) (x : StageRt) (r : Report) : Reported x.link x.addr s (reportIn s x r) := by
  unfold reportIn
  extract_lets fault kept raised noted
  have hkept : Reported x.link x.addr s kept := reported_onStage (fun _ => rfl)
  have hraised : Reported x.link x.addr kept raised := reported_mapPair (fun _ => rfl)
  have hnoted : Reported x.link x.addr raised noted := .ite (.refl _ _ _) (reported_event _ _ _ _ _)
  refine ((hkept.trans hraised).trans hnoted).trans ?_
  split
  · have hended : Reported x.link x.addr noted (noted.onStage x.link x.addr fun y => { y with store := none }) :=
      reported_onStage (fun _ => rfl)
    exact .ite (hended.trans ((noticeOnly_finishIfDone _ _ _).reported _ _)) (.refl _ _ _)
  · split
    · exact .refl _ _ _
    · exact .ite (reported_onStage (fun _ => rfl)) (.refl _ _ _)

/-- A stage after a good reply to the frame of tick number `tick`, with the nibbles of its report so far (09 R216, R217). -/
def heard (s : State) (nibs : List (BitVec 4)) (at_ tick : Nat) (stat : BitVec 6) (x : StageRt) : StageRt := { x with
  nibs := if nibs.length = 16 then [] else nibs
  nibAt := at_
  lastTick := tick
  applied := stat.getLsbD 0
  outbid := stat.getLsbD 1
  outbidTick := if stat.getLsbD 1 then some s.now else x.outbidTick
  refused := if stat.getLsbD 0 || inTakeover s then x.refused else min 65535 (x.refused + 1)
  silent := false
  silentRun := 0
  sent := none }

/-- A good reply is taken first; the end of SILENT, a stale claim and a whole report follow. -/
theorem reported_replyIn (s : State) (x : StageRt) (tick : Nat) (stat : BitVec 6) :
    ∃ nibs at_, Reported x.link x.addr (s.onStage x.link x.addr (heard s nibs at_ tick stat)) (replyIn s x tick stat) := by
  refine ⟨joinNibs x tick (if tick = s.clk.tick then s.now else s.now - 1) (stat.extractLsb' 2 4),
    if tick = s.clk.tick then s.now else s.now - 1, ?_⟩
  unfold replyIn
  extract_lets at_ nibs outbid taken told stale
  have htold : Reported x.link x.addr taken told := .ite (reported_event _ _ _ _ _) (.refl _ _ _)
  have hstale : Reported x.link x.addr told stale := .ite (reported_mapPair (fun _ => rfl)) (.refl _ _ _)
  exact (htold.trans hstale).trans (.ite (reported_reportIn _ _ _) (.refl _ _ _))

end

/-! The store sequence of a stage that has not shown its new safe level in time (09 R224) -/

/-- A stage with its store sequence in the state `st`, or without one. -/
def withStore (st : Option StageStore) (x : StageRt) : StageRt := { x with store := st }

section
variable {s : State} {link addr : Nat} {x : StageRt} {y : StageStore}

theorem exec_stageStoreTimeout_again (hx : stageRt s link addr = some x) (hy : x.store = some y) (hsent : y.phase = 2)
    (hlate : y.sentTick + 32 ≤ s.now) (hruns : y.runs < 3) (htok : y.tok ≠ none) :
    exec (.stageStoreTimeout link addr) s = .next (s.onStage link addr (withStore (some { y with phase := 0 }))) := by
  have hagain : y.runs < 3 ∧ y.tok.isSome = true := ⟨hruns, Option.isSome_iff_ne_none.2 htok⟩
  show Host.Outcome.next _ = _
  simp only [hx, hy]
  rw [if_pos ⟨hsent, hlate⟩, if_pos hagain]
  rfl

theorem exec_stageStoreTimeout_end (hx : stageRt s link addr = some x) (hy : x.store = some y) (hsent : y.phase = 2)
    (hlate : y.sentTick + 32 ≤ s.now) (hruns : 3 ≤ y.runs ∨ y.tok = none) :
    exec (.stageStoreTimeout link addr) s =
      .next (finishOpt (s.onStage link addr (withStore none)) y.tok { status := stBusy, detail := 0xFA }) := by
  have hend : ¬ (y.runs < 3 ∧ y.tok.isSome = true) := by
    rintro ⟨hfew, htok⟩
    rcases hruns with hmany | hnone
    · omega
    · simp [hnone] at htok
  show Host.Outcome.next _ = _
  simp only [hx, hy]
  rw [if_pos ⟨hsent, hlate⟩, if_neg hend]
  rfl

end

/-- Settles O43: a slot sends one frame; a missing reply counts and a good one is taken; a late store sequence begins again
or ends. -/
theorem actuatorLinks : Obligations.ActuatorLinks := by
  intro s link slot
  refine ⟨fun c x hc hx hrun hserved howed => ?sent, fun x f hx hsent hat hbad => ?missing,
    fun x f hx hsent hat hgood => ?good, fun x y hx hy hphase hlate => ⟨fun hruns htok => ?again, fun hruns => ?ended⟩⟩
  case sent =>
    rw [exec_actuatorSlot_of_served hc hx hrun hserved howed]
    simp only [sendStage, afresh_eq]
    rfl
  case missing =>
    obtain ⟨t, ht, hstage, hsilent, hquiet, hothers, hrest⟩ := exec_statusReply_of_missing hx hsent hat hbad
    exact ⟨t, _, ht, hstage, rfl, rfl, hsilent, hquiet, hothers, hrest⟩
  case good =>
    obtain ⟨rfl, rfl⟩ := stageRt_place hx
    obtain ⟨nibs, at_, hrep⟩ := reported_replyIn s x s.clk.tick f.stat
    have hplace : KeepsPlace (heard s nibs at_ s.clk.tick f.stat) := fun _ => ⟨rfl, rfl⟩
    obtain ⟨y, hy, hxy⟩ := hrep.stage _ (stageRt_onStage_same hplace hx)
    refine ⟨replyIn s x s.clk.tick f.stat, y, ?_, hy, congrArg StageRt.applied hxy, congrArg StageRt.outbid hxy,
      congrArg StageRt.silent hxy, congrArg StageRt.silentRun hxy, congrArg StageRt.sent hxy, congrArg StageRt.lastTick hxy,
      fun l a hla => ?_, (congrArg State.ctl hrep.rest :), (congrArg State.cfg hrep.rest :),
      (congrArg State.met hrep.rest :), hrep.claim⟩
    · rw [exec_statusReply_of_due hx hsent hat, if_pos hgood]
    · rw [hrep.others l a hla, stageRt_onStage_ne hplace s hla]
  case again => exact exec_stageStoreTimeout_again hx hy hphase hlate hruns htok
  case ended =>
    have hdone := noticeOnly_finishOpt (s.onStage link slot (withStore none)) y.tok { status := stBusy, detail := 0xFA }
    refine ⟨_, withStore none x, exec_stageStoreTimeout_end hx hy hphase hlate hruns, ?_, rfl, fun htok => ?_⟩
    · rw [stageRt_of_outs (by rw [hdone.rest])]
      exact stageRt_onStage_same (fun _ => ⟨rfl, rfl⟩) hx
    · rw [htok]
      rfl

/-! Sifichain, light sensors and test outputs (09 R244 to R251, 06 R147) -/

section
variable {s t : State} {r : Req} {n : Nat}

theorem chainRt_onChain (f : ChainRt → ChainRt) (h : n < s.outs.chains.length) : chainRt (s.onChain n f) n = f (chainRt s n) :=
  getD_updAt_same f _ _ h

theorem chainRt_onChain_ne (f : ChainRt → ChainRt) {m : Nat} (h : m ≠ n) : chainRt (s.onChain n f) m = chainRt s m :=
  getD_updAt_ne f _ _ h

theorem chainRt_of_recordsOnly (h : RecordsOnly s t) (n : Nat) : chainRt t n = chainRt s n := by
  simp only [chainRt, outs_of_recordsOnly h]

theorem mapOuts_of_fixed {f : Outs → Outs} (h : f s.outs = s.outs) : s.mapOuts f = s := by
  simp only [State.mapOuts, h]

/-! SCn_DO between frames (02 R52, Table 2.10) -/

theorem chainIdle_of_silent (h : s.sys.mode = .dummy ∨ s.sys.inReset = true ∨ isDealer s = true) : chainIdle s n = .hiZ := by
  unfold chainIdle
  rcases h with hmode | hreset | hdealer
  · simp [hmode]
  · simp [hreset]
  · simp [hdealer]

theorem chainIdle_of_declarer (hmode : s.sys.mode = .declarer) (hpow : s.pow.drawing = true) (hreset : s.sys.inReset = false)
    (hdealer : isDealer s = false) : chainIdle s n = .low := by
  simp [chainIdle, hmode, hpow, hreset, hdealer]

/-! Frames (09 R247, R248) -/

theorem chainDrives_of_declarer (hmode : s.sys.mode = .declarer) (hdealer : isDealer s = false) (henum : (chainRt s n).enum = none) :
    chainDrives s n = decide (0 < expectOf s n) := by
  simp [chainDrives, hmode, hdealer, henum]

theorem chainFrame_of_idle (h : chainDrives s n = false) : chainFrame s n = s :=
  if_pos (by simp [h])

/-- The blocks of a frame of a port that does not enumerate. -/
def plainBlocks (s : State) (n : Nat) : List (Nat × List U16) := (List.range (expectOf s n)).map fun k => chainBlock s n false k

@[simp] theorem length_plainBlocks (s : State) (n : Nat) : (plainBlocks s n).length = expectOf s n := by
  simp [plainBlocks]

/-- A port at work once its frame of `k` blocks and a tail is sent (09 R247). -/
def frameCounted (k : Nat) (x : ChainRt) : ChainRt := { x with
  frames := x.frames + 1
  sent := true
  sentBlocks := k + 1 }

/-- A port that drives its frames, neither enumerating nor with stores to send, sends its blocks and the tail. -/
theorem chainFrame_of_plain (hdrives : chainDrives s n = true) (henum : (chainRt s n).enum = none) (hstores : s.outs.chainStores = []) :
    chainFrame s n = ((s.onChain n (frameCounted (expectOf s n))).bump).emit (.chain n (plainBlocks s n) (chainRt s n).frames
      ((plainBlocks s n).flatMap (chainBytes s.fresh) ++ holdBytes s.fresh (le 8 (chainRt s n).frames.toNat))) := by
  unfold chainFrame
  rw [if_neg (by simp [hdrives])]
  extract_lets x e en blocks all counted sent mine done cleared
  have hen : en = false := by simp [en, x, henum]
  have hall : all = plainBlocks s n := by simp [all, blocks, hen, plainBlocks, e]
  have hdone : done = [] := by
    show List.filter _ s.outs.chainStores = []
    rw [hstores]
    rfl
  have hcleared : cleared = sent := by
    have hkept : (sent.outs.chainStores.filter fun c => !(mine c && c.left == 1)).map
        (fun c => if mine c then { c with left := c.left - 1 } else c) = sent.outs.chainStores := by
      rw [show sent.outs.chainStores = [] from hstores]
      rfl
    exact mapOuts_of_fixed (congrArg (fun l => { sent.outs with chainStores := l }) hkept)
  have hcounted : counted = s.onChain n (frameCounted (expectOf s n)) := by
    simp only [counted, hall, hen, Bool.or_false, length_plainBlocks]
    rfl
  rw [hdone, hcleared]
  simp only [List.foldl_nil, sent, hcounted, hall]
  rfl

theorem exec_sifichainFrame_of_due (hrun : s.clk.running = true) (hdue : s.clk.tick % 160 = 0) :
    exec .sifichainFrame s = .next (chainFrame (chainFrame s 0) 1) :=
  congrArg Host.Outcome.next (if_pos (by simp [hrun, hdue]))

theorem exec_sifichainFrame_of_early (hearly : s.clk.tick % 160 ≠ 0) : exec .sifichainFrame s = .next s :=
  congrArg Host.Outcome.next (if_neg (by simp [hearly]))

/-! The return of a frame (09 R247) -/

/-- A port whose frame has returned as `v` (09 R247). -/
def returned (v : ChainRet) (x : ChainRt) : ChainRt := { x with
  sent := false
  open_ := v.lineLow
  missing := if v.lineLow then 0 else v.blocks
  fault := !v.lineLow && !v.crcOk }

/-- The return of a frame that is not an enumeration sets the flags of its port; what comes up is recorded, and a whole
return brings nothing up. -/
theorem exec_chainReturnCheck_of_sent (v : ChainRet) (hsent : (chainRt s n).sent = true) (henum : (chainRt s n).enum = none) :
    ∃ t, exec (.chainReturnCheck n v) s = .next t ∧ RecordsOnly (s.onChain n (returned v)) t ∧
      (v.lineLow = false → v.blocks = 0 → v.crcOk = true → t = s.onChain n (returned v)) := by
  have hevent := fun (u : State) flag k => recordsOnly_event u 0x0406 (le 1 n ++ le 1 flag ++ le 2 k) 0
  refine ⟨_, congrArg Host.Outcome.next ((if_neg (by simp [hsent])).trans (if_neg (by simp [henum]))), ?_, fun hline hblocks hcrc => ?_⟩
  all_goals extract_lets miss fault checked opened short
  · have hopened : RecordsOnly checked opened := .ite (hevent _ _ _) (.refl _)
    have hshort : RecordsOnly opened short := .ite (hevent _ _ _) (.refl _)
    exact (hopened.trans hshort).trans (.ite (hevent _ _ _) (.refl _))
  · have hmiss : miss = 0 := by simp [miss, hblocks]
    have hfault : fault = false := by simp [fault, hcrc]
    have hopened : opened = checked := if_neg (by simp [hline])
    have hshort : short = opened := if_neg (fun h => h.1 hmiss)
    exact (if_neg (by simp [hfault])).trans (hshort.trans hopened)

/-! Light sensors (09 R251) -/

/-- Where the buses need no freeing, a declarer starts a read of both sensors of each of the four. -/
theorem exec_lightSensorRead_of_due (hrun : s.clk.running = true) (hdue : s.clk.tick % 80 = 0) (hmode : s.sys.mode = .declarer)
    (hdealer : isDealer s = false) (hfree : s.outs.busFree = false) :
    exec .lightSensorRead s = .next (((List.range 4).foldl (fun u b => u.emit (.lightBus b false)) s).mapOuts fun o => { o with
      lights := o.lights.map fun x => { x with started := some s.now, got := none } }) := by
  have hmaster : mastersLight s = true := by simp [mastersLight, hmode, hdealer]
  refine congrArg Host.Outcome.next ((if_neg (by simp [hrun, hdue, hmaster])).trans ?_)
  simp only [hfree]
  rfl

/-! Test outputs (06 R147) -/

/-- How command 0x0409 is checked (06 R147). -/
def testRule (s : State) (p : TestOutputP) : Rule where
  cmd := 0x0409
  len := 8
  fields := testChecks s p

/-- The test that command 0x0409 asks for (06 R147). -/
def askedTest (s : State) (p : TestOutputP) : TestHold where
  target := p.target.toNat
  index := p.index.toNat
  value := p.value.toNat
  endsAt := s.now + 8000 * p.hold.toNat

/-- Whether a test drives a string or a chain, which the presence rule must allow (02 R52). -/
theorem test_drives_iff (p : TestOutputP) : (p.target.toNat = 1 ∨ p.target.toNat = 2) ↔ (p.target = 1 ∨ p.target = 2) := by
  simp [← BitVec.toNat_inj]

/-- A string or a chain is not tested where the module may not drive it. -/
theorem exec_testOutput_of_barred {p : TestOutputP} (htarget : p.target = 1 ∨ p.target = 2) (hsink : maySink s = false)
    (h : Accepted s r (testRule s p)) :
    ∃ t, exec (.testOutput r p) s = .next t ∧ Completed s t r (testRule s p) { status := 0x0302, detail := 0xFB } id := by
  have hsink' : maySink (idTaken s r) = false := hsink
  exact completed_of_answer rfl (if_pos ⟨(test_drives_iff p).2 htarget, by simp [hsink']⟩) h

/-- A test is held in the place of an earlier one of the same target. -/
theorem exec_testOutput_of_free {p : TestOutputP} (hfree : p.target = 1 ∨ p.target = 2 → maySink s = true)
    (h : Accepted s r (testRule s p)) :
    ∃ t, exec (.testOutput r p) s = .next t ∧ Completed s t r (testRule s p) {} fun s => { s with
      sys := { s.sys with tests := askedTest s p :: s.sys.tests.filter fun x => !(x.target == p.target.toNat && x.index == p.index.toNat) } } := by
  have hfree' : ¬ ((p.target.toNat = 1 ∨ p.target.toNat = 2) ∧ (!maySink (idTaken s r)) = true) := by
    rintro ⟨htarget, hbarred⟩
    have hsink : maySink (idTaken s r) = true := hfree ((test_drives_iff p).1 htarget)
    simp [hsink] at hbarred
  exact completed_of_body (x := (idTaken s r).mapSys _) rfl (if_neg hfree') rfl rfl rfl rfl h

/-! Chain outputs (09 R248) -/

/-- How command 0x0407 is checked (09 R248). -/
def chainOutputsRule (p : ChainOutputsP) : Rule where
  cmd := 0x0407
  len := 8 + 8 * p.n.toNat
  fields := [(0x10, decide (p.port.toNat < 2)), (0x11, p.rsv == 0), (0x12, decide (p.first.toNat < 512)), (0x14, decide (p.first.toNat + p.n.toNat ≤ 512)), (0x16, p.rsv2 == 0)]

/-- The level at position `k` once a command has named some (09 R248). -/
def levelNamed (p : ChainOutputsP) (k : Nat) (l : List U16) : List U16 :=
  if p.first.toNat ≤ k then (p.items.map fun e => [e.l0, e.l1, e.l2, e.l3]).getD (k - p.first.toNat) l else l

theorem exec_chainOutputs {p : ChainOutputsP} (h : Accepted s r (chainOutputsRule p)) :
    ∃ t, exec (.chainOutputs r p) s = .next t ∧ Completed s t r (chainOutputsRule p) (okWith (le 8 (nextFrameTick s))) fun s => { s with
      outs := { s.outs with chains := s.outs.chains.modify p.port.toNat fun x => { x with levels := x.levels.mapIdx (levelNamed p) } }
      pair := if paired s = true ∧ s.sys.mode = .declarer then
        { s.pair with replays := s.pair.replays ++ [(s.clk.tick + 1, requestBytes (.chainOutputs r p))] } else s.pair } :=
  completed_of_passOn (fun o => { o with chains := o.chains.modify p.port.toNat _ }) rfl rfl h

end

/-- Settles O46: a frame of port 0 leaves port 1 without one to send; a return sets the flags of its own port; each command by
the rule of its work. -/
theorem chainsSensorsAndTests : Obligations.ChainsSensorsAndTests := by
  intro s r hlen
  refine ⟨fun n => ⟨chainIdle_of_silent, chainIdle_of_declarer⟩, fun p => exec_chainOutputs,
    fun hrun hdue hmode hdealer hone hzero henum henum' hstores => ?frame, exec_sifichainFrame_of_early,
    fun n v hn hsent henum => ?check, exec_lightSensorRead_of_due, fun n v => rfl,
    fun p => ⟨exec_testOutput_of_barred, exec_testOutput_of_free⟩, fun tg i => rfl⟩
  case frame =>
    have hdrives : chainDrives s 0 = true := by
      rw [chainDrives_of_declarer hmode hdealer henum]
      exact decide_eq_true hzero
    rw [exec_sifichainFrame_of_due hrun hdue, chainFrame_of_plain hdrives henum hstores, chainFrame_of_idle]
    · rfl
    · have henum1 : (chainRt (s.onChain 0 (frameCounted (expectOf s 0))) 1).enum = none := by
        rw [chainRt_onChain_ne _ (by decide), henum']
      exact (chainDrives_of_declarer (s := s.onChain 0 _) hmode hdealer henum1).trans (decide_eq_false (Nat.not_lt.2 (Nat.le_of_eq hone)))
  case check =>
    obtain ⟨t, ht, hrec, hwhole⟩ := exec_chainReturnCheck_of_sent v hsent henum
    refine ⟨t, ht, ?_, fun m hm => ?_, fun hline hblocks hcrc => ?_, ?_⟩
    · rw [chainRt_of_recordsOnly hrec, chainRt_onChain _ (by omega)]
      rfl
    · rw [chainRt_of_recordsOnly hrec, chainRt_onChain_ne _ hm]
    · rw [hwhole hline hblocks hcrc]
      rfl
    · rw [hrec.rest]
      rfl

/-! Strings (09 R233 to R243) -/

/-- Only the strings, in the same number, and the records may differ. -/
structure StringsOnly (s t : State) : Prop where
  length : t.outs.strings.length = s.outs.strings.length
  rest : t = { s with outs := { s.outs with strings := t.outs.strings }, rcd := t.rcd, fresh := t.fresh }

section
variable {s t u : State} {n : Nat}

theorem StringsOnly.refl (s : State) : StringsOnly s s := ⟨rfl, rfl⟩

theorem StringsOnly.trans (h : StringsOnly s t) (k : StringsOnly t u) : StringsOnly s u := by
  refine ⟨k.length.trans h.length, ?_⟩
  rw [k.rest, h.rest]

theorem RecordsOnly.stringsOnly (h : RecordsOnly s t) : StringsOnly s t := by
  refine ⟨?_, ?_⟩ <;> rw [h.rest]

theorem stringsOnly_onString (s : State) (n : Nat) (f : StringRt → StringRt) : StringsOnly s (s.onString n f) :=
  ⟨List.length_modify _ _ _, rfl⟩

theorem stringRt_onString (f : StringRt → StringRt) (h : n < s.outs.strings.length) :
    stringRt (s.onString n f) n = f (stringRt s n) :=
  getD_updAt_same f _ _ h

theorem stringRt_onString_ne (f : StringRt → StringRt) {m : Nat} (h : m ≠ n) : stringRt (s.onString n f) m = stringRt s m :=
  getD_updAt_ne f _ _ h

/-- What an update of one string leaves of a string, it leaves of every string. -/
theorem stringRt_onString_keeps {α : Type} {g : StringRt → α} {f : StringRt → StringRt} (hg : ∀ x, g (f x) = g x)
    (s : State) (n m : Nat) : g (stringRt (s.onString n f) m) = g (stringRt s m) := by
  by_cases hm : m = n
  · subst hm
    by_cases hlen : m < s.outs.strings.length
    · rw [stringRt_onString f hlen, hg]
    · have hout : s.outs.strings.length ≤ m := Nat.not_lt.1 hlen
      simp [stringRt, State.onString, State.mapOuts, updAt, List.getD_eq_getElem?_getD, List.getElem?_eq_none hout]
  · rw [stringRt_onString_ne f hm]

/-- An update that finds its string as it would leave it. -/
theorem onString_of_fixed {f : StringRt → StringRt} (h : n < s.outs.strings.length) (hf : f (stringRt s n) = stringRt s n) :
    s.onString n f = s := by
  have hset : updAt s.outs.strings n f = s.outs.strings := by
    rw [updAt_eq_set _ _ StringRt.reset h, show f (s.outs.strings.getD n StringRt.reset) = _ from hf]
    simp [stringRt, List.getD_eq_getElem?_getD, h]
  exact mapOuts_of_fixed (congrArg (fun l => { s.outs with strings := l }) hset)

theorem stringRt_of_recordsOnly (h : RecordsOnly s t) (n : Nat) : stringRt t n = stringRt s n := by
  simp only [stringRt, outs_of_recordsOnly h]

end

/-! The level of a string (09 R235) -/

/-- How command 0x0405 is checked (09 R235). -/
def stringLevelRule (p : StringLevelP) : Rule where
  cmd := 0x0405
  len := 8
  fields := [(0x10, decide (p.ch.toNat < 16)), (0x11, p.rsv == 0), (0x12, decide (p.level.toNat ≤ 10000)), (0x16, p.rsv2 == 0)]

theorem exec_stringLevel {s : State} {r : Req} {p : StringLevelP} (h : Accepted s r (stringLevelRule p)) :
    ∃ t, exec (.stringLevel r p) s = .next t ∧ Completed s t r (stringLevelRule p) (okWith (le 8 (s.clk.tick + 1))) fun s => { s with
      outs := { s.outs with strings := s.outs.strings.modify p.ch.toNat fun x => fadeTo x p.level.toNat p.fade.toNat }
      pair := if paired s = true ∧ s.sys.mode = .declarer then
        { s.pair with replays := s.pair.replays ++ [(s.clk.tick + 1, requestBytes (.stringLevel r p))] } else s.pair } :=
  completed_of_passOn (fun o => { o with strings := o.strings.modify p.ch.toNat _ }) rfl rfl h

/-! One window of a string (09 R240 to R242) -/

/-- What a window with the current `ma` and the pin voltage `mv` makes of a string that was `x`: the third low current in a
row sets OPEN, the third good one clears it. -/
structure Judged (c : StringCfg) (ma mv : Nat) (x y : StringRt) : Prop where
  duty : y.duty = x.duty
  lowSince : y.lowSince = x.lowSince
  headroom : y.headroom = some (mv : Int)
  failRun : y.failRun = if 2 * ma < c.maxMa then x.failRun + 1 else 0
  opens : 2 * ma < c.maxMa → 2 ≤ x.failRun → y.open_ = true
  closes : c.maxMa ≤ 2 * ma → 2 ≤ x.goodRun → y.open_ = false

/-- A window judges its string, and records what its flags become. -/
theorem windowIn_does (s : State) (n : Nat) (c : StringCfg) (ma mv : Nat) :
    ∃ f, RecordsOnly (s.onString n f) (windowIn s n c ma mv) ∧ (∀ x, (f x).duty = x.duty) ∧
      Judged c ma mv (stringRt s n) (f (stringRt s n)) := by
  unfold windowIn
  extract_lets x fail failRun goodRun op hit run sh judged told
  have htold : RecordsOnly judged told := .ite (.refl _) (recordsOnly_event _ _ _ _)
  refine ⟨_, htold.trans (.ite (.refl _) (recordsOnly_event _ _ _ _)), fun _ => rfl, rfl, rfl, rfl, ?_, fun hlow (hrun : 2 ≤ x.failRun) => ?_,
    fun hgood (hrun : 2 ≤ x.goodRun) => ?_⟩
  · simp [failRun, fail, x]
  · have hfail : failRun = x.failRun + 1 := by simp [failRun, fail, hlow]
    exact if_pos (by omega)
  · have hfail : fail = false := by simp [fail, hgood]
    have hfailRun : failRun = 0 := by simp [failRun, hfail]
    have hgoodRun : goodRun = x.goodRun + 1 := by simp [goodRun, hfail]
    exact (if_neg (by omega)).trans (if_pos (by omega))

/-- The next probe interval of a string begins (09 R242). -/
def probed (now : Nat) (x : StringRt) : StringRt := { x with lowSince := some now }

/-- A probe pulse that is due is one window of its string, from which the next interval counts (09 R242). -/
theorem exec_probePulse_of_due {s : State} {ch a : Nat} {c : StringCfg} (hlen : ch < s.outs.strings.length)
    (hc : stringCfg s ch = some c) (hlow : (stringRt s ch).lowSince = some a) (hdue : a + probeTicks c ≤ s.now) (ma mv : Nat) :
    ∃ t, exec (.probePulse ch ma mv) s = .next t ∧ Judged c ma mv (probed s.now (stringRt s ch)) (stringRt t ch) ∧
      (∀ m, m ≠ ch → stringRt t m = stringRt s m) ∧
      t = { s with outs := { s.outs with strings := t.outs.strings }, rcd := t.rcd, fresh := t.fresh } := by
  have hexec : exec (.probePulse ch ma mv) s = .next (windowIn (s.onString ch (probed s.now)) ch c ma mv) := by
    show Host.Outcome.next _ = _
    simp only [hc, hlow]
    rw [if_pos hdue]
    rfl
  obtain ⟨f, hrec, -, hjudged⟩ := windowIn_does (s.onString ch (probed s.now)) ch c ma mv
  have honly := (stringsOnly_onString s ch (probed s.now)).trans ((stringsOnly_onString _ ch f).trans hrec.stringsOnly)
  rw [stringRt_onString _ hlen] at hjudged
  refine ⟨_, hexec, ?_, fun m hm => ?_, honly.rest⟩
  · rw [stringRt_of_recordsOnly hrec, stringRt_onString f, stringRt_onString _ hlen]
    · exact hjudged
    · rwa [(stringsOnly_onString s ch _).length]
  · rw [stringRt_of_recordsOnly hrec, stringRt_onString_ne f hm, stringRt_onString_ne _ hm]

/-! One PWM period (09 R234, R237) -/

/-- Beside the records only the strings may differ, none in its duty; OPEN and the headroom stay where the duty is too low
for a pulse to be judged. -/
structure PeriodJudged (s t : State) : Prop where
  only : StringsOnly s t
  duty : ∀ n, (stringRt t n).duty = (stringRt s n).duty
  unjudged : ∀ n, (stringRt s n).duty < 315 → (stringRt t n).open_ = (stringRt s n).open_ ∧ (stringRt t n).headroom = (stringRt s n).headroom

section
variable {s t u : State}

theorem PeriodJudged.refl (s : State) : PeriodJudged s s := ⟨.refl s, fun _ => rfl, fun _ _ => ⟨rfl, rfl⟩⟩

theorem PeriodJudged.trans (h : PeriodJudged s t) (k : PeriodJudged t u) : PeriodJudged s u := by
  refine ⟨h.only.trans k.only, fun n => (k.duty n).trans (h.duty n), fun n hn => ?_⟩
  obtain ⟨hopen, hhead⟩ := h.unjudged n hn
  obtain ⟨kopen, khead⟩ := k.unjudged n (by rwa [h.duty n])
  exact ⟨kopen.trans hopen, khead.trans hhead⟩

theorem RecordsOnly.periodJudged (h : RecordsOnly s t) : PeriodJudged s t :=
  ⟨h.stringsOnly, fun n => by rw [stringRt_of_recordsOnly h], fun n _ => by rw [stringRt_of_recordsOnly h]; exact ⟨rfl, rfl⟩⟩

/-- A string with its current after derating (09 R237). -/
def derated (ma : Rat) (d : Bool) (x : StringRt) : StringRt := { x with currentMa := ma, derated := d }

theorem periodJudged_onString {f : StringRt → StringRt} (hduty : ∀ x, (f x).duty = x.duty) (hopen : ∀ x, (f x).open_ = x.open_)
    (hhead : ∀ x, (f x).headroom = x.headroom) (s : State) (n : Nat) : PeriodJudged s (s.onString n f) :=
  ⟨stringsOnly_onString _ _ _, stringRt_onString_keeps hduty s n,
    fun m _ => ⟨stringRt_onString_keeps hopen s n m, stringRt_onString_keeps hhead s n m⟩⟩

theorem periodJudged_derateOne (s : State) (n : Nat) (ma : Rat) (d : Bool) {c : Prop} [Decidable c] :
    PeriodJudged s (if c then s.onString n (derated ma d) else stringEvent (s.onString n (derated ma d)) n 1 d) := by
  have hderated : PeriodJudged s (s.onString n (derated ma d)) :=
    periodJudged_onString (f := derated ma d) (fun _ => rfl) (fun _ => rfl) (fun _ => rfl) s n
  split
  · exact hderated
  · exact hderated.trans (recordsOnly_event _ _ _ _).periodJudged

/-- Derating changes currents only (09 R237). -/
theorem periodJudged_derate (s : State) : PeriodJudged s (derate s) :=
  List.foldlRecOn _ _ (PeriodJudged.refl s) fun t ht n _ => ht.trans (periodJudged_derateOne t n _ _)

/-- A string with a pulse of at least 4 us is judged by it (09 R240). -/
theorem periodJudged_windowIn {n : Nat} (h : n < s.outs.strings.length) (c : StringCfg) (ma mv : Nat)
    (hpulse : 315 ≤ (stringRt s n).duty) : PeriodJudged s (windowIn s n c ma mv) := by
  obtain ⟨f, hrec, hduty, -⟩ := windowIn_does s n c ma mv
  refine .trans (t := s.onString n f) ⟨stringsOnly_onString _ _ _, stringRt_onString_keeps hduty _ _, fun m hm => ?_⟩ hrec.periodJudged
  have hother : m ≠ n := by
    rintro rfl
    omega
  rw [stringRt_onString_ne f hother]
  exact ⟨rfl, rfl⟩

end

/-- A module whose period has started: its strings have their duty, its sinks run if any is driven (09 R234, R238). -/
def periodStarted (s : State) : State := s.mapOuts fun o => { o with
  strings := o.strings.mapIdx fun n x => startDuty s n x
  sinksOn := (List.range 16).any fun n => (stringDrive s n).isSome }

theorem stringRt_periodStarted {s : State} {n : Nat} (h : n < s.outs.strings.length) :
    stringRt (periodStarted s) n = startDuty s n (stringRt s n) := by
  simp [periodStarted, stringRt, State.mapOuts, List.getD_eq_getElem?_getD, h]

theorem sinksOn_periodStarted (s : State) :
    (periodStarted s).outs.sinksOn = true ↔ ∃ n, n < 16 ∧ (stringDrive s n).isSome = true := by
  simp [periodStarted]

theorem duty_startDuty_of_idle {s : State} {n : Nat} {x : StringRt} (h : stringDrive s n = none ∨ x.tableMa = 0 ∨ x.tableOk = false) :
    (startDuty s n x).duty = 0 := by
  unfold startDuty
  cases hdrive : stringDrive s n with
  | none => rfl
  | some y =>
    have hno : x.tableMa = 0 ∨ (!x.tableOk) = true := by simpa [hdrive] using h
    exact if_pos hno

theorem duty_startDuty_of_driven {s : State} {n : Nat} {x : StringRt} {y : Int} (hdrive : stringDrive s n = some y)
    (hma : x.tableMa ≠ 0) (hok : x.tableOk = true) :
    (startDuty s n x).duty = if s.sys.mode = .declarer then x.dutyNext else dutyOf y := by
  simp [startDuty, hdrive, hma, hok]

theorem exec_pwmPeriod_of_asleep {s : State} (h : s.sys.mode = .off ∨ s.sys.mode = .standby) (e : PwmEnv) :
    exec (.pwmPeriod e) s = .next s :=
  congrArg Host.Outcome.next (if_pos (by simpa using h))

/-- A period starts, then its pulses are judged. -/
theorem exec_pwmPeriod_of_awake {s : State} (hlen : s.outs.strings.length = 16) (hoff : s.sys.mode ≠ .off)
    (hstandby : s.sys.mode ≠ .standby) (e : PwmEnv) :
    ∃ t, exec (.pwmPeriod e) s = .next t ∧ PeriodJudged (periodStarted s) t := by
  refine ⟨_, congrArg Host.Outcome.next (if_neg (by simp [hoff, hstandby])), ?_⟩
  refine List.foldlRecOn _ _ (periodJudged_derate (periodStarted s)) fun t ht n hn => ?_
  have hlt : n < t.outs.strings.length := by
    rw [ht.only.length]
    simpa [periodStarted, State.mapOuts, hlen] using hn
  split
  · exact ht
  · split
    · exact ht.trans (periodJudged_windowIn hlt _ _ _ ‹_›)
    · exact ht

/-! The test of adjacent pins (09 R243) -/

/-- A string with its flag ADJ_SHORT set. -/
def adjSet (x : StringRt) : StringRt := { x with adj := true }

/-- A string is marked as shorted to its neighbour, which is recorded the first time (09 R243). -/
def adjMarked (s : State) (n : Nat) : State :=
  if (stringRt s n).adj then s else stringEvent (s.onString n adjSet) n 4 true

/-- A module in which the test of the pins `n` and `n + 1` is over, and found a short. -/
def pairFound (s : State) (n : Nat) : State := s.mapOuts fun o => { o with
  adjRound := 0
  adjPairs := if o.adjPairs.contains n then o.adjPairs else n :: o.adjPairs }

theorem mem_adjPairs_pairFound (s : State) (n m : Nat) : m ∈ (pairFound s n).outs.adjPairs ↔ m = n ∨ m ∈ s.outs.adjPairs := by
  by_cases hn : n ∈ s.outs.adjPairs
  · simp only [pairFound, State.mapOuts, List.contains_iff_mem, if_pos hn]
    exact ⟨.inr, fun h => h.elim (fun h => h ▸ hn) id⟩
  · simp [pairFound, State.mapOuts, hn]

section
variable {s : State} {n : Nat}

theorem recordsOnly_adjMarked (h : n < s.outs.strings.length) : RecordsOnly (s.onString n adjSet) (adjMarked s n) := by
  unfold adjMarked
  split
  · next hset =>
    rw [onString_of_fixed h]
    · exact .refl s
    · simp [adjSet, ← hset]
  · exact recordsOnly_event _ _ _ _

theorem stringRt_adjMarked (h : n < s.outs.strings.length) (m : Nat) :
    stringRt (adjMarked s n) m = if m = n then adjSet (stringRt s n) else stringRt s m := by
  rw [stringRt_of_recordsOnly (recordsOnly_adjMarked h)]
  by_cases hm : m = n
  · subst hm
    rw [stringRt_onString _ h, if_pos rfl]
  · rw [stringRt_onString_ne _ hm, if_neg hm]

/-- Two neighbours are marked, and no other string. -/
theorem adjMarked_pair (h : n + 1 < s.outs.strings.length) :
    let t := adjMarked (adjMarked s n) (n + 1)
    (stringRt t n).adj = true ∧ (stringRt t (n + 1)).adj = true ∧
      (∀ m, m ≠ n → m ≠ n + 1 → stringRt t m = stringRt s m) ∧ StringsOnly s t := by
  have hmarked : ∀ {u : State} {k}, k < u.outs.strings.length → StringsOnly u (adjMarked u k) := fun hk =>
    (stringsOnly_onString _ _ _).trans (recordsOnly_adjMarked hk).stringsOnly
  have hhere := hmarked (Nat.lt_of_succ_lt h)
  have hnext : n + 1 < (adjMarked s n).outs.strings.length := by rwa [hhere.length]
  refine ⟨?_, ?_, fun m hm hm' => ?_, hhere.trans (hmarked hnext)⟩
  · simp [stringRt_adjMarked hnext, stringRt_adjMarked (Nat.lt_of_succ_lt h), adjSet]
  · simp [stringRt_adjMarked hnext, adjSet]
  · simp [stringRt_adjMarked hnext, stringRt_adjMarked (Nat.lt_of_succ_lt h), hm, hm']

theorem exec_adjShortTest_of_found (h15 : n < 15) (hmode : s.sys.mode = .declarer) (hdue : 3600 ≤ s.outs.adjRound)
    (hcfg : (stringCfg s n).isSome = true) (hcfg' : (stringCfg s (n + 1)).isSome = true) :
    exec (.adjShortTest [n]) s = .next (adjMarked (adjMarked (pairFound s n) n) (n + 1)) := by
  refine congrArg Host.Outcome.next ((if_neg (by simp [hmode, hdue])).trans ?_)
  extract_lets u
  have hone : [n].filter (fun n => decide (n < 15) && (stringCfg u n).isSome && (stringCfg u (n + 1)).isSome) = [n] := by
    have hu : stringCfg u = stringCfg s := rfl
    simp [hu, h15, hcfg, hcfg']
  rw [hone]
  rfl

end

/-! A fault of the adaptive supply (09 R240) -/

/-- A string with its flag SUPPLY_FAULT as given. -/
def supplySet (low : Bool) (x : StringRt) : StringRt := { x with supplyFault := low }

/-- What a change of ASC_FLT_N does to a string; it is recorded for one that is configured (09 R240). -/
def supplyMarked (low : Bool) (s : State) (n : Nat) : State :=
  if (stringRt s n).supplyFault = low then s
  else if (stringCfg s n).isSome then stringEvent (s.onString n (supplySet low)) n 5 low
  else s.onString n (supplySet low)

theorem recordsOnly_supplyMarked {s : State} {n : Nat} (low : Bool) (h : n < s.outs.strings.length) :
    RecordsOnly (s.onString n (supplySet low)) (supplyMarked low s n) := by
  unfold supplyMarked
  split
  · next hset =>
    rw [onString_of_fixed h]
    · exact .refl s
    · simp [supplySet, ← hset]
  · exact .ite (recordsOnly_event _ _ _ _) (.refl _)

/-- The first `k` strings marked one after the other: each of them once, the others not at all. -/
theorem foldl_supplyMarked (low : Bool) (s : State) {k : Nat} (hk : k ≤ s.outs.strings.length) :
    StringsOnly s ((List.range k).foldl (supplyMarked low) s) ∧
      ∀ n, stringRt ((List.range k).foldl (supplyMarked low) s) n = if n < k then supplySet low (stringRt s n) else stringRt s n := by
  induction k with
  | zero => exact ⟨.refl s, fun n => rfl⟩
  | succ k ih =>
    obtain ⟨honly, hmarked⟩ := ih (by omega)
    rw [List.range_succ, List.foldl_append, List.foldl_cons, List.foldl_nil]
    have hlt : k < ((List.range k).foldl (supplyMarked low) s).outs.strings.length := by
      rw [honly.length]
      omega
    have hrec := recordsOnly_supplyMarked low hlt
    refine ⟨honly.trans ((stringsOnly_onString _ _ _).trans hrec.stringsOnly), fun n => ?_⟩
    rw [stringRt_of_recordsOnly hrec]
    by_cases hn : n = k
    · subst hn
      rw [stringRt_onString _ hlt, hmarked]
      simp
    · rw [stringRt_onString_ne _ hn, hmarked]
      have hsame : (n < k + 1) = (n < k) := propext ⟨fun h => by omega, fun h => by omega⟩
      simp only [hsame]

theorem exec_supplyFault (low : Bool) (s : State) :
    exec (.supplyFault low) s = .next ((List.range 16).foldl (supplyMarked low) s) := rfl

/-- Settles O45: each string by the rule of its work; what a loop over the strings keeps is kept by each of its steps. -/
theorem stringsAndTheAdaptiveSupply : Obligations.StringsAndTheAdaptiveSupply := by
  intro s r hlen
  refine ⟨fun p => exec_stringLevel, fun h e => exec_pwmPeriod_of_asleep h e, fun e hoff hstandby => ?period,
    fun ch ma mv c a hch hc hlow hdue => ?probe, fun n h15 hmode hdue hcfg hcfg' => ?adjacent, fun low => ?supply⟩
  case period =>
    obtain ⟨t, ht, hjudged⟩ := exec_pwmPeriod_of_awake hlen hoff hstandby e
    have hduty : ∀ n, n < 16 → (stringRt t n).duty = (startDuty s n (stringRt s n)).duty := fun n hn => by
      rw [hjudged.duty, stringRt_periodStarted (by omega)]
    refine ⟨t, ht, ?_, ?_, fun n hn => ⟨fun hidle => ?_, fun y hdrive hma hok => ?_, fun hlow => ?_⟩⟩
    · rw [hjudged.only.rest]
      rfl
    · rw [hjudged.only.rest]
      exact sinksOn_periodStarted s
    · rw [hduty n hn, duty_startDuty_of_idle hidle]
    · rw [hduty n hn, duty_startDuty_of_driven hdrive hma hok]
    · have hkept := hjudged.unjudged n (by rwa [← hjudged.duty])
      rwa [stringRt_periodStarted (by omega)] at hkept
  case probe =>
    obtain ⟨t, ht, hjudged, hothers, hrest⟩ := exec_probePulse_of_due (by omega) hc hlow hdue ma mv
    exact ⟨t, ht, hjudged.lowSince, hjudged.headroom, hjudged.failRun, hjudged.opens, hjudged.closes, hothers, hrest⟩
  case adjacent =>
    obtain ⟨hhere, hnext, hothers, honly⟩ := adjMarked_pair (s := pairFound s n) (n := n)
      (show n + 1 < s.outs.strings.length by omega)
    have houts : (adjMarked (adjMarked (pairFound s n) n) (n + 1)).outs.adjPairs = (pairFound s n).outs.adjPairs := by
      rw [honly.rest]
    refine ⟨_, exec_adjShortTest_of_found h15 hmode hdue hcfg hcfg', ?_, hhere, hnext, ?_, fun m hm => ?_, hothers, ?_⟩
    · rw [honly.rest]
      rfl
    · rw [houts, mem_adjPairs_pairFound]
      exact .inl rfl
    · rw [houts, mem_adjPairs_pairFound]
      exact or_iff_right hm
    · rw [honly.rest]
      rfl
  case supply =>
    obtain ⟨honly, hmarked⟩ := foldl_supplyMarked low s (k := 16) (by omega)
    refine ⟨_, exec_supplyFault low s, fun n hn => ?_, honly.rest⟩
    rw [hmarked, if_pos hn]
    rfl

end Sys2Proof.Machine
